-- ==== Sys2Proof/Word.lean ====
section
/-! DEFINITION. Word types: bytes, 32-bit register words (R7) and 512-bit descriptors (R108), the keys of the model's finite maps, and the records that commands carry: a core, an error record, packets and messages of the networks. -/

namespace Sys2Proof

/-- One byte of any memory. -/
abbrev Byte := BitVec 8

/-- A register is 32 bits wide (R7). -/
abbrev Word := BitVec 32

/-- A descriptor, a bulk-packet header and a queue entry are 64 bytes (R108, R241, R321). -/
abbrev Line := BitVec 512

/-- A key of one of the model's finite maps: the numbers that name a place (a site, a page, a slot, an entry). -/
abbrev Key := List Nat

/-- A physical core (R26). -/
structure CoreId where
  site : Nat
  slot : Nat
  deriving DecidableEq, Repr

/-- An error record (R12); SEQ is given by the steward. -/
structure Rec where
  code : Nat
  site : Nat
  unit : Nat
  sev : Nat
  lost : Bool := false
  master : Nat := 0xFFF
  time : Nat := 0
  info0 : Nat := 0
  info1 : Nat := 0
  info2 : Nat := 0
  seq : Nat := 0
  deriving DecidableEq, Repr

/-- A bulk packet (R240, R241): the header's fields and the data flits' bytes. -/
structure Pkt where
  type : Nat
  vc : Nat := 0
  lane : Nat := 0
  dest : Nat
  dunit : Nat := 0x1F
  src : Nat
  sunit : Nat := 0x1F
  master : Nat := 0xFFF
  addr : Nat := 0
  len : Nat := 0
  space : Nat := 0
  fmt : Nat := 0
  rnd : Bool := false
  ovf : Bool := false
  tag : Nat := 0
  fence : Nat := 0
  group : Nat := 0
  xfer : Nat := 0
  count : Nat := 0
  bmask : Nat := 0
  status : Nat := 0
  inl : List Byte := []
  crc : Nat := 0
  data : List Byte := []
  deriving DecidableEq, Repr

/-- A control message (R266): header fields and the further words. -/
structure CtlMsg where
  type : Nat
  dest : Nat
  src : Nat
  tag : Nat := 0
  words : List Nat := []
  deriving DecidableEq, Repr

/-- A sync message (R270). -/
structure SyncMsg where
  type : Nat
  dest : Nat
  cell : Nat
  value : Nat
  src : Nat
  slot : Nat
  cons : Bool := false
  deriving DecidableEq, Repr

/-- A Mesoax flit as its sender forms it (R365, R366): its 64 bytes, SEQ, CTL and ARG, and the VC and lane of its packet as 2 × VC + lane. -/
structure Flit where
  data : List Byte
  seq : Nat
  ctl : Nat := 0xF
  arg : Nat := 0
  pair : Nat := 0
  deriving DecidableEq, Repr

/-- A Grove packet (R387): its header's fields, its payload, its CRC, and whether a switch marked it CE. -/
structure GPkt where
  type : Nat
  flags : Nat := 0
  member : Nat
  die : Nat
  toMember : Nat
  toDie : Nat
  psn : Nat := 0
  apsn : Nat := 0
  arg : Nat := 0
  ce : Nat := 0
  npkt : Nat := 0
  data : List Byte := []
  crc : Nat := 0
  marked : Bool := false
  deriving DecidableEq, Repr

/-- What the checking hardware finds in one lane instruction (R171, R172, R195): nothing, a shadow mismatch of a lane, or a parity failure of the word at a core-local address. -/
inductive LaneEvent where
  | clean
  | shadow (lane : Nat)
  | parity (addr : Nat)
  deriving DecidableEq, Repr

/-- What a stack finds when it serves a request from its cache (R212, R223): how often in a row the first sector read out fails its CRC, and whether both copies of its line's tag fail parity. -/
structure StkEvent where
  crcFails : Nat := 0
  tagFails : Bool := false
  deriving DecidableEq, Repr

/-- The results of a DIGEST as its registers hold them (R221, R234). -/
structure DigestW where
  sum : Nat
  sumsq : Nat
  maxabs : Nat
  count : Nat
  nonfin : Nat
  deriving DecidableEq, Repr

/-- A PTP message of the two-step delay request-response mechanism (R396): Sync, Follow_Up with the time Sync left, Delay_Resp with the time Delay_Req arrived; times in ns. -/
inductive PtpMsg where
  | sync (seq : Nat)
  | followUp (seq t1 : Nat)
  | delayResp (seq t4 : Nat)
  deriving DecidableEq, Repr

/-- What the work of a bring-up step found (R520 to R524): whether the loaded steward's boot ROM passed its self-test, the sites and cores that failed, the rows newly mapped onto spares (stack, channel, bank, spare, row), the reference delay measured at each site in ps, the step's duration in ms. -/
structure StepRes where
  romOk : Bool := true
  badSites : List Nat := []
  badCores : List CoreId := []
  rows : List (Nat × Nat × Nat × Nat × Nat) := []
  tdly : List (Nat × Nat) := []
  ms : Nat := 0
  deriving DecidableEq, Repr

end Sys2Proof
end

