-- ==== Sys2Proof/Syntax.lean ====
section
/-! DEFINITION. The commands of the panel: Instr, one constructor per row of spec/opcode_table.json, in its order. A command with a core names it by site and slot; one that brings a message, a record or the outcome of a unit's work carries it (log 8). -/

namespace Sys2Proof

/-- The commands. -/
inductive Instr where
  /-- REGISTER_WRITE (R10). -/
  | registerWrite (site page off value master src : Nat)
  /-- PG_RESET (R40). -/
  | pgReset (site page : Nat)
  /-- CB_DBG_DATA_ACCESS (R200). -/
  | cbDbgDataAccess (c : CoreId) (w : Option Nat)
  /-- SQ_SEED_HI_WRITE (R147). -/
  | sqSeedHiWrite (c : CoreId) (value : Nat)
  /-- CORE_HALT (R145). -/
  | coreHalt (c : CoreId) (value : Bool)
  /-- CORE_STEP (R145). -/
  | coreStep (c : CoreId)
  /-- WAIT_SET_EVAL (R112). -/
  | waitSetEval (c : CoreId)
  /-- WAIT_SET_TIMEOUT (R113). -/
  | waitSetTimeout (c : CoreId)
  /-- NOP (R139). -/
  | nop (c : CoreId)
  /-- HALT (R139). -/
  | halt (c : CoreId)
  /-- STEP_END (R140). -/
  | stepEnd (c : CoreId)
  /-- HINT (R141). -/
  | hint (c : CoreId)
  /-- JUMP (R138). -/
  | jump (c : CoreId)
  /-- CALL (R138). -/
  | call (c : CoreId)
  /-- RET (R138). -/
  | ret (c : CoreId)
  /-- LOOP (R137). -/
  | loop (c : CoreId)
  /-- ENDLOOP (R137). -/
  | endloop (c : CoreId)
  /-- SIGNAL (R134). -/
  | signal (c : CoreId)
  /-- WAIT (R135). -/
  | wait (c : CoreId)
  /-- BARRIER (R136). -/
  | barrier (c : CoreId)
  /-- ENQ (R142). -/
  | enq (c : CoreId)
  /-- LOAD (R131). -/
  | load (c : CoreId)
  /-- STORE (R131). -/
  | store (c : CoreId)
  /-- COPY (R131). -/
  | copy (c : CoreId)
  /-- FILL (R131). -/
  | fill (c : CoreId)
  /-- ACCUM (R131). -/
  | accum (c : CoreId)
  /-- MCAST (R262). -/
  | mcast (c : CoreId)
  /-- GATHER (R132). -/
  | gather (c : CoreId)
  /-- SCATTER (R132). -/
  | scatter (c : CoreId)
  /-- VRUN (R152). -/
  | vrun (c : CoreId)
  /-- VREDUCE (R170). -/
  | vreduce (c : CoreId)
  /-- MM (R127). -/
  | mm (c : CoreId)
  /-- MM_ACC (R127). -/
  | mmAcc (c : CoreId)
  /-- PBP (R94). -/
  | pbp (c : CoreId)
  /-- DESC_COMPLETE (R123). -/
  | descComplete (c : CoreId)
  /-- DESC_FAIL (R124). -/
  | descFail (c : CoreId)
  /-- TILE_SEGMENT_END (R101). -/
  | tileSegmentEnd (c : CoreId) (flips : List (Nat × Nat)) (parity : Option Nat)
  /-- TILE_CONVERT_DONE (R88). -/
  | tileConvertDone (c : CoreId) (parity : Option Nat)
  /-- STREAM_WRITEBACK_DONE (R155). -/
  | streamWritebackDone (c : CoreId) (ev : LaneEvent)
  /-- LANE_NOP (R159). -/
  | laneNop (c : CoreId) (ev : LaneEvent)
  /-- END (R168). -/
  | laneEnd (c : CoreId) (ev : LaneEvent)
  /-- JMP (R168). -/
  | laneJmp (c : CoreId) (ev : LaneEvent)
  /-- BANY (R168). -/
  | laneBany (c : CoreId) (ev : LaneEvent)
  /-- BNONE (R168). -/
  | laneBnone (c : CoreId) (ev : LaneEvent)
  /-- MOVI (R159). -/
  | laneMovi (c : CoreId) (ev : LaneEvent)
  /-- MOVHI (R159). -/
  | laneMovhi (c : CoreId) (ev : LaneEvent)
  /-- MOVLO (R159). -/
  | laneMovlo (c : CoreId) (ev : LaneEvent)
  /-- MOV (R159). -/
  | laneMov (c : CoreId) (ev : LaneEvent)
  /-- MOVS (R160). -/
  | laneMovs (c : CoreId) (ev : LaneEvent)
  /-- LDS (R154). -/
  | laneLds (c : CoreId) (ev : LaneEvent)
  /-- STS (R155). -/
  | laneSts (c : CoreId) (ev : LaneEvent)
  /-- IADD (R162). -/
  | laneIadd (c : CoreId) (ev : LaneEvent)
  /-- ISUB (R162). -/
  | laneIsub (c : CoreId) (ev : LaneEvent)
  /-- IMUL (R162). -/
  | laneImul (c : CoreId) (ev : LaneEvent)
  /-- IMIN (R159). -/
  | laneImin (c : CoreId) (ev : LaneEvent)
  /-- IMAX (R159). -/
  | laneImax (c : CoreId) (ev : LaneEvent)
  /-- AND (R159). -/
  | laneAnd (c : CoreId) (ev : LaneEvent)
  /-- OR (R159). -/
  | laneOr (c : CoreId) (ev : LaneEvent)
  /-- XOR (R159). -/
  | laneXor (c : CoreId) (ev : LaneEvent)
  /-- SHL (R159). -/
  | laneShl (c : CoreId) (ev : LaneEvent)
  /-- SHR (R159). -/
  | laneShr (c : CoreId) (ev : LaneEvent)
  /-- SAR (R159). -/
  | laneSar (c : CoreId) (ev : LaneEvent)
  /-- IADDI (R159). -/
  | laneIaddi (c : CoreId) (ev : LaneEvent)
  /-- ICMP (R159). -/
  | laneIcmp (c : CoreId) (ev : LaneEvent)
  /-- ICMPI (R159). -/
  | laneIcmpi (c : CoreId) (ev : LaneEvent)
  /-- FADD (R161). -/
  | laneFadd (c : CoreId) (ev : LaneEvent)
  /-- FSUB (R161). -/
  | laneFsub (c : CoreId) (ev : LaneEvent)
  /-- FMUL (R161). -/
  | laneFmul (c : CoreId) (ev : LaneEvent)
  /-- FMA (R161). -/
  | laneFma (c : CoreId) (ev : LaneEvent)
  /-- FNMA (R161). -/
  | laneFnma (c : CoreId) (ev : LaneEvent)
  /-- FMIN (R161). -/
  | laneFmin (c : CoreId) (ev : LaneEvent)
  /-- FMAX (R161). -/
  | laneFmax (c : CoreId) (ev : LaneEvent)
  /-- FABS (R159). -/
  | laneFabs (c : CoreId) (ev : LaneEvent)
  /-- FNEG (R159). -/
  | laneFneg (c : CoreId) (ev : LaneEvent)
  /-- FCMP (R161). -/
  | laneFcmp (c : CoreId) (ev : LaneEvent)
  /-- SEL (R159). -/
  | laneSel (c : CoreId) (ev : LaneEvent)
  /-- EXP2 (R165). -/
  | laneExp2 (c : CoreId) (ev : LaneEvent)
  /-- LOG2 (R165). -/
  | laneLog2 (c : CoreId) (ev : LaneEvent)
  /-- RCP (R165). -/
  | laneRcp (c : CoreId) (ev : LaneEvent)
  /-- RSQ (R165). -/
  | laneRsq (c : CoreId) (ev : LaneEvent)
  /-- CVTIF (R159). -/
  | laneCvtif (c : CoreId) (ev : LaneEvent)
  /-- CVTFI (R162). -/
  | laneCvtfi (c : CoreId) (ev : LaneEvent)
  /-- CVTQ (R164). -/
  | laneCvtq (c : CoreId) (ev : LaneEvent)
  /-- PK16 (R163). -/
  | lanePk16 (c : CoreId) (ev : LaneEvent)
  /-- UPK16 (R163). -/
  | laneUpk16 (c : CoreId) (ev : LaneEvent)
  /-- HADD (R163). -/
  | laneHadd (c : CoreId) (ev : LaneEvent)
  /-- HSUB (R163). -/
  | laneHsub (c : CoreId) (ev : LaneEvent)
  /-- HMUL (R163). -/
  | laneHmul (c : CoreId) (ev : LaneEvent)
  /-- HFMA (R163). -/
  | laneHfma (c : CoreId) (ev : LaneEvent)
  /-- HMIN (R163). -/
  | laneHmin (c : CoreId) (ev : LaneEvent)
  /-- HMAX (R163). -/
  | laneHmax (c : CoreId) (ev : LaneEvent)
  /-- SHFL (R166). -/
  | laneShfl (c : CoreId) (ev : LaneEvent)
  /-- SHFLX (R166). -/
  | laneShflx (c : CoreId) (ev : LaneEvent)
  /-- RED (R166). -/
  | laneRed (c : CoreId) (ev : LaneEvent)
  /-- RAND (R167). -/
  | laneRand (c : CoreId) (ev : LaneEvent)
  /-- SEED (R167). -/
  | laneSeed (c : CoreId) (ev : LaneEvent)
  /-- PAND (R159). -/
  | lanePand (c : CoreId) (ev : LaneEvent)
  /-- POR (R159). -/
  | lanePor (c : CoreId) (ev : LaneEvent)
  /-- PNOT (R159). -/
  | lanePnot (c : CoreId) (ev : LaneEvent)
  /-- DIEMEM_SLOT_ACCESS (R185). -/
  | diememSlotAccess (c : CoreId) (addr len : Nat) (data : Option (List Byte)) (fails : Bool) (id : Nat)
  /-- DIEMEM_REREAD (R195). -/
  | diememReread (c : CoreId) (good : Bool)
  /-- DIEMEM_REGION_WRITE (R202). -/
  | diememRegionWrite (site value : Nat)
  /-- DIEMEM_SCRUB (R202). -/
  | diememScrub (site region : Nat)
  /-- SCRUB_DONE (R192). -/
  | scrubDone (site region : Nat)
  /-- CORE_ZERO_FILL_DONE (R192). -/
  | coreZeroFillDone (c : CoreId)
  /-- MEM_FILL_COPY_DONE (R193). -/
  | memFillCopyDone (c : CoreId)
  /-- LINE_FILL_DONE (R211). -/
  | lineFillDone (site line bad : Nat)
  /-- CRC_REREAD_DONE (R223). -/
  | crcRereadDone (site : Nat) (good : Bool)
  /-- CHANNEL_CONTACT_LOST (R224). -/
  | channelContactLost (site channel : Nat)
  /-- SC_FLUSH (R213). -/
  | scFlush (site : Nat)
  /-- SC_INVAL (R213). -/
  | scInval (site : Nat)
  /-- FLUSH_DONE (R213). -/
  | flushDone (site : Nat)
  /-- SC_SLEEP_WRITE (R228). -/
  | scSleepWrite (site : Nat) (value : Bool)
  /-- SELF_REFRESH_ENTERED (R228). -/
  | selfRefreshEntered (site : Nat)
  /-- WAKE_DONE (R228). -/
  | wakeDone (site : Nat)
  /-- REFRESH_TICK (R227). -/
  | refreshTick (site channel : Nat)
  /-- PREFETCH_FILL_DONE (R214). -/
  | prefetchFillDone (site line bad : Nat)
  /-- PF_IDLE_EXPIRE (R214). -/
  | pfIdleExpire (site entry : Nat)
  /-- ACCUM_APPLIED (R218). -/
  | accumApplied (site : Nat)
  /-- DG_GO (R221). -/
  | dgGo (site : Nat)
  /-- DIGEST_DONE (R221). -/
  | digestDone (site : Nat)
  /-- MG_START (R231). -/
  | mgStart (site : Nat)
  /-- MG_ABORT (R231). -/
  | mgAbort (site : Nat)
  /-- MG_RELEASE (R231). -/
  | mgRelease (site : Nat)
  /-- MG_LINE_COPY_ACK (R231). -/
  | mgLineCopyAck (site : Nat)
  /-- READ (R206). -/
  | read (site : Nat) (p : Pkt) (ev : StkEvent)
  /-- WRITE (R206). -/
  | write (site : Nat) (p : Pkt)
  /-- WRITE_PARTIAL (R211). -/
  | writePartial (site : Nat) (p : Pkt) (ev : StkEvent)
  /-- FETCH (R126). -/
  | fetch (site : Nat) (p : Pkt) (ev : StkEvent)
  /-- PREFETCH (R215). -/
  | prefetch (site : Nat) (p : Pkt)
  /-- ACCUM_PACKET (R257). -/
  | accumPacket (site : Nat) (p : Pkt)
  /-- MCAST_PACKET (R260). -/
  | mcastPacket (site : Nat) (p : Pkt) (room : Bool)
  /-- READ_RSP (R254). -/
  | readRsp (site : Nat) (p : Pkt)
  /-- WRITE_ACK (R123). -/
  | writeAck (site : Nat) (p : Pkt)
  /-- ACCUM_ACK (R257). -/
  | accumAck (site : Nat) (p : Pkt)
  /-- MCAST_ACK (R262). -/
  | mcastAck (site : Nat) (p : Pkt)
  /-- MCAST_DROP (R262). -/
  | mcastDrop (site : Nat) (p : Pkt)
  /-- RSP_TIMEOUT (R254). -/
  | rspTimeout (site unit tag : Nat)
  /-- MCAST_HOLD_TIMEOUT (R261). -/
  | mcastHoldTimeout (site : Nat)
  /-- MCAST_HOLD_EJECT (R260). -/
  | mcastHoldEject (site : Nat)
  /-- RD (R266). -/
  | rd (m : CtlMsg)
  /-- WR (R266). -/
  | wr (m : CtlMsg)
  /-- RD_RSP (R266). -/
  | rdRsp (m : CtlMsg)
  /-- WR_ACK (R266). -/
  | wrAck (m : CtlMsg)
  /-- DOORBELL_TAIL (R319). -/
  | doorbellTail (m : CtlMsg)
  /-- DOORBELL_RESERVE (R320). -/
  | doorbellReserve (m : CtlMsg)
  /-- DOORBELL_PUBLISH (R320). -/
  | doorbellPublish (m : CtlMsg)
  /-- ERREC (R491). -/
  | errec (r : Rec)
  /-- NOTICE_BIND (R310). -/
  | noticeBind (m : CtlMsg)
  /-- NOTICE_DISPATCH (R322). -/
  | noticeDispatch (m : CtlMsg)
  /-- NOTICE_PREEMPT (R315). -/
  | noticePreempt (m : CtlMsg)
  /-- NOTICE_SAVED (R315). -/
  | noticeSaved (m : CtlMsg)
  /-- NOTICE_BOUND (R310). -/
  | noticeBound (m : CtlMsg)
  /-- NOTICE_HALTED (R324). -/
  | noticeHalted (m : CtlMsg)
  /-- NOTICE_GRANT (R320). -/
  | noticeGrant (m : CtlMsg)
  /-- NOTICE_FULL (R320). -/
  | noticeFull (m : CtlMsg)
  /-- NOTICE_DB_ACK (R320). -/
  | noticeDbAck (m : CtlMsg)
  /-- NOTICE_STOP (R498). -/
  | noticeStop (m : CtlMsg)
  /-- STEP_ARRIVAL (R140). -/
  | stepArrival (m : CtlMsg)
  /-- STEP_RELEASE (R333). -/
  | stepRelease (part : Nat)
  /-- STEP_RELEASE_RECEIVE (R140). -/
  | stepReleaseReceive (m : CtlMsg)
  /-- MRD (R268). -/
  | mrd (m : CtlMsg)
  /-- MWR (R268). -/
  | mwr (m : CtlMsg)
  /-- MRSP (R268). -/
  | mrsp (m : CtlMsg)
  /-- SYNC_SIGNAL (R284). -/
  | syncSignal (m : SyncMsg)
  /-- SYNC_WAIT (R287). -/
  | syncWait (m : SyncMsg)
  /-- SYNC_CANCEL (R288). -/
  | syncCancel (m : SyncMsg)
  /-- SYNC_ARRIVE (R290). -/
  | syncArrive (m : SyncMsg)
  /-- SYNC_WAKE (R282). -/
  | syncWake (m : SyncMsg)
  /-- SYNC_BROKEN (R296). -/
  | syncBroken (m : SyncMsg)
  /-- WAIT_RESEND (R287). -/
  | waitResend (site slot : Nat)
  /-- SY_VALUE_WRITE (R298). -/
  | syValueWrite (site value : Nat)
  /-- SY_OWNER_WRITE (R298). -/
  | syOwnerWrite (site value : Nat)
  /-- SY_CMD_SIGNAL (R299). -/
  | syCmdSignal (site src : Nat)
  /-- SY_CMD_BREAK (R299). -/
  | syCmdBreak (site : Nat)
  /-- SY_CMD_PURGE (R299). -/
  | syCmdPurge (site : Nat)
  /-- SY_CMD_SNAPSHOT (R299). -/
  | syCmdSnapshot (site : Nat)
  /-- SY_CMD_RESTORE (R294). -/
  | syCmdRestore (site : Nat)
  /-- SY_CMD_CLEAR (R299). -/
  | syCmdClear (site : Nat)
  /-- SY_CMD_DONE (R299). -/
  | syCmdDone (site : Nat)
  /-- SY_XLT_INV (R281). -/
  | syXltInv (site : Nat)
  /-- CX_CREATE (R337). -/
  | cxCreate
  /-- CX_PREEMPT (R315). -/
  | cxPreempt
  /-- CX_REMAP (R311). -/
  | cxRemap
  /-- CX_RESET (R317). -/
  | cxReset
  /-- CX_TEARDOWN (R317). -/
  | cxTeardown
  /-- CX_PART_SET (R304). -/
  | cxPartSet
  /-- CX_PART_CLEAR (R337). -/
  | cxPartClear
  /-- CX_FENCE_ON (R333). -/
  | cxFenceOn
  /-- CX_FENCE_OFF (R333). -/
  | cxFenceOff
  /-- CX_ACL_SET (R329). -/
  | cxAclSet
  /-- CX_WIN_SET (R329). -/
  | cxWinSet
  /-- PREEMPT_DECISION (R314). -/
  | preemptDecision (queue : Nat)
  /-- PRE_TMO_EXPIRE (R316). -/
  | preTmoExpire (ctx : Nat)
  /-- CORE_SAVE_DONE (R313). -/
  | coreSaveDone (c : CoreId)
  /-- CORE_RESTORE_DONE (R310). -/
  | coreRestoreDone (c : CoreId)
  /-- ENTRY_START (R322). -/
  | entryStart (queue : Nat)
  /-- QU_ENABLE_WRITE (R338). -/
  | quEnableWrite (queue : Nat) (value : Bool)
  /-- QU_RESTART (R325). -/
  | quRestart (queue : Nat)
  /-- QU_FLUSH (R324). -/
  | quFlush (queue : Nat)
  /-- AC_RD_HI_WRITE (R330). -/
  | acRdHiWrite (site value : Nat)
  /-- AC_WR_HI_WRITE (R330). -/
  | acWrHiWrite (site value : Nat)
  /-- AC_FENCE_HI_WRITE (R330). -/
  | acFenceHiWrite (site value : Nat)
  /-- AC_WLIMIT_WRITE (R330). -/
  | acWlimitWrite (site value : Nat)
  /-- BAR0_ACCESS (R35). -/
  | bar0Access (port : Nat) (pasid : Option Nat) (off len : Nat) (w : Option Nat)
  /-- BAR2_DOORBELL_WRITE (R350). -/
  | bar2DoorbellWrite (port : Nat) (pasid : Option Nat) (off : Nat) (w : Option Nat)
  /-- BAR4_APERTURE_ACCESS (R344). -/
  | bar4ApertureAccess (port : Nat) (pasid : Option Nat) (off len : Nat) (w : Option (List Byte))
  /-- CXL_MEM_READ (R348). -/
  | cxlMemRead (port hpa : Nat)
  /-- CXL_MEM_WRITE (R348): the bytes written from the address on, within a line; or a line's 64 bytes and 8 bytes of byte enables, bit i for byte i. -/
  | cxlMemWrite (port hpa : Nat) (data : List Byte)
  /-- HOST_SNOOP (R340). -/
  | hostSnoop (port : Nat)
  /-- CACHE_READ_RESPONSE (R349). -/
  | cacheReadResponse (port queue : Nat) (data : Option (List Byte))
  /-- HOST_INT_TIMEOUT (R355). -/
  | hostIntTimeout (port : Nat) (cache : Bool) (n : Nat)
  /-- HOST_PORT_RESET (R356). -/
  | hostPortReset (port : Nat) (linkDown : Bool)
  /-- HOST_LINK_TRAINED (R341). -/
  | hostLinkTrained (port speed width : Nat) (cxl lopt cache : Bool)
  /-- HDM_DECODER_COMMIT (R346). -/
  | hdmDecoderCommit (port decoder base size skip ways : Nat)
  /-- MSIX_IMOD_EXPIRE (R353). -/
  | msixImodExpire (port eq : Nat)
  /-- EQ_HEAD_WRITE (R352). -/
  | eqHeadWrite (port value : Nat)
  /-- EQ_ENABLE_WRITE (R362). -/
  | eqEnableWrite (port : Nat) (value : Bool)
  /-- DOE_DISCOVERY (R357). -/
  | doeDiscovery (port index : Nat)
  /-- CDAT_TABLE_ACCESS (R357). -/
  | cdatTableAccess (port : Nat)
  /-- DOE_ABORT (R357). -/
  | doeAbort (port : Nat)
  /-- GET_INFO (R557). -/
  | getInfo (port version : Nat) (payload : List Byte)
  /-- GET_CERT (R557). -/
  | getCert (port version : Nat) (payload : List Byte)
  /-- GET_MEAS (R557). -/
  | getMeas (port version : Nat) (payload : List Byte)
  /-- ATTEST (R558). -/
  | attest (port version : Nat) (payload : List Byte)
  /-- DEBUG_CHALLENGE (R559). -/
  | debugChallenge (port version : Nat) (payload : List Byte)
  /-- DEBUG_AUTH (R559). -/
  | debugAuth (port version : Nat) (payload : List Byte)
  /-- MESOAX_FLIT_RECEIVE (R369). -/
  | mesoaxFlitReceive (site n bundle : Nat) (f : Flit) (flip : Nat)
  /-- CTL_ACK (R369). -/
  | ctlAck (site n bundle arg : Nat)
  /-- CTL_NAK (R369). -/
  | ctlNak (site n bundle arg : Nat)
  /-- CTL_RETRAIN (R370). -/
  | ctlRetrain (site n bundle arg : Nat)
  /-- CTL_CREDIT (R247). -/
  | ctlCredit (site n bundle counter arg : Nat)
  /-- NAK_REPEAT_TIMEOUT (R369). -/
  | nakRepeatTimeout (site n bundle : Nat)
  /-- ML_RETRAIN (R370). -/
  | mlRetrain (site n : Nat)
  /-- LINK_TRAINING_DONE (R373). -/
  | linkTrainingDone (site n : Nat) (tests : List (List Nat)) (rtt : Nat)
  /-- BUNDLE_TRAIN_TIMEOUT (R373). -/
  | bundleTrainTimeout (site n bundle : Nat)
  /-- GU_ENABLE (R382). -/
  | guEnable (site : Nat) (value : Bool)
  /-- GU_RETRAIN (R382). -/
  | guRetrain (site : Nat)
  /-- UCIE_TRAINING_DONE (R374). -/
  | ucieTrainingDone (site : Nat) (ok : Bool) (speed repaired : Nat)
  /-- CAP_RSP (R375). -/
  | capRsp (site version rxbuf ident : Nat)
  /-- CAP_RSP_TIMEOUT (R375). -/
  | capRspTimeout (site : Nat)
  /-- GUEST_PACKET_RECEIVE (R377). -/
  | guestPacketReceive (site : Nat) (p : Pkt) (retries : Nat)
  /-- GUEST_LINK_DOWN (R378). -/
  | guestLinkDown (site : Nat) (back : Bool)
  /-- ETH_FRAME_RECEIVE (R385). -/
  | ethFrameReceive (site port : Nat) (frame : List Byte)
  /-- PTP_EVENT_MESSAGE (R396). -/
  | ptpEventMessage (site port : Nat) (m : PtpMsg)
  /-- GROVE_DATA (R390). -/
  | groveData (site port : Nat) (ce : Bool) (p : GPkt)
  /-- GROVE_SIGNAL (R394). -/
  | groveSignal (site port : Nat) (ce : Bool) (p : GPkt)
  /-- GROVE_ACK (R389). -/
  | groveAck (site port : Nat) (ce : Bool) (p : GPkt)
  /-- GROVE_NACK (R390). -/
  | groveNack (site port : Nat) (ce : Bool) (p : GPkt)
  /-- GROVE_ARRIVE (R400). -/
  | groveArrive (site port : Nat) (ce : Bool) (p : GPkt) (epoch : Nat)
  /-- GROVE_RELEASE (R400). -/
  | groveRelease (site port : Nat) (ce : Bool) (p : GPkt) (epoch : Nat)
  /-- GROVE_ABORT (R400). -/
  | groveAbort (site port : Nat) (ce : Bool) (p : GPkt) (epoch : Nat)
  /-- GROVE_HEARTBEAT (R402). -/
  | groveHeartbeat (site port : Nat) (ce : Bool) (p : GPkt)
  /-- GROVE_DIGEST (R406). -/
  | groveDigest (site port : Nat) (ce : Bool) (p : GPkt)
  /-- GROVE_ACK_TIMER (R389). -/
  | groveAckTimer (site conn : Nat)
  /-- GROVE_RTO_EXPIRE (R389). -/
  | groveRtoExpire (site conn : Nat)
  /-- CC_TINC_EXPIRE (R391). -/
  | ccTincExpire (site conn : Nat)
  /-- CONN_RECORD_FETCHED (R388). -/
  | connRecordFetched (site conn : Nat)
  /-- PUT (R394). -/
  | put (site chan : Nat)
  /-- PUT_ACCUM (R395). -/
  | putAccum (site chan : Nat)
  /-- PUT_EC (R404). -/
  | putEc (site chan : Nat)
  /-- SIGNAL_ONLY (R393). -/
  | signalOnly (site chan : Nat)
  /-- XFER_ENTRY_COMPLETE (R394). -/
  | xferEntryComplete (site chan : Nat)
  /-- XC_ENABLE_WRITE (R394). -/
  | xcEnableWrite (site chan : Nat) (value : Bool)
  /-- HEARTBEAT_TIMER (R402). -/
  | heartbeatTimer
  /-- MEMBER_LOST_TIMEOUT (R402). -/
  | memberLostTimeout (member : Nat)
  /-- MANAGER_LOST_TIMEOUT (R402). -/
  | managerLostTimeout
  /-- GR_ROLE_WRITE (R402). -/
  | grRoleWrite (value : Nat)
  /-- ET_ENABLE_WRITE (R383). -/
  | etEnableWrite (site port : Nat) (value : Bool)
  /-- PORT_UP (R407). -/
  | portUp (site port : Nat)
  /-- PORT_DOWN (R407). -/
  | portDown (site port : Nat) (fault : Bool)
  /-- REF_INPUT_LOST (R412). -/
  | refInputLost (input : Nat)
  /-- RC_SEL_WRITE (R412). -/
  | rcSelWrite (value : Nat)
  /-- REF_PARENT_LOST (R414). -/
  | refParentLost (site tdly : Nat)
  /-- PLL_LOCK_LOST (R415). -/
  | pllLockLost (site : Nat)
  /-- PLL_RELOCK (R415). -/
  | pllRelock (site : Nat)
  /-- PLL_RELOCK_TIMEOUT (R415). -/
  | pllRelockTimeout (site : Nat)
  /-- DROOP_GATE (R417). -/
  | droopGate (c : CoreId)
  /-- DROOP_RESUME (R417). -/
  | droopResume (c : CoreId)
  /-- MON_CEILING_RESTORE (R418). -/
  | monCeilingRestore (site : Nat)
  /-- LADDER_CHANGE (R420). -/
  | ladderChange (site : Nat)
  /-- LADDER_CHANGE_DONE (R420). -/
  | ladderChangeDone (site : Nat)
  /-- DWELL_EXPIRE (R419). -/
  | dwellExpire (site : Nat)
  /-- VOLTAGE_READY (R436). -/
  | voltageReady (site : Nat)
  /-- TIME_LOAD (R422). -/
  | timeLoad (value : Nat)
  /-- TIME_SLEW (R422). -/
  | timeSlew (sign : Bool) (interval : Nat)
  /-- RC_STEP_CMD (R424). -/
  | rcStepCmd
  /-- PPS_EDGE (R479). -/
  | ppsEdge
  /-- TIME_SOURCE_SILENT (R425). -/
  | timeSourceSilent
  /-- EP_COMMIT (R426). -/
  | epCommit
  /-- EP_CANCEL (R432). -/
  | epCancel
  /-- CK_EP_ARM (R426). -/
  | ckEpArm (site mask : Nat)
  /-- CK_EP_CANCEL (R426). -/
  | ckEpCancel (site : Nat)
  /-- CK_EP_CATCHUP (R427). -/
  | ckEpCatchup (site : Nat)
  /-- CK_EP_ROLLBACK (R427). -/
  | ckEpRollback (site : Nat)
  /-- EPOCH_SWITCH_TIME (R426). -/
  | epochSwitchTime (site : Nat)
  /-- EP_TMO_EXPIRE (R427). -/
  | epTmoExpire
  /-- CORE_POWER_STAGE (R437). -/
  | corePowerStage (c : CoreId)
  /-- CORE_POWER_UP_DONE (R437). -/
  | corePowerUpDone (c : CoreId)
  /-- ADMISSION_GRANT (R441). -/
  | admissionGrant (site mA : Nat)
  /-- ADMISSION_WAIT_EXPIRE (R442). -/
  | admissionWaitExpire (site : Nat)
  /-- CORE_OFF_DELAY_EXPIRE (R438). -/
  | coreOffDelayExpire (c : CoreId)
  /-- HEADER_OVERCURRENT (R439). -/
  | headerOvercurrent (c : CoreId)
  /-- RAMP_NOTICE_APPLY (R443). -/
  | rampNoticeApply (c : CoreId)
  /-- RAMP_HOLD_EXPIRE (R443). -/
  | rampHoldExpire (c : CoreId)
  /-- CAP_WINDOW (R446). -/
  | capWindow (site watts : Nat)
  /-- PP_IN_SAMPLE (R449). -/
  | ppInSample (readings : List Nat)
  /-- PP_CEIL_WRITE (R445). -/
  | ppCeilWrite (value : Nat)
  /-- PP_APPLY (R444). -/
  | ppApply
  /-- PHASE_FAIL (R450). -/
  | phaseFail (site group phase : Nat)
  /-- GROUP_BREAKER_OPEN (R451). -/
  | groupBreakerOpen (site group : Nat)
  /-- PLOT_BREAKER_OPEN (R451). -/
  | plotBreakerOpen (plot : Nat)
  /-- CRACK_DETECT (R452). -/
  | crackDetect (group drop : Nat)
  /-- SENSOR_READ (R464). -/
  | sensorRead (site : Nat) (temps : List Nat)
  /-- TRAY_SENSOR_READ (R462). -/
  | traySensorRead (inlet outlet flow : Option Nat)
  /-- TH_SHED_WRITE (R467). -/
  | thShedWrite (site : Nat) (value : Bool)
  /-- SHED_COMPUTE_OFF (R467). -/
  | shedComputeOff
  /-- SHED_PANEL_OFF (R467). -/
  | shedPanelOff
  /-- RAMP_WINDOW (R465). -/
  | rampWindow (site avg : Nat)
  /-- PWR_EN_RISE (R482). -/
  | pwrEnRise (lowUs : Nat) (inputOk : Bool)
  /-- STANDBY_POWER_GOOD (R482). -/
  | standbyPowerGood
  /-- PWR_EN_FALL (R483). -/
  | pwrEnFall
  /-- PANEL_RST_N_RISE (R482). -/
  | panelRstNRise
  /-- PANEL_RST_N_FALL (R483). -/
  | panelRstNFall
  /-- INPUT_UNDERVOLTAGE (R475). -/
  | inputUndervoltage
  /-- INPUT_OVERVOLTAGE (R475). -/
  | inputOvervoltage
  /-- TRST_N_ASSERT (R487). -/
  | trstNAssert (low : Bool)
  /-- BYPASS (R487). -/
  | bypass (site : Nat)
  /-- IDCODE (R487). -/
  | idcode (site : Nat)
  /-- SAMPLE_PRELOAD (R487). -/
  | samplePreload (site levels preload : Nat)
  /-- EXTEST (R487). -/
  | extest (site next : Nat)
  /-- UART_LINE_SENT (R486). -/
  | uartLineSent
  /-- REPLAY_DRAIN_END (R497). -/
  | replayDrainEnd (part : Nat)
  /-- REPLAY_RESTART (R497). -/
  | replayRestart (part : Nat)
  /-- RP_RESUME (R501). -/
  | rpResume
  /-- RP_ABANDON (R501). -/
  | rpAbandon
  /-- LR_GO (R503). -/
  | lrGo
  /-- LR_COPY_DONE (R503). -/
  | lrCopyDone
  /-- HEALTH_DECAY (R504). -/
  | healthDecay
  /-- GF_PLOT (R510). -/
  | gfPlot (src dest : Nat)
  /-- GF_STACK (R512). -/
  | gfStack (src dest : Nat)
  /-- GF_ABORT (R518). -/
  | gfAbort
  /-- GRAFT_POWER_DONE (R510). -/
  | graftPowerDone (bad : List Nat)
  /-- GRAFT_TEST_DONE (R510). -/
  | graftTestDone (bad : List Nat)
  /-- SHADOW_COMPARE (R510). -/
  | shadowCompare (reference : DigestW) (cores : List (CoreId × DigestW))
  /-- GRAFT_SOAK_END (R510). -/
  | graftSoakEnd
  /-- BR_STEP (R519). -/
  | brStep (site step : Nat)
  /-- BR_AUTO (R544). -/
  | brAuto (site : Nat)
  /-- BR_PANEL_RESET (R534). -/
  | brPanelReset (site : Nat)
  /-- BR_ABORT (R544). -/
  | brAbort (site : Nat)
  /-- BRINGUP_STEP_DONE (R520). -/
  | bringupStepDone (res : StepRes)
  /-- BR_FW_DATA_WRITE (R543). -/
  | brFwDataWrite (site value : Nat)
  /-- BR_RST_GO (R534). -/
  | brRstGo
  /-- RESET_DRAIN_END (R535). -/
  | resetDrainEnd (index : Nat)
  /-- ORCHARD_COMMIT_TIMER (R530). -/
  | orchardCommitTimer
  /-- ORCHARD_COMMIT_DONE (R530). -/
  | orchardCommitDone
  /-- OR_COMMIT (R545). -/
  | orCommit
  /-- OR_COMPACT (R531). -/
  | orCompact
  /-- OR_RDATA_READ (R545). -/
  | orRdataRead
  /-- STEWARD_LOST_TIMEOUT (R540). -/
  | stewardLostTimeout
  /-- COMMIT_SVN (R551). -/
  | commitSvn (fails : Nat)
  /-- EXTEND (R556). -/
  | extend (slot : Nat)
  /-- CLOSE_DEBUG (R559). -/
  | closeDebug
  /-- WAIT_TIMEOUT (R288). -/
  | waitTimeout (c : CoreId)
  /-- ENQ_FULL_TIMEOUT (R142). -/
  | enqFullTimeout (c : CoreId)
  /-- CORE_MEMORY_ACCESS (R180). -/
  | coreMemoryAccess (c : CoreId) (addr len : Nat) (data : Option (List Byte)) (fails id : Nat)
  /-- NM_SEED_HI_WRITE (R219). -/
  | nmSeedHiWrite (site value : Nat)
  /-- CLOCK_STRETCH (R417). -/
  | clockStretch (c : CoreId)
  /-- REF_INPUT_RETURN (R483). -/
  | refInputReturn (input : Nat)
  /-- IMAGE_SWITCH_DONE (R531). -/
  | imageSwitchDone
  /-- D3HOT (R340). -/
  | d3hot (port : Nat) (d3 : Bool)
  deriving DecidableEq, Repr

end Sys2Proof
end

