-- ==== Sys2Proof/Decode.lean ====
section
/-! DEFINITION. The commands that table words spell: none, since spec/opcode_table.json gives its rows no bits. -/

namespace Sys2Proof

/-- The command a table word spells (log 8). -/
def decodeTableWord (_nbits _w : Nat) : Option Instr := none

end Sys2Proof
end

