-- ==== Sys2Proof/Config.lean ====
section
/-! DEFINITION. What the spec fixes per implementation or leaves open: opaque constants, which nothing in Lean can evaluate. -/

namespace Sys2Proof.Config

/-- Which guest sites (0 to 3) were fitted at assembly (R23). Free: log 10. -/
opaque guestFitted : Nat → Bool

/-- The one-time counter SEC_FW_SVN held in MRAM at assembly (R548). Free: log 10. -/
opaque fwSvnAtReset : BitVec 16

/-- The one-time counter SEC_KEY_SVN held in MRAM at assembly (R548). Free: log 10. -/
opaque keySvnAtReset : BitVec 16

/-- The byte of the repair store at an address, as the panel left the factory (R525). Free: log 5. -/
opaque storeAtAssembly : Nat → BitVec 8

/-- A value the spec leaves undefined, as a binary32 code or any 32-bit word: applied to the model's own counter (State.nonce). Free: log 12. -/
opaque freeWord : Nat → BitVec 32

/-- The order and grouping of an accumulation, which the spec leaves open (R72): a choice for each of its additions, applied to the model's own counter (State.nonce) and the additions left. Free: log 64. -/
opaque freeOrder : Nat → Nat → BitVec 64

/-- What the approximation of an instruction returns for an operand (R165), 0 EXP2, 1 LOG2, 2 RCP, 3 RSQ: bit-for-bit repeatable on any core, bounded but not given by the spec. Free: log 20. -/
opaque approx : Nat → Nat → BitVec 32

/-- The Vendor ID the PCI-SIG assigned to Nymermael (R342, R357), which the spec does not state. Free: log 10. -/
opaque vendorId : BitVec 16

/-- Does an ML-DSA-87 signature over a 64-byte digest verify under a public key (R547)? FIPS 204's function, uninterpreted: log 31. -/
opaque mldsaVerify : List (BitVec 8) → List (BitVec 8) → List (BitVec 8) → Bool

/-- SHA3-512 of Nymermael's root public key, in the security die's mask ROM (R549). Free: log 10. -/
opaque rootHash : List (BitVec 8)

/-- SHA3-512 of the security die's mask ROM (R555). Free: log 10. -/
opaque romDigest : List (BitVec 8)

/-- The public key that the security die regenerates from its SRAM (R552). Free: log 10. -/
opaque deviceKey : List (BitVec 8)

/-- The JEP106 manufacturer identity of Nymermael (R487). Free: log 10. -/
opaque jep106 : BitVec 11

/-- The coolant zone over a rind die of the north or south edge: that of the column it sits at (R460), which the spec does not place. Free: log 10. -/
opaque rindZone : Nat → BitVec 4

/-- Where in the control block of the repair store the device identity certificate lies (R525, R553), which the spec does not say. Free: log 32. -/
opaque certAt : Nat

end Sys2Proof.Config
end

