-- ==== Sys2Proof/Machine/Fields.lean ====
section
/-! DEFINITION. Every register field of spec/: its page, place, width, access code (R10) and reset value, from the register tables of the chapters; a value of two consecutive registers (R7) is one field. Reserved bits have no field and read zero (R8). -/

namespace Sys2Proof.Machine

/-- Access codes (R10). -/
inductive Acc where
  | ro | rw | w1c | w1s | wo | sc
  deriving DecidableEq, Repr

/-- The reset value of a field: a number its table gives, or the rule the table names. -/
inductive Rst where
  | lit (v : Nat)
  | siteNum
  | sitePart
  | posPlot
  | posMesh
  | posX
  | posY
  | posRind
  | posEdge
  | pgType
  | pgInst
  | pgCap
  | eaRate
  | treeParent
  | treeDepth
  | aclRd
  | aclWr
  | winBase
  | winLimit
  | psDefault
  | mlPresent
  | mlClass
  | mlBundles
  | mlPeer
  | etPresent
  | etFirst
  | etWidth
  | refParent
  | phases
  | capWatts
  | rgPlaced
  | limWarn
  | limThrot
  | limCrit
  | rampWatts
  | fwSvn
  | keySvn
  deriving DecidableEq, Repr

/-- A register field: the first page of its block, the bit position of its lowest bit in the page, its width, access and reset value. -/
structure Fld where
  page : Nat
  bit : Nat
  width : Nat
  acc : Acc
  rst : Rst
  deriving DecidableEq, Repr

/-- The block types that own registers (R41); page 0x02 and page 0x03 have three forms each (R455 to R458, R470, R471). -/
inductive Blk where
  | site
  | hdr
  | addrmap
  | coreCtl
  | coreSeq
  | coreVec
  | coreBuf
  | diemem
  | stkCache
  | stkPref
  | stkNme
  | stkChan
  | bulk
  | ctrlnet
  | syncnet
  | sync
  | ctx
  | queue
  | acl
  | cxlp
  | pasid
  | msix
  | mesoax
  | guest
  | ethport
  | grove
  | erasure
  | clk
  | refclk
  | epoch
  | pwr
  | pwrRg
  | pwrPp
  | therm
  | thermTp
  | errlog
  | bringup
  | orchard
  | sec
  deriving DecidableEq, Repr

end Sys2Proof.Machine

namespace Sys2Proof.Machine.F

/-- SITE page, R28: site number per R24 and R25. -/
def SITE_ID_SITE : Fld := ⟨0x00, 0x800, 9, .ro, .siteNum⟩
/-- SITE page, R28: part type, encoded per R29. -/
def SITE_ID_TYPE : Fld := ⟨0x00, 0x810, 4, .ro, .sitePart⟩
/-- SITE page, R28: plot number p, or 0x7F for a rind site. -/
def SITE_POS_PLOT : Fld := ⟨0x00, 0x820, 7, .ro, .posPlot⟩
/-- SITE page, R28: 1 when the site is a mesh node per R20. -/
def SITE_POS_MESH : Fld := ⟨0x00, 0x827, 1, .ro, .posMesh⟩
/-- SITE page, R28: x position; 0 when MESH = 0. -/
def SITE_POS_GRID_X : Fld := ⟨0x00, 0x828, 5, .ro, .posX⟩
/-- SITE page, R28: y position; 0 when MESH = 0. -/
def SITE_POS_GRID_Y : Fld := ⟨0x00, 0x830, 3, .ro, .posY⟩
/-- SITE page, R28: 1 for a rind site. -/
def SITE_POS_RIND : Fld := ⟨0x00, 0x838, 1, .ro, .posRind⟩
/-- SITE page, R28: 0 north, 1 east, 2 south, 3 west; 0 for a plot site. -/
def SITE_POS_EDGE : Fld := ⟨0x00, 0x839, 2, .ro, .posEdge⟩
/-- SITE page, R28: encoded per R30. -/
def SITE_STATE_STATE : Fld := ⟨0x00, 0x840, 3, .ro, .lit 0⟩
/-- SITE page, R28: increments by one, wrapping at 256, each time STATE, SITE_CORES or SITE_HUSKCORES changes. -/
def SITE_STATE_GEN : Fld := ⟨0x00, 0x848, 8, .ro, .lit 0⟩
/-- SITE page, R28: compute dies: bit n = 1 when slot n is in service; other types: 0. -/
def SITE_CORES_SERVICE : Fld := ⟨0x00, 0x860, 18, .ro, .lit 0⟩
/-- SITE page, R28: compute dies: bit n = 1 when slot n is permanently retired; other types: 0. -/
def SITE_HUSKCORES_HUSK : Fld := ⟨0x00, 0x880, 18, .ro, .lit 0⟩
/-- HDR page, R40: block type, per R41. -/
def PG_ID_TYPE : Fld := ⟨0x00, 0x0, 16, .ro, .pgType⟩
/-- HDR page, R40: position in a run of like pages; 0 for a single page. -/
def PG_ID_INSTANCE : Fld := ⟨0x00, 0x10, 8, .ro, .pgInst⟩
/-- HDR page, R40: layout version, per R1. -/
def PG_ID_LAYOUT : Fld := ⟨0x00, 0x18, 8, .ro, .lit 1⟩
/-- HDR page, R40: PG_ERR to PG_ERR_INFO3 are implemented. -/
def PG_CAP_ERR : Fld := ⟨0x00, 0x20, 1, .ro, .pgCap⟩
/-- HDR page, R40: PG_EVT and PG_EVT_EN are implemented. -/
def PG_CAP_EVT : Fld := ⟨0x00, 0x21, 1, .ro, .pgCap⟩
/-- HDR page, R40: PG_CTL.QUIESCE is implemented. -/
def PG_CAP_QUIESCE : Fld := ⟨0x00, 0x22, 1, .ro, .pgCap⟩
/-- HDR page, R40: PG_CTL.RESET is implemented. -/
def PG_CAP_RESET : Fld := ⟨0x00, 0x23, 1, .ro, .pgCap⟩
/-- HDR page, R40: PG_HEALTH is maintained. -/
def PG_CAP_HEALTH : Fld := ⟨0x00, 0x24, 1, .ro, .pgCap⟩
/-- HDR page, R40: the block accepts new work. -/
def PG_CTL_ENABLE : Fld := ⟨0x00, 0x40, 1, .rw, .lit 0⟩
/-- HDR page, R40: the block finishes work in flight and accepts no new work. -/
def PG_CTL_QUIESCE : Fld := ⟨0x00, 0x41, 1, .rw, .lit 0⟩
/-- HDR page, R40: returns the page to its reset values. -/
def PG_CTL_RESET : Fld := ⟨0x00, 0x42, 1, .sc, .lit 0⟩
/-- HDR page, R40: initialised and able to accept work. -/
def PG_STAT_READY : Fld := ⟨0x00, 0x60, 1, .ro, .lit 0⟩
/-- HDR page, R40: QUIESCE = 1 and no work is in flight. -/
def PG_STAT_QUIESCED : Fld := ⟨0x00, 0x61, 1, .ro, .lit 0⟩
/-- HDR page, R40: work is in flight. -/
def PG_STAT_BUSY : Fld := ⟨0x00, 0x62, 1, .ro, .lit 0⟩
/-- HDR page, R40: the block is cut off from the networks by a reset, a husk or a standby state. -/
def PG_STAT_FENCED : Fld := ⟨0x00, 0x63, 1, .ro, .lit 0⟩
/-- HDR page, R40: one bit per error condition, defined by the block. -/
def PG_ERR_ERR : Fld := ⟨0x00, 0x80, 32, .w1c, .lit 0⟩
/-- HDR page, R40: 1 suppresses the error record and the event for that bit; the PG_ERR bit still sets and PG_ERR_CNT still co.... -/
def PG_ERR_MASK_MASK : Fld := ⟨0x00, 0xa0, 32, .rw, .lit 0⟩
/-- HDR page, R40: code of the first error since PG_ERR was last all zero. -/
def PG_ERR_FIRST_CODE : Fld := ⟨0x00, 0xc0, 16, .ro, .lit 0⟩
/-- HDR page, R40: errors detected, saturating at 0xFFFFFFFF. -/
def PG_ERR_CNT_COUNT : Fld := ⟨0x00, 0xe0, 32, .ro, .lit 0⟩
/-- HDR page, R40: words 0 to 3 captured with PG_ERR_FIRST, defined with the code. -/
def PG_ERR_INFO0_INFO : Fld := ⟨0x00, 0x100, 32, .ro, .lit 0⟩
/-- HDR page, R40: words 0 to 3 captured with PG_ERR_FIRST, defined with the code. -/
def PG_ERR_INFO1_INFO : Fld := ⟨0x00, 0x120, 32, .ro, .lit 0⟩
/-- HDR page, R40: words 0 to 3 captured with PG_ERR_FIRST, defined with the code. -/
def PG_ERR_INFO2_INFO : Fld := ⟨0x00, 0x140, 32, .ro, .lit 0⟩
/-- HDR page, R40: words 0 to 3 captured with PG_ERR_FIRST, defined with the code. -/
def PG_ERR_INFO3_INFO : Fld := ⟨0x00, 0x160, 32, .ro, .lit 0⟩
/-- HDR page, R40: block events, defined by the block. -/
def PG_EVT_EVT : Fld := ⟨0x00, 0x180, 32, .w1c, .lit 0⟩
/-- HDR page, R40: 1 lets the event bit raise a notification. -/
def PG_EVT_EN_EN : Fld := ⟨0x00, 0x1a0, 32, .rw, .lit 0⟩
/-- HDR page, R40: health score. -/
def PG_HEALTH_SCORE : Fld := ⟨0x00, 0x1c0, 16, .ro, .lit 0⟩
/-- HDR page, R40: 0b00 OK, 0b01 WATCH, 0b10 RETIRE, 0b11 reserved. -/
def PG_HEALTH_STATE : Fld := ⟨0x00, 0x1d0, 2, .ro, .lit 0⟩
/-- ADDRMAP page, R44: set addressed by 0x104 to 0x114. -/
def AM_SEL_SET : Fld := ⟨0x07, 0x800, 6, .rw, .lit 0⟩
/-- ADDRMAP page, R44: list entry addressed by AM_LIST. -/
def AM_SEL_ENTRY : Fld := ⟨0x07, 0x808, 6, .rw, .lit 0⟩
/-- ADDRMAP page, R44: 1 pending table, 0 active table; registers 0x104 to 0x114 are RO while VIEW = 0. -/
def AM_SEL_VIEW : Fld := ⟨0x07, 0x810, 1, .rw, .lit 1⟩
/-- ADDRMAP page, R44: set in use. -/
def AM_SET_VALID : Fld := ⟨0x07, 0x820, 1, .rw, .lit 0⟩
/-- ADDRMAP page, R44: n, 1 to 64; 0 and 65 to 127 with VALID = 1 fail the pending table's check at ARM, per R44. -/
def AM_SET_N : Fld := ⟨0x07, 0x828, 7, .rw, .lit 0⟩
/-- ADDRMAP page, R44: B in GiB (A′ [46:30]). -/
def AM_BASE_BASE : Fld := ⟨0x07, 0x840, 17, .rw, .lit 0⟩
/-- ADDRMAP page, R44: S in GiB. -/
def AM_SIZE_SIZE : Fld := ⟨0x07, 0x860, 17, .rw, .lit 0⟩
/-- ADDRMAP page, R44: T in GiB, 0 to 95. -/
def AM_START_START : Fld := ⟨0x07, 0x880, 7, .rw, .lit 0⟩
/-- ADDRMAP page, R44: stack site index of list entry ENTRY. -/
def AM_LIST_P : Fld := ⟨0x07, 0x8a0, 7, .rw, .lit 0⟩
/-- CORE_CTL page, R106: tolerance T = 2^−TOL_EXP; 4 to 14; a write of any other value is discarded and the field keeps its value. -/
def MX_CFG_TOL_EXP : Fld := ⟨0x40, 0x1000, 5, .rw, .lit 0xa⟩
/-- CORE_CTL page, R106: 1 checks every tile-segment per R99 to R101; 0 folds without checking. -/
def MX_CFG_CHECK_EN : Fld := ⟨0x40, 0x1008, 1, .rw, .lit 1⟩
/-- CORE_CTL page, R106: bit t is the VALID bit of accumulator tile t. -/
def MX_STAT_TILE_VALID : Fld := ⟨0x40, 0x1020, 16, .ro, .lit 0⟩
/-- CORE_CTL page, R106: a matrix descriptor is in progress. -/
def MX_STAT_ACTIVE : Fld := ⟨0x40, 0x1030, 1, .ro, .lit 0⟩
/-- CORE_CTL page, R106: a tile-segment rerun is pending or in progress. -/
def MX_STAT_RERUN : Fld := ⟨0x40, 0x1031, 1, .ro, .lit 0⟩
/-- CORE_CTL page, R106: tile-segments recovered by rerun; saturating at 0xFFFFFFFF. -/
def MX_RECOMP_COUNT : Fld := ⟨0x40, 0x1040, 32, .ro, .lit 0⟩
/-- CORE_CTL page, R106: rows exempted from comparison per R100; saturating. -/
def MX_EXEMPT_COUNT : Fld := ⟨0x40, 0x1060, 32, .ro, .lit 0⟩
/-- CORE_CTL page, R106: blocks dropped by freeze masks, bits [31:0]. -/
def MX_FROZEN : Fld := ⟨0x40, 0x1080, 64, .ro, .lit 0⟩
/-- CORE_CTL page, R106: cycles spent performing k-steps, reruns included, bits [31:0]. -/
def MX_BUSY : Fld := ⟨0x40, 0x10c0, 64, .ro, .lit 0⟩
/-- CORE_CTL page, R144: 0b000 OFF: power-gated; 0b001 IDLE: no dispatch; 0b010 RUN; 0b011 WAIT: issue blocked on a wait; 0b100 STOP.... -/
def CORE_STATE_STATE : Fld := ⟨0x40, 0x800, 3, .ro, .lit 0⟩
/-- CORE_CTL page, R144: 1 halts at the next descriptor boundary; 0 resumes. -/
def CORE_CTL_HALT : Fld := ⟨0x40, 0x820, 1, .rw, .lit 0⟩
/-- CORE_CTL page, R144: while HALTED, issues one descriptor, lets it complete, and halts. -/
def CORE_CTL_STEP : Fld := ⟨0x40, 0x821, 1, .sc, .lit 0⟩
/-- CORE_CTL page, R144: halt before issuing the descriptor at CORE_BKPT. -/
def CORE_CTL_BKPT_EN : Fld := ⟨0x40, 0x822, 1, .rw, .lit 0⟩
/-- CORE_CTL page, R144: bound context. -/
def CORE_BIND_CTX : Fld := ⟨0x40, 0x840, 10, .ro, .lit 0⟩
/-- CORE_CTL page, R144: virtual core ID in that context. -/
def CORE_BIND_VCORE : Fld := ⟨0x40, 0x850, 11, .ro, .lit 0⟩
/-- CORE_CTL page, R144: 1 while a context is bound. -/
def CORE_BIND_BOUND : Fld := ⟨0x40, 0x85f, 1, .ro, .lit 0⟩
/-- CORE_CTL page, R144: code that put the core in STOPPED; clears when STATE leaves STOPPED. -/
def CORE_STOP_CODE : Fld := ⟨0x40, 0x860, 16, .ro, .lit 0⟩
/-- CORE_CTL page, R144: breakpoint address bits [31:6]. -/
def CORE_BKPT : Fld := ⟨0x40, 0x886, 42, .rw, .lit 0⟩
/-- CORE_CTL page, R144: descriptors completed, bits [31:0]. -/
def CORE_DONE : Fld := ⟨0x40, 0x8c0, 64, .ro, .lit 0⟩
/-- CORE_SEQ page, R146: address of the next descriptor to issue, bits [31:6]. -/
def SQ_PC : Fld := ⟨0x41, 0x806, 42, .ro, .lit 0⟩
/-- CORE_SEQ page, R146: tensor table base, loaded; [4:0] reserved. -/
def SQ_TREF : Fld := ⟨0x41, 0x845, 43, .ro, .lit 0⟩
/-- CORE_SEQ page, R146: table entries, loaded; [31:16] reserved. -/
def SQ_TREF_LIM_LIMIT : Fld := ⟨0x41, 0x880, 16, .ro, .lit 0⟩
/-- CORE_SEQ page, R146: completion-area base, loaded; [4:0] reserved. -/
def SQ_CREC : Fld := ⟨0x41, 0x8a5, 43, .ro, .lit 0⟩
/-- CORE_SEQ page, R146: completion records, loaded; [31:16] reserved. -/
def SQ_CREC_LIM_LIMIT : Fld := ⟨0x41, 0x8e0, 16, .ro, .lit 0⟩
/-- CORE_SEQ page, R146: wait-set timeout in µs, loaded; [31:24] reserved. -/
def SQ_HDR_TMO_TMO : Fld := ⟨0x41, 0x900, 24, .ro, .lit 0⟩
/-- CORE_SEQ page, R146: issue-window entries in use, 0 to 8. -/
def SQ_STAT_INFLIGHT : Fld := ⟨0x41, 0x920, 4, .ro, .lit 0⟩
/-- CORE_SEQ page, R146: loop depth, 0 to 4. -/
def SQ_STAT_LOOPD : Fld := ⟨0x41, 0x924, 3, .ro, .lit 0⟩
/-- CORE_SEQ page, R146: call depth, 0 to 8. -/
def SQ_STAT_CALLD : Fld := ⟨0x41, 0x928, 4, .ro, .lit 0⟩
/-- CORE_SEQ page, R146: issue is blocked on a wait set or WAIT. -/
def SQ_STAT_ISSUE_WAIT : Fld := ⟨0x41, 0x92c, 1, .ro, .lit 0⟩
/-- CORE_SEQ page, R146: a STEP_END awaits release. -/
def SQ_STAT_STEP_WAIT : Fld := ⟨0x41, 0x92d, 1, .ro, .lit 0⟩
/-- CORE_SEQ page, R146: index register n at 0x128 + 4 × (n − 1); writes are discarded unless STATE is HALTED. -/
def SQ_IX1_IX : Fld := ⟨0x41, 0x940, 32, .rw, .lit 0⟩
/-- CORE_SEQ page, R146: index register n at 0x128 + 4 × (n − 1); writes are discarded unless STATE is HALTED. -/
def SQ_IX2_IX : Fld := ⟨0x41, 0x960, 32, .rw, .lit 0⟩
/-- CORE_SEQ page, R146: index register n at 0x128 + 4 × (n − 1); writes are discarded unless STATE is HALTED. -/
def SQ_IX3_IX : Fld := ⟨0x41, 0x980, 32, .rw, .lit 0⟩
/-- CORE_SEQ page, R146: index register n at 0x128 + 4 × (n − 1); writes are discarded unless STATE is HALTED. -/
def SQ_IX4_IX : Fld := ⟨0x41, 0x9a0, 32, .rw, .lit 0⟩
/-- CORE_SEQ page, R146: index register n at 0x128 + 4 × (n − 1); writes are discarded unless STATE is HALTED. -/
def SQ_IX5_IX : Fld := ⟨0x41, 0x9c0, 32, .rw, .lit 0⟩
/-- CORE_SEQ page, R146: index register n at 0x128 + 4 × (n − 1); writes are discarded unless STATE is HALTED. -/
def SQ_IX6_IX : Fld := ⟨0x41, 0x9e0, 32, .rw, .lit 0⟩
/-- CORE_SEQ page, R146: index register n at 0x128 + 4 × (n − 1); writes are discarded unless STATE is HALTED. -/
def SQ_IX7_IX : Fld := ⟨0x41, 0xa00, 32, .rw, .lit 0⟩
/-- CORE_SEQ page, R146: STEP of the last completed STEP_END. -/
def SQ_STEP_NUM_STEP : Fld := ⟨0x41, 0xa20, 32, .ro, .lit 0⟩
/-- CORE_SEQ page, R146: restart address, bits [31:6]; [5:0] reserved. -/
def SQ_STEP_PC : Fld := ⟨0x41, 0xa46, 42, .ro, .lit 0⟩
/-- CORE_SEQ page, R146: σ bits [31:0], held until SQ_SEED_HI is written. -/
def SQ_SEED : Fld := ⟨0x41, 0xa80, 64, .wo, .lit 0⟩
/-- CORE_VEC page, R175: shadow-lane check per R171. -/
def VX_CFG_SHADOW_EN : Fld := ⟨0x42, 0x800, 1, .rw, .lit 1⟩
/-- CORE_VEC page, R175: a VRUN or VREDUCE is in progress. -/
def VX_STAT_ACTIVE : Fld := ⟨0x42, 0x820, 1, .ro, .lit 0⟩
/-- CORE_VEC page, R175: a rerun is in progress. -/
def VX_STAT_RERUN : Fld := ⟨0x42, 0x821, 1, .ro, .lit 0⟩
/-- CORE_VEC page, R175: 0 INIT, 1 BODY, 2 FINI, 3 idle. -/
def VX_STAT_SECTION : Fld := ⟨0x42, 0x822, 2, .ro, .lit 3⟩
/-- CORE_VEC page, R175: current pass. -/
def VX_STAT_PASS : Fld := ⟨0x42, 0x824, 2, .ro, .lit 0⟩
/-- CORE_VEC page, R175: the descriptor is VREDUCE. -/
def VX_STAT_REDUCE : Fld := ⟨0x42, 0x826, 1, .ro, .lit 0⟩
/-- CORE_VEC page, R175: index of the instruction at issue. -/
def VX_STAT_PC : Fld := ⟨0x42, 0x830, 9, .ro, .lit 0⟩
/-- CORE_VEC page, R175: current band. -/
def VX_POS_BAND : Fld := ⟨0x42, 0x840, 12, .ro, .lit 0⟩
/-- CORE_VEC page, R175: current column. -/
def VX_POS_COL : Fld := ⟨0x42, 0x84c, 18, .ro, .lit 0⟩
/-- CORE_VEC page, R175: PLEN of slot 0; 0 when empty. -/
def VX_SLOTLEN01_LEN0 : Fld := ⟨0x42, 0x860, 10, .ro, .lit 0⟩
/-- CORE_VEC page, R175: PLEN of slot 1. -/
def VX_SLOTLEN01_LEN1 : Fld := ⟨0x42, 0x870, 10, .ro, .lit 0⟩
/-- CORE_VEC page, R175: PLEN of slot 2. -/
def VX_SLOTLEN23_LEN2 : Fld := ⟨0x42, 0x880, 10, .ro, .lit 0⟩
/-- CORE_VEC page, R175: PLEN of slot 3. -/
def VX_SLOTLEN23_LEN3 : Fld := ⟨0x42, 0x890, 10, .ro, .lit 0⟩
/-- CORE_VEC page, R175: runs recovered per R172; saturating. -/
def VX_RERUN_COUNT : Fld := ⟨0x42, 0x8a0, 32, .ro, .lit 0⟩
/-- CORE_VEC page, R175: issue cycles, reruns included, bits [31:0]. -/
def VX_BUSY : Fld := ⟨0x42, 0x8c0, 64, .ro, .lit 0⟩
/-- CORE_VEC page, R175: cycles waiting on stream data, bits [31:0]. -/
def VX_WAIT : Fld := ⟨0x42, 0x900, 64, .ro, .lit 0⟩
/-- CORE_BUF page, R199: resident part in 64 KiB units, 0 to 64; loaded at binding per R189. -/
def CB_RES_RES : Fld := ⟨0x43, 0x800, 7, .ro, .lit 0⟩
/-- CORE_BUF page, R199: a zero-fill of core memory is in progress. -/
def CB_STAT_ZEROING : Fld := ⟨0x43, 0x820, 1, .ro, .lit 0⟩
/-- CORE_BUF page, R199: a FILL or COPY is in progress at the memory. -/
def CB_STAT_FILLING : Fld := ⟨0x43, 0x821, 1, .ro, .lit 0⟩
/-- CORE_BUF page, R199: resident contents lost, per R190 and R195. -/
def CB_STAT_RES_LOST : Fld := ⟨0x43, 0x822, 1, .w1c, .lit 0⟩
/-- CORE_BUF page, R199: number of 64 KiB units from 0 up to and including the highest unit written since the dispatch began, 0 to 64. -/
def CB_STAT_HWM : Fld := ⟨0x43, 0x828, 7, .ro, .lit 0⟩
/-- CORE_BUF page, R199: core-local word address per R178. -/
def CB_DBG_ADDR_ADDR : Fld := ⟨0x43, 0x842, 21, .rw, .lit 0⟩
/-- CORE_BUF page, R199: 1 adds 4 to ADDR after each access to CB_DBG_DATA. -/
def CB_DBG_ADDR_INC : Fld := ⟨0x43, 0x85f, 1, .rw, .lit 0⟩
/-- CORE_BUF page, R199: reads or writes the word at ADDR, per R200. -/
def CB_DBG_DATA_DATA : Fld := ⟨0x43, 0x860, 32, .rw, .lit 0⟩
/-- CORE_BUF page, R199: the last read of CB_DBG_DATA found a parity failure. -/
def CB_DBG_STAT_PAR : Fld := ⟨0x43, 0x880, 1, .ro, .lit 0⟩
/-- CORE_BUF page, R199: the last access of CB_DBG_DATA was refused per R200. -/
def CB_DBG_STAT_DENIED : Fld := ⟨0x43, 0x881, 1, .ro, .lit 0⟩
/-- CORE_BUF page, R199: records of 0x2104 for this core; saturating. -/
def CB_RECOV_COUNT : Fld := ⟨0x43, 0x8a0, 32, .ro, .lit 0⟩
/-- CORE_BUF page, R199: records of 0x2101, 0x2105 and 0x2106 for this core; saturating. -/
def CB_LOST_COUNT : Fld := ⟨0x43, 0x8c0, 32, .ro, .lit 0⟩
/-- DIEMEM page, R201: region addressed by DIEMEM_REGION; at 48 to 63, DIEMEM_REGION reads zero and discards writes. -/
def DIEMEM_SEL_REGION : Fld := ⟨0x09, 0x800, 6, .rw, .lit 0⟩
/-- DIEMEM page, R201: owner context. -/
def DIEMEM_REGION_OWNER : Fld := ⟨0x09, 0x820, 10, .rw, .lit 0⟩
/-- DIEMEM page, R201: the region is assigned to OWNER. -/
def DIEMEM_REGION_VALID : Fld := ⟨0x09, 0x830, 1, .rw, .lit 0⟩
/-- DIEMEM page, R201: contents are resident per R189. -/
def DIEMEM_REGION_RESIDENT : Fld := ⟨0x09, 0x831, 1, .rw, .lit 0⟩
/-- DIEMEM page, R201: 1 zero-fills the region per R192; reads 1 until the fill ends. -/
def DIEMEM_REGION_SCRUB : Fld := ⟨0x09, 0x832, 1, .sc, .lit 0⟩
/-- DIEMEM page, R201: resident contents lost, per R190 and R195. -/
def DIEMEM_REGION_RES_LOST : Fld := ⟨0x09, 0x833, 1, .w1c, .lit 0⟩
/-- DIEMEM page, R201: a scrub or reset fill is in progress in any region. -/
def DIEMEM_STAT_SCRUBBING : Fld := ⟨0x09, 0x840, 1, .ro, .lit 0⟩
/-- DIEMEM page, R201: records of 0x2104 for die memory; saturating. -/
def DIEMEM_RECOV_COUNT : Fld := ⟨0x09, 0x860, 32, .ro, .lit 0⟩
/-- DIEMEM page, R201: records of 0x2102 for die memory; saturating. -/
def DIEMEM_LOST_COUNT : Fld := ⟨0x09, 0x880, 32, .ro, .lit 0⟩
/-- STK_CACHE page, R232: stream programs accepted per R216. -/
def SC_CTL_PF_EN : Fld := ⟨0x20, 0x800, 1, .rw, .lit 1⟩
/-- STK_CACHE page, R232: write back every dirty sector, per R213. -/
def SC_CTL_FLUSH : Fld := ⟨0x20, 0x801, 1, .sc, .lit 0⟩
/-- STK_CACHE page, R232: write back, then invalidate every line. -/
def SC_CTL_INVAL : Fld := ⟨0x20, 0x802, 1, .sc, .lit 0⟩
/-- STK_CACHE page, R232: 1 enters self-refresh per R228; cleared by the stack on waking. -/
def SC_CTL_SLEEP : Fld := ⟨0x20, 0x803, 1, .rw, .lit 0⟩
/-- STK_CACHE page, R232: 0b00 ACTIVE, 0b01 ENTERING, 0b10 ASLEEP, 0b11 WAKING. -/
def SC_STAT_PSTATE : Fld := ⟨0x20, 0x820, 2, .ro, .lit 0⟩
/-- STK_CACHE page, R232: retention period is 16 ms, per R227. -/
def SC_STAT_HOT : Fld := ⟨0x20, 0x822, 1, .ro, .lit 0⟩
/-- STK_CACHE page, R232: a flush, invalidation or entry write-back is in progress. -/
def SC_STAT_FLUSHING : Fld := ⟨0x20, 0x823, 1, .ro, .lit 0⟩
/-- STK_CACHE page, R232: lines holding at least one dirty sector. -/
def SC_DIRTY_LINES : Fld := ⟨0x20, 0x840, 21, .ro, .lit 0⟩
/-- STK_CACHE page, R232: sector requests served from the cache, bits [31:0]. -/
def SC_HIT : Fld := ⟨0x20, 0x860, 64, .ro, .lit 0⟩
/-- STK_CACHE page, R232: sector requests that read DRAM, bits [31:0]. -/
def SC_MISS : Fld := ⟨0x20, 0x8a0, 64, .ro, .lit 0⟩
/-- STK_CACHE page, R232: self-refresh exits; saturating. -/
def SC_WAKES_COUNT : Fld := ⟨0x20, 0x8e0, 32, .ro, .lit 0⟩
/-- STK_PREF page, R233: lines kept ahead of demand, 1 to 64; any other value is discarded. -/
def PF_CFG_AHEAD : Fld := ⟨0x21, 0x800, 7, .rw, .lit 0x20⟩
/-- STK_PREF page, R233: µs without demand before an entry is freed; 0 for never. -/
def PF_CFG_IDLE : Fld := ⟨0x21, 0x808, 16, .rw, .lit 0x64⟩
/-- STK_PREF page, R233: bit e: entry e in use, entries 0 to 31; entry e is in channel group e / 8. -/
def PF_ACTIVE : Fld := ⟨0x21, 0x820, 64, .ro, .lit 0⟩
/-- STK_PREF page, R233: prefetch line reads issued; saturating. -/
def PF_ISSUED_COUNT : Fld := ⟨0x21, 0x860, 32, .ro, .lit 0⟩
/-- STK_PREF page, R233: prefetched lines touched by demand; saturating. -/
def PF_USED_COUNT : Fld := ⟨0x21, 0x880, 32, .ro, .lit 0⟩
/-- STK_PREF page, R233: prefetched lines evicted untouched; saturating. -/
def PF_UNUSED_COUNT : Fld := ⟨0x21, 0x8a0, 32, .ro, .lit 0⟩
/-- STK_PREF page, R233: entries replaced while active; saturating. -/
def PF_REPLACED_COUNT : Fld := ⟨0x21, 0x8c0, 32, .ro, .lit 0⟩
/-- STK_NME page, R234: a DIGEST is in progress. -/
def NM_STAT_DG_BUSY : Fld := ⟨0x22, 0x800, 1, .ro, .lit 0⟩
/-- STK_NME page, R234: a migration is copying or forwarding. -/
def NM_STAT_MG_ACTIVE : Fld := ⟨0x22, 0x801, 1, .ro, .lit 0⟩
/-- STK_NME page, R234: MG_PTR has reached 96 GiB. -/
def NM_STAT_MG_DONE : Fld := ⟨0x22, 0x802, 1, .ro, .lit 0⟩
/-- STK_NME page, R234: σ bits [31:0], held until NM_SEED_HI is written. -/
def NM_SEED : Fld := ⟨0x22, 0x820, 64, .wo, .lit 0⟩
/-- STK_NME page, R234: range start, offset bits [31:6]; [5:0] reserved. -/
def DG_BASE : Fld := ⟨0x22, 0x866, 31, .rw, .lit 0⟩
/-- STK_NME page, R234: range length in bytes, bits [31:6]; [5:0] reserved. -/
def DG_LEN : Fld := ⟨0x22, 0x8a6, 31, .rw, .lit 0⟩
/-- STK_NME page, R234: element format per R45; 0x6 to 0xF refused with 0x2205. -/
def DG_CTL_FMT : Fld := ⟨0x22, 0x8e0, 4, .rw, .lit 0⟩
/-- STK_NME page, R234: starts a DIGEST per R221. -/
def DG_CTL_GO : Fld := ⟨0x22, 0x8e8, 1, .sc, .lit 0⟩
/-- STK_NME page, R234: binary32 sum. -/
def DG_SUM_VALUE : Fld := ⟨0x22, 0x900, 32, .ro, .lit 0⟩
/-- STK_NME page, R234: binary32 sum of squares. -/
def DG_SUMSQ_VALUE : Fld := ⟨0x22, 0x920, 32, .ro, .lit 0⟩
/-- STK_NME page, R234: binary32 largest magnitude. -/
def DG_MAXABS_VALUE : Fld := ⟨0x22, 0x940, 32, .ro, .lit 0⟩
/-- STK_NME page, R234: finite elements, bits [31:0]. -/
def DG_COUNT : Fld := ⟨0x22, 0x960, 64, .ro, .lit 0⟩
/-- STK_NME page, R234: Inf and NaN elements; saturating. -/
def DG_NONFIN_COUNT : Fld := ⟨0x22, 0x9a0, 32, .ro, .lit 0⟩
/-- STK_NME page, R234: 0x0000, 0x2201 or 0x2205 for the last DIGEST. -/
def DG_RESULT_CODE : Fld := ⟨0x22, 0x9c0, 16, .ro, .lit 0⟩
/-- STK_NME page, R234: results of a finished DIGEST are held; clears at GO. -/
def DG_RESULT_VALID : Fld := ⟨0x22, 0x9d0, 1, .ro, .lit 0⟩
/-- STK_NME page, R234: destination stack index p. -/
def MG_CTL_DEST : Fld := ⟨0x22, 0xa00, 7, .rw, .lit 0⟩
/-- STK_NME page, R234: starts migration per R231; ignored while MG_ACTIVE = 1. -/
def MG_CTL_START : Fld := ⟨0x22, 0xa08, 1, .sc, .lit 0⟩
/-- STK_NME page, R234: ends migration and forwarding. -/
def MG_CTL_ABORT : Fld := ⟨0x22, 0xa09, 1, .sc, .lit 0⟩
/-- STK_NME page, R234: ends forwarding after commit; ignored while MG_DONE = 0. -/
def MG_CTL_RELEASE : Fld := ⟨0x22, 0xa0a, 1, .sc, .lit 0⟩
/-- STK_NME page, R234: copy pointer, offset bits [31:8]; [7:0] reserved. -/
def MG_PTR : Fld := ⟨0x22, 0xa28, 29, .ro, .lit 0⟩
/-- STK_NME page, R234: sectors copied as failing; clears at START. -/
def MG_LOST_COUNT : Fld := ⟨0x22, 0xa60, 32, .ro, .lit 0⟩
/-- STK_NME page, R234: ACCUM sector operations, bits [31:0]. -/
def NM_ACCUM : Fld := ⟨0x22, 0xa80, 64, .ro, .lit 0⟩
/-- STK_CHAN page, R235: 0b000 OFF, 0b001 TRAINING, 0b010 TESTING, 0b011 ACTIVE, 0b100 FAILED, 0b101 to 0b111 reserved. -/
def CH_STATE_STATE : Fld := ⟨0x40, 0x800, 3, .ro, .lit 0⟩
/-- STK_CHAN page, R235: retention period is 16 ms. -/
def CH_STATE_HOT : Fld := ⟨0x40, 0x803, 1, .ro, .lit 0⟩
/-- STK_CHAN page, R235: most spare rows mapped in any one bank, 0 to 8. -/
def CH_SPARE_USED : Fld := ⟨0x40, 0x820, 4, .ro, .lit 0⟩
/-- STK_CHAN page, R235: 0x2203 records for the channel; saturating. -/
def CH_CRC_FIX_COUNT : Fld := ⟨0x40, 0x840, 32, .ro, .lit 0⟩
/-- STK_CHAN page, R235: 0x2201 records for the channel; saturating. -/
def CH_CRC_LOST_COUNT : Fld := ⟨0x40, 0x860, 32, .ro, .lit 0⟩
/-- STK_CHAN page, R235: sector number sec of the last loss. -/
def CH_LAST_LOST_SECTOR : Fld := ⟨0x40, 0x880, 31, .ro, .lit 0⟩
/-- BULK page, R275: response time in µs, 16 to 65,535; a smaller value is discarded. -/
def BK_CFG_RSP_TMO : Fld := ⟨0x04, 0x800, 16, .rw, .lit 0x3e8⟩
/-- BULK page, R275: re-issues of a READ or FETCH, 0 to 3. -/
def BK_CFG_READ_RETRIES : Fld := ⟨0x04, 0x810, 2, .rw, .lit 2⟩
/-- BULK page, R275: port code per R237; 7 reserved, selecting nothing. -/
def BK_PORT_SEL_PORT : Fld := ⟨0x04, 0x820, 3, .rw, .lit 0⟩
/-- BULK page, R275: bundles in use. -/
def BK_PORT_STAT_WIDTH : Fld := ⟨0x04, 0x840, 5, .ro, .lit 0⟩
/-- BULK page, R275: link up. -/
def BK_PORT_STAT_UP : Fld := ⟨0x04, 0x848, 1, .ro, .lit 0⟩
/-- BULK page, R275: site at the far end; 0x1FF none. -/
def BK_PORT_STAT_PEER : Fld := ⟨0x04, 0x850, 9, .ro, .lit 0x1ff⟩
/-- BULK page, R275: pool credits held toward the port. -/
def BK_POOL_FREE : Fld := ⟨0x04, 0x860, 10, .ro, .lit 0⟩
/-- BULK page, R275: flits sent on the port, bits [31:0]. -/
def BK_TX : Fld := ⟨0x04, 0x880, 64, .ro, .lit 0⟩
/-- BULK page, R275: route entry addressed by BK_RT_ENTRY. -/
def BK_RT_SEL_SITE : Fld := ⟨0x04, 0x8c0, 9, .rw, .lit 0⟩
/-- BULK page, R275: 1 pending table, 0 active table. -/
def BK_RT_SEL_VIEW : Fld := ⟨0x04, 0x8d0, 1, .rw, .lit 1⟩
/-- BULK page, R275: output port; RO while VIEW = 0. -/
def BK_RT_ENTRY_PORT : Fld := ⟨0x04, 0x8e0, 3, .rw, .lit 7⟩
/-- BULK page, R275: the hop moves the packet to lane 1. -/
def BK_RT_ENTRY_DETOUR : Fld := ⟨0x04, 0x8e3, 1, .rw, .lit 0⟩
/-- BULK page, R275: entry in use. -/
def BK_RT_ENTRY_VALID : Fld := ⟨0x04, 0x8e4, 1, .rw, .lit 0⟩
/-- BULK page, R275: group addressed by 0x124 to 0x12C and 0x148. -/
def BK_MC_SEL_GROUP : Fld := ⟨0x04, 0x900, 12, .rw, .lit 0⟩
/-- BULK page, R275: as BK_RT_SEL.VIEW. -/
def BK_MC_SEL_VIEW : Fld := ⟨0x04, 0x910, 1, .rw, .lit 1⟩
/-- BULK page, R275: bit n: copy to port n; bit 4 ejects to this die. -/
def BK_MC_ENTRY_PORTS : Fld := ⟨0x04, 0x920, 7, .rw, .lit 0⟩
/-- BULK page, R275: this node is the group's root. -/
def BK_MC_ENTRY_ROOT : Fld := ⟨0x04, 0x927, 1, .rw, .lit 0⟩
/-- BULK page, R275: site of the root. -/
def BK_MC_ENTRY_ROOTSITE : Fld := ⟨0x04, 0x928, 9, .rw, .lit 0⟩
/-- BULK page, R275: owner context. -/
def BK_MC_ENTRY_OWNER : Fld := ⟨0x04, 0x931, 10, .rw, .lit 0⟩
/-- BULK page, R275: entry in use. -/
def BK_MC_ENTRY_VALID : Fld := ⟨0x04, 0x93b, 1, .rw, .lit 0⟩
/-- BULK page, R275: target core slots on this die. -/
def BK_MC_CORES_CORES : Fld := ⟨0x04, 0x940, 18, .rw, .lit 0⟩
/-- BULK page, R275: hold timeout in µs; 0 with VALID = 1 makes the unit refuse the commit, per R426. -/
def BK_MC_TMO_TMO : Fld := ⟨0x04, 0x960, 20, .rw, .lit 0⟩
/-- BULK page, R275: tokens per 64 cycles, 0 to 256; rind ports only. -/
def BK_EA_CFG_RATE : Fld := ⟨0x04, 0x980, 9, .rw, .eaRate⟩
/-- BULK page, R275: bucket size in flits. -/
def BK_EA_CFG_BURST : Fld := ⟨0x04, 0x98a, 16, .rw, .lit 0x200⟩
/-- BULK page, R275: limiter in force. -/
def BK_EA_CFG_EN : Fld := ⟨0x04, 0x99f, 1, .rw, .lit 1⟩
/-- BULK page, R275: cycles the port waited for tokens; saturating. -/
def BK_EA_HELD_COUNT : Fld := ⟨0x04, 0x9a0, 32, .ro, .lit 0⟩
/-- BULK page, R275: branch hold slots in use, 0 to 4. -/
def BK_HOLD_USED : Fld := ⟨0x04, 0x9c0, 3, .ro, .lit 0⟩
/-- BULK page, R275: packets discarded per R254; saturating. -/
def BK_CRC_DROP_COUNT : Fld := ⟨0x04, 0x9e0, 32, .ro, .lit 0⟩
/-- BULK page, R275: 0x3101 and 0x3102 records of this site; saturating. -/
def BK_TIMEOUTS_COUNT : Fld := ⟨0x04, 0xa00, 32, .ro, .lit 0⟩
/-- BULK page, R275: copies dropped at this router; saturating. -/
def BK_MC_DROPS_COUNT : Fld := ⟨0x04, 0xa20, 32, .ro, .lit 0⟩
/-- BULK page, R275: target dies of the group, 1 to 144, per R258 and R262; 0 with VALID = 1 makes the unit refuse the commit. -/
def BK_MC_NDIES_NDIES : Fld := ⟨0x04, 0xa40, 8, .rw, .lit 0⟩
/-- CTRLNET page, R277: parent site; 0x1FF at the active steward. -/
def CN_TREE_PARENT : Fld := ⟨0x05, 0x800, 9, .rw, .treeParent⟩
/-- CTRLNET page, R277: depth in the tree. -/
def CN_TREE_DEPTH : Fld := ⟨0x05, 0x810, 5, .ro, .treeDepth⟩
/-- CTRLNET page, R277: messages queued toward the parent, 0 to 4. -/
def CN_STAT_UPQ : Fld := ⟨0x05, 0x820, 3, .ro, .lit 0⟩
/-- CTRLNET page, R277: messages forwarded, bits [31:0]. -/
def CN_MSG : Fld := ⟨0x05, 0x840, 64, .ro, .lit 0⟩
/-- CTRLNET page, R277: longest wait of a message at this node, in ns. -/
def CN_WAIT_MAX_NS : Fld := ⟨0x05, 0x880, 16, .ro, .lit 0⟩
/-- CTRLNET page, R277: link resends; saturating. -/
def CN_LINKFIX_COUNT : Fld := ⟨0x05, 0x8a0, 32, .ro, .lit 0⟩
/-- SYNCNET page, R278: route entry addressed by SN_RT_ENTRY. -/
def SN_RT_SEL_SITE : Fld := ⟨0x06, 0x800, 9, .rw, .lit 0⟩
/-- SYNCNET page, R278: 1 pending table, 0 active table. -/
def SN_RT_SEL_VIEW : Fld := ⟨0x06, 0x810, 1, .rw, .lit 1⟩
/-- SYNCNET page, R278: output port; RO while VIEW = 0. -/
def SN_RT_ENTRY_PORT : Fld := ⟨0x06, 0x820, 3, .rw, .lit 7⟩
/-- SYNCNET page, R278: the hop moves the message to lane 1. -/
def SN_RT_ENTRY_DETOUR : Fld := ⟨0x06, 0x823, 1, .rw, .lit 0⟩
/-- SYNCNET page, R278: entry in use. -/
def SN_RT_ENTRY_VALID : Fld := ⟨0x06, 0x824, 1, .rw, .lit 0⟩
/-- SYNCNET page, R278: messages forwarded, bits [31:0]. -/
def SN_MSG : Fld := ⟨0x06, 0x840, 64, .ro, .lit 0⟩
/-- SYNCNET page, R278: link retries; saturating. -/
def SN_LINKFIX_COUNT : Fld := ⟨0x06, 0x880, 32, .ro, .lit 0⟩
/-- SYNCNET page, R278: deepest input queue seen, 0 to 8. -/
def SN_QMAX_DEPTH : Fld := ⟨0x06, 0x8a0, 4, .ro, .lit 0⟩
/-- SYNC page, R298: selected cell. -/
def SY_SEL_CELL : Fld := ⟨0x08, 0x800, 11, .rw, .lit 0⟩
/-- SYNC page, R298: count; a write stores the value, then R287 runs. -/
def SY_VALUE_VALUE : Fld := ⟨0x08, 0x820, 24, .rw, .lit 0⟩
/-- SYNC page, R298: owner context; a write that changes OWNER while VALID = 1 is discarded. -/
def SY_OWNER_OWNER : Fld := ⟨0x08, 0x840, 10, .rw, .lit 0⟩
/-- SYNC page, R298: a write of 0 while the cell is VALID performs BREAK first. -/
def SY_OWNER_VALID : Fld := ⟨0x08, 0x850, 1, .rw, .lit 0⟩
/-- SYNC page, R298: per R292. -/
def SY_OWNER_SHARED : Fld := ⟨0x08, 0x851, 1, .rw, .lit 0⟩
/-- SYNC page, R298: registered waiters, 0 to 4,104. -/
def SY_WCOUNT_COUNT : Fld := ⟨0x08, 0x860, 13, .ro, .lit 0⟩
/-- SYNC page, R298: last signaller's site; 0x1FF none. -/
def SY_LAST_SITE : Fld := ⟨0x08, 0x880, 9, .ro, .lit 0x1ff⟩
/-- SYNC page, R298: core slot; 0x1F for a site-level signal. -/
def SY_LAST_SLOT : Fld := ⟨0x08, 0x889, 5, .ro, .lit 0x1f⟩
/-- SYNC page, R298: LAST_TIME, bits [31:0]. -/
def SY_LAST_TIME : Fld := ⟨0x08, 0x8a0, 64, .ro, .lit 0⟩
/-- SYNC page, R298: STEPVAL. -/
def SY_STEPVAL_VALUE : Fld := ⟨0x08, 0x8e0, 24, .rw, .lit 0⟩
/-- SYNC page, R298: BAR_N. -/
def SY_BARN_N : Fld := ⟨0x08, 0x900, 24, .ro, .lit 0⟩
/-- SYNC page, R298: position in the waiter list, registration order. -/
def SY_WSEL_INDEX : Fld := ⟨0x08, 0x920, 13, .rw, .lit 0⟩
/-- SYNC page, R298: waiting core's site. -/
def SY_WAITER_SITE : Fld := ⟨0x08, 0x940, 9, .ro, .lit 0⟩
/-- SYNC page, R298: its slot. -/
def SY_WAITER_SLOT : Fld := ⟨0x08, 0x949, 5, .ro, .lit 0⟩
/-- SYNC page, R298: 0 WAIT, 1 BARRIER. -/
def SY_WAITER_KIND : Fld := ⟨0x08, 0x94e, 1, .ro, .lit 0⟩
/-- SYNC page, R298: consuming. -/
def SY_WAITER_CONS : Fld := ⟨0x08, 0x94f, 1, .ro, .lit 0⟩
/-- SYNC page, R298: entry lies in the die pool. -/
def SY_WAITER_POOL : Fld := ⟨0x08, 0x950, 1, .ro, .lit 0⟩
/-- SYNC page, R298: THRESH or N of the selected waiter. -/
def SY_WTHRESH_VALUE : Fld := ⟨0x08, 0x960, 24, .ro, .lit 0⟩
/-- SYNC page, R298: command per R299. -/
def SY_CMD_OP : Fld := ⟨0x08, 0x980, 3, .wo, .lit 0⟩
/-- SYNC page, R298: argument of SY_CMD. -/
def SY_CMD_ARG_ARG : Fld := ⟨0x08, 0x9a0, 24, .rw, .lit 0⟩
/-- SYNC page, R298: a command is in progress. -/
def SY_STAT_CMD_BUSY : Fld := ⟨0x08, 0x9c0, 1, .ro, .lit 0⟩
/-- SYNC page, R298: free pool entries, 0 to 4,096. -/
def SY_STAT_POOL_FREE : Fld := ⟨0x08, 0x9c4, 13, .ro, .lit 0x1000⟩
/-- SYNC page, R298: invalidates the die's translation cache, per R281. -/
def SY_XLT_INV : Fld := ⟨0x08, 0x9e0, 1, .sc, .lit 0⟩
/-- SYNC page, R298: NOROOM answers; saturating. -/
def SY_NOROOM_COUNT : Fld := ⟨0x08, 0xa00, 32, .ro, .lit 0⟩
/-- SYNC page, R298: 0x4102 records of the die; saturating. -/
def SY_SATCNT_COUNT : Fld := ⟨0x08, 0xa20, 32, .ro, .lit 0⟩
/-- CTX page, R336: selected context. -/
def CX_SEL_CTX : Fld := ⟨0x22, 0x800, 10, .rw, .lit 0⟩
/-- CTX page, R336: partition. -/
def CX_CFG_PART : Fld := ⟨0x22, 0x820, 6, .rw, .lit 0⟩
/-- CTX page, R336: priority. -/
def CX_CFG_PRIO : Fld := ⟨0x22, 0x826, 2, .rw, .lit 0⟩
/-- CTX page, R336: per R307. -/
def CX_CFG_PRE_AT : Fld := ⟨0x22, 0x828, 1, .rw, .lit 0⟩
/-- CTX page, R336: 1 to 2,048. -/
def CX_CFG_NCORES : Fld := ⟨0x22, 0x829, 12, .rw, .lit 0⟩
/-- CTX page, R336: 0 to 64. -/
def CX_CFG_RES : Fld := ⟨0x22, 0x835, 7, .rw, .lit 0⟩
/-- CTX page, R336: per R308. -/
def CX_STATE_STATE : Fld := ⟨0x22, 0x840, 3, .ro, .lit 0⟩
/-- CTX page, R336: a pre-emption or REMAP awaits its boundary. -/
def CX_STATE_PRE_PEND : Fld := ⟨0x22, 0x843, 1, .ro, .lit 0⟩
/-- CTX page, R336: bits [31:0], then [47:32] in [15:0]; other bits reserved. -/
def CX_MAP : Fld := ⟨0x22, 0x860, 48, .rw, .lit 0⟩
/-- CTX page, R336: as CX_MAP; bits [15:0] of the low word reserved. -/
def CX_SAVE : Fld := ⟨0x22, 0x8b0, 32, .rw, .lit 0⟩
/-- CTX page, R336: as CX_MAP. -/
def CX_SXLT : Fld := ⟨0x22, 0x8e0, 48, .rw, .lit 0⟩
/-- CTX page, R336: as CX_MAP. -/
def CX_TREF : Fld := ⟨0x22, 0x920, 48, .rw, .lit 0⟩
/-- CTX page, R336: tensor-table entries. -/
def CX_LIMS_TREF_LIM : Fld := ⟨0x22, 0x960, 16, .rw, .lit 0⟩
/-- CTX page, R336: completion records. -/
def CX_LIMS_CREC_LIM : Fld := ⟨0x22, 0x970, 16, .rw, .lit 0⟩
/-- CTX page, R336: as CX_MAP. -/
def CX_CREC : Fld := ⟨0x22, 0x980, 48, .rw, .lit 0⟩
/-- CTX page, R336: µs. -/
def CX_TMO_HDR_TMO : Fld := ⟨0x22, 0x9c0, 24, .rw, .lit 0⟩
/-- CTX page, R336: µs; 0 never flags. -/
def CX_PRE_TMO_PRE_TMO : Fld := ⟨0x22, 0x9e0, 24, .rw, .lit 0⟩
/-- CTX page, R336: SEED bits [31:0], then [63:32]. -/
def CX_SEED : Fld := ⟨0x22, 0xa00, 64, .rw, .lit 0⟩
/-- CTX page, R336: per R337. -/
def CX_CMD_OP : Fld := ⟨0x22, 0xa40, 4, .wo, .lit 0⟩
/-- CTX page, R336: a command is in progress; writes to CX_CMD are discarded. -/
def CX_CMD_STAT_BUSY : Fld := ⟨0x22, 0xa60, 1, .ro, .lit 0⟩
/-- CTX page, R336: code of the last command. -/
def CX_CMD_STAT_RESULT : Fld := ⟨0x22, 0xa70, 16, .ro, .lit 0⟩
/-- CTX page, R336: selected partition. -/
def PT_SEL_PART : Fld := ⟨0x22, 0xb00, 6, .rw, .lit 0⟩
/-- CTX page, R336: set by PART_SET, cleared by PART_CLEAR. -/
def PT_CFG_VALID : Fld := ⟨0x22, 0xb20, 1, .ro, .lit 0⟩
/-- CTX page, R336: per R305. -/
def PT_CFG_PRODUCTION : Fld := ⟨0x22, 0xb21, 1, .rw, .lit 0⟩
/-- CTX page, R336: fences in force. -/
def PT_CFG_ARMED : Fld := ⟨0x22, 0xb22, 1, .ro, .lit 0⟩
/-- CTX page, R336: bit p of the 72-bit set: plot p; PT_PLOTS2 [31:8] reserved. -/
def PT_PLOTS0_PLOTS : Fld := ⟨0x22, 0xb40, 32, .rw, .lit 0⟩
/-- CTX page, R336: bit p of the 72-bit set: plot p; PT_PLOTS2 [31:8] reserved. -/
def PT_PLOTS1_PLOTS : Fld := ⟨0x22, 0xb60, 32, .rw, .lit 0⟩
/-- CTX page, R336: bit p of the 72-bit set: plot p; PT_PLOTS2 [31:8] reserved. -/
def PT_PLOTS2_PLOTS : Fld := ⟨0x22, 0xb80, 8, .rw, .lit 0⟩
/-- CTX page, R336: as CX_MAP. -/
def PT_FLIST : Fld := ⟨0x22, 0xba0, 48, .rw, .lit 0⟩
/-- CTX page, R336: 0 to 4,096; a write of a larger value is discarded and the field keeps its value; writes accepted while VALID. -/
def PT_FCOUNT_COUNT : Fld := ⟨0x22, 0xbe0, 13, .rw, .lit 0⟩
/-- CTX page, R336: STEP of the last release. -/
def PT_STEP_STEP : Fld := ⟨0x22, 0xc00, 32, .ro, .lit 0⟩
/-- CTX page, R336: target site. -/
def AP_TGT_SITE : Fld := ⟨0x22, 0xc80, 9, .rw, .lit 0⟩
/-- CTX page, R336: 0 REG, 1 RES. -/
def AP_TGT_TABLE : Fld := ⟨0x22, 0xc89, 1, .rw, .lit 0⟩
/-- CTX page, R336: window for WIN_SET. -/
def AP_TGT_WINDOW : Fld := ⟨0x22, 0xc8a, 6, .rw, .lit 0⟩
/-- CTX page, R336: master for ACL_SET. -/
def AP_MASTER_MASTER : Fld := ⟨0x22, 0xca0, 12, .rw, .lit 0⟩
/-- CTX page, R336: masks for ACL_SET. -/
def AP_RD : Fld := ⟨0x22, 0xcc0, 64, .rw, .lit 0⟩
/-- CTX page, R336: masks for ACL_SET. -/
def AP_WR : Fld := ⟨0x22, 0xd00, 64, .rw, .lit 0⟩
/-- CTX page, R336: window base for WIN_SET; [31:17] reserved. -/
def AP_WBASE_MIB : Fld := ⟨0x22, 0xd40, 17, .rw, .lit 0⟩
/-- CTX page, R336: window limit for WIN_SET; [31:17] reserved. -/
def AP_WLIMIT_MIB : Fld := ⟨0x22, 0xd60, 17, .rw, .lit 0⟩
/-- QUEUE page, R338: selected queue. -/
def QU_SEL_QUEUE : Fld := ⟨0x23, 0x800, 12, .rw, .lit 0⟩
/-- QUEUE page, R338: queue in use. -/
def QU_CFG_ENABLE : Fld := ⟨0x23, 0x820, 1, .rw, .lit 0⟩
/-- QUEUE page, R338: 0 HOST, 1 PANEL. -/
def QU_CFG_PRODUCER : Fld := ⟨0x23, 0x821, 1, .rw, .lit 0⟩
/-- QUEUE page, R338: 0 panel physical; 1 host, port 0; 2 host, port 1; 3 reserved. -/
def QU_CFG_LOC : Fld := ⟨0x23, 0x822, 2, .rw, .lit 0⟩
/-- QUEUE page, R338: 0 to 3. -/
def QU_CFG_CLASS : Fld := ⟨0x23, 0x824, 2, .rw, .lit 0⟩
/-- QUEUE page, R338: 1 to 15; 0 is discarded. -/
def QU_CFG_WEIGHT : Fld := ⟨0x23, 0x826, 4, .rw, .lit 1⟩
/-- QUEUE page, R338: per R322. -/
def QU_CFG_SERIAL : Fld := ⟨0x23, 0x82a, 1, .rw, .lit 0⟩
/-- QUEUE page, R338: 6 to 16; other values are discarded. -/
def QU_CFG_LOG2SIZE : Fld := ⟨0x23, 0x82b, 5, .rw, .lit 6⟩
/-- QUEUE page, R338: bound context. -/
def QU_CFG_CTX : Fld := ⟨0x23, 0x830, 10, .rw, .lit 0⟩
/-- QUEUE page, R338: ring base bits [31:12]. -/
def QU_RING : Fld := ⟨0x23, 0x84c, 52, .rw, .lit 0⟩
/-- QUEUE page, R338: first virtual core. -/
def QU_TARGET_VFIRST : Fld := ⟨0x23, 0x880, 11, .rw, .lit 0⟩
/-- QUEUE page, R338: 1 to 2,048. -/
def QU_TARGET_VCOUNT : Fld := ⟨0x23, 0x890, 12, .rw, .lit 0⟩
/-- QUEUE page, R338: event queue; 0x7FF none. -/
def QU_EVQ_EVQ : Fld := ⟨0x23, 0x8a0, 11, .rw, .lit 0x7ff⟩
/-- QUEUE page, R338: per R318. -/
def QU_HEAD_HEAD : Fld := ⟨0x23, 0x8c0, 32, .ro, .lit 0⟩
/-- QUEUE page, R338: per R318. -/
def QU_TAIL_TAIL : Fld := ⟨0x23, 0x8e0, 32, .ro, .lit 0⟩
/-- QUEUE page, R338: per R325. -/
def QU_STAT_STOPPED : Fld := ⟨0x23, 0x900, 1, .ro, .lit 0⟩
/-- QUEUE page, R338: ring full. -/
def QU_STAT_FULL : Fld := ⟨0x23, 0x901, 1, .ro, .lit 0⟩
/-- QUEUE page, R338: code that stopped the queue. -/
def QU_STAT_CODE : Fld := ⟨0x23, 0x910, 16, .ro, .lit 0⟩
/-- QUEUE page, R338: 0 none; 1 RESTART; 2 FLUSH, per R324; 3 reserved. -/
def QU_CMD_OP : Fld := ⟨0x23, 0x920, 2, .wo, .lit 0⟩
/-- QUEUE page, R338: entries started by this queue; saturating. -/
def QU_STARTS_COUNT : Fld := ⟨0x23, 0x940, 32, .ro, .lit 0⟩
/-- ACL page, R339: 1,112 to 4,095 select nothing. -/
def AC_SEL_MASTER : Fld := ⟨0x0a, 0x800, 12, .rw, .lit 0⟩
/-- ACL page, R339: 0 REG, 1 RES. -/
def AC_SEL_TABLE : Fld := ⟨0x0a, 0x80c, 1, .rw, .lit 0⟩
/-- ACL page, R339: windows 0 to 31, then 32 to 63; per R330. -/
def AC_RD : Fld := ⟨0x0a, 0x820, 64, .rw, .aclRd⟩
/-- ACL page, R339: as AC_RD. -/
def AC_WR : Fld := ⟨0x0a, 0x860, 64, .rw, .aclWr⟩
/-- ACL page, R339: fence mask of TABLE; per R332. -/
def AC_FENCE : Fld := ⟨0x0a, 0x8a0, 64, .rw, .lit 0⟩
/-- ACL page, R339: stack window selected. -/
def AC_WSEL_WINDOW : Fld := ⟨0x0a, 0x8e0, 6, .rw, .lit 0⟩
/-- ACL page, R339: first MiB of the window; held per R330. -/
def AC_WBASE_MIB : Fld := ⟨0x0a, 0x900, 17, .rw, .winBase⟩
/-- ACL page, R339: last MiB of the window. -/
def AC_WLIMIT_MIB : Fld := ⟨0x0a, 0x920, 17, .rw, .winLimit⟩
/-- ACL page, R339: refusals; saturating. -/
def AC_DENY_COUNT : Fld := ⟨0x0a, 0x940, 32, .ro, .lit 0⟩
/-- ACL page, R339: master of the latest refusal. -/
def AC_LAST_MASTER : Fld := ⟨0x0a, 0x960, 12, .ro, .lit 0⟩
/-- ACL page, R339: its window. -/
def AC_LAST_WINDOW : Fld := ⟨0x0a, 0x96c, 6, .ro, .lit 0⟩
/-- ACL page, R339: its table. -/
def AC_LAST_TABLE : Fld := ⟨0x0a, 0x972, 1, .ro, .lit 0⟩
/-- ACL page, R339: it was a write. -/
def AC_LAST_WRITE : Fld := ⟨0x0a, 0x973, 1, .ro, .lit 0⟩
/-- ACL page, R339: refused by FENCE. -/
def AC_LAST_FENCED : Fld := ⟨0x0a, 0x974, 1, .ro, .lit 0⟩
/-- CXLP page, R360: 0 down; 5 32 GT/s; 6 64 GT/s; others reserved. -/
def CP_LINK_SPEED : Fld := ⟨0x20, 0x800, 4, .ro, .lit 0⟩
/-- CXLP page, R360: lanes: 0, 4 or 8. -/
def CP_LINK_WIDTH : Fld := ⟨0x20, 0x804, 6, .ro, .lit 0⟩
/-- CXLP page, R360: link up. -/
def CP_LINK_UP : Fld := ⟨0x20, 0x80a, 1, .ro, .lit 0⟩
/-- CXLP page, R360: CXL negotiated; 0 non-CXL operation. -/
def CP_LINK_CXL : Fld := ⟨0x20, 0x80b, 1, .ro, .lit 0⟩
/-- CXLP page, R360: latency-optimised flit in use. -/
def CP_LINK_LOPT : Fld := ⟨0x20, 0x80c, 1, .ro, .lit 0⟩
/-- CXLP page, R360: CXL.cache enabled by the host. -/
def CP_LINK_CACHE : Fld := ⟨0x20, 0x80d, 1, .ro, .lit 0⟩
/-- CXLP page, R360: at least one HDM decoder committed. -/
def CP_LINK_MEM : Fld := ⟨0x20, 0x80e, 1, .ro, .lit 0⟩
/-- CXLP page, R360: 1 limits training to 32 GT/s, per R341. -/
def CP_CFG_SPEED_CAP : Fld := ⟨0x20, 0x820, 1, .rw, .lit 0⟩
/-- CXLP page, R360: latency-optimised flit offered. -/
def CP_CFG_LOPT_EN : Fld := ⟨0x20, 0x821, 1, .rw, .lit 1⟩
/-- CXLP page, R360: µs, 100 to 65,535; smaller values discarded. -/
def CP_CFG_INT_TMO : Fld := ⟨0x20, 0x830, 16, .rw, .lit 0x3e8⟩
/-- CXLP page, R360: aperture base bits [31:26]. -/
def CP_AP : Fld := ⟨0x20, 0x85a, 22, .rw, .lit 0⟩
/-- CXLP page, R360: CXL.cache reads outstanding. -/
def CP_CACHE_OUT : Fld := ⟨0x20, 0x880, 12, .ro, .lit 0⟩
/-- CXLP page, R360: 1 to 2,048; 0 and values above 2,048 discarded. -/
def CP_CACHE_MAX : Fld := ⟨0x20, 0x890, 12, .rw, .lit 0x800⟩
/-- CXLP page, R360: 0xC101 events; saturating. -/
def CP_UNALIGNED_COUNT : Fld := ⟨0x20, 0x8a0, 32, .ro, .lit 0⟩
/-- CXLP page, R360: host requests refused; saturating. -/
def CP_REFUSED_COUNT : Fld := ⟨0x20, 0x8c0, 32, .ro, .lit 0⟩
/-- CXLP page, R360: poisoned MemData sent; saturating. -/
def CP_POISON_COUNT : Fld := ⟨0x20, 0x8e0, 32, .ro, .lit 0⟩
/-- CXLP page, R360: 0xC104 events; saturating. -/
def CP_TIMEOUT_COUNT : Fld := ⟨0x20, 0x900, 32, .ro, .lit 0⟩
/-- PASID page, R361: entry addressed by PS_ENTRY. -/
def PS_SEL_ENTRY : Fld := ⟨0x21, 0x800, 6, .rw, .lit 0⟩
/-- PASID page, R361: PASID value. -/
def PS_ENTRY_PASID : Fld := ⟨0x21, 0x820, 20, .rw, .lit 0⟩
/-- PASID page, R361: master 1,024 + MOFF. -/
def PS_ENTRY_MOFF : Fld := ⟨0x21, 0x834, 6, .rw, .lit 0⟩
/-- PASID page, R361: entry in use. -/
def PS_ENTRY_VALID : Fld := ⟨0x21, 0x83f, 1, .rw, .lit 0⟩
/-- PASID page, R361: master for requests without PASID. -/
def PS_DEFAULT_MOFF : Fld := ⟨0x21, 0x840, 6, .rw, .psDefault⟩
/-- PASID page, R361: 0xC102 events; saturating. -/
def PS_UNMAPPED_COUNT : Fld := ⟨0x21, 0x860, 32, .ro, .lit 0⟩
/-- MSIX page, R362: selected event queue. -/
def EQ_SEL_EQ : Fld := ⟨0x22, 0x800, 9, .rw, .lit 0⟩
/-- MSIX page, R362: event queue in use. -/
def EQ_CFG_ENABLE : Fld := ⟨0x22, 0x820, 1, .rw, .lit 0⟩
/-- MSIX page, R362: 6 to 16; other values discarded. -/
def EQ_CFG_LOG2SIZE : Fld := ⟨0x22, 0x821, 5, .rw, .lit 6⟩
/-- MSIX page, R362: MSI-X vector, 0 to 2,047. -/
def EQ_CFG_VECTOR : Fld := ⟨0x22, 0x826, 11, .rw, .lit 0⟩
/-- MSIX page, R362: µs, per R353. -/
def EQ_CFG_IMOD : Fld := ⟨0x22, 0x831, 10, .rw, .lit 0⟩
/-- MSIX page, R362: a record was dropped. -/
def EQ_CFG_OVF : Fld := ⟨0x22, 0x83b, 1, .w1c, .lit 0⟩
/-- MSIX page, R362: bit c: error records of class c, per R351. -/
def EQ_CLASS_MASK : Fld := ⟨0x22, 0x840, 16, .rw, .lit 0⟩
/-- MSIX page, R362: host physical address bits [31:12]. -/
def EQ_BASE : Fld := ⟨0x22, 0x86c, 52, .rw, .lit 0⟩
/-- MSIX page, R362: consumed index, per R352. -/
def EQ_HEAD_HEAD : Fld := ⟨0x22, 0x8a0, 32, .rw, .lit 0⟩
/-- MSIX page, R362: next index written. -/
def EQ_TAIL_TAIL : Fld := ⟨0x22, 0x8c0, 32, .ro, .lit 0⟩
/-- MSIX page, R362: records dropped; saturating. -/
def EQ_DROP_COUNT : Fld := ⟨0x22, 0x8e0, 32, .ro, .lit 0⟩
/-- MESOAX page, R381: a Mesoax link exists on this page. -/
def ML_INFO_PRESENT : Fld := ⟨0x10, 0x800, 1, .ro, .mlPresent⟩
/-- MESOAX page, R381: class code per R364; 0 none, 6 and 7 reserved. -/
def ML_INFO_CLASS : Fld := ⟨0x10, 0x801, 3, .ro, .mlClass⟩
/-- MESOAX page, R381: bundle pairs placed, 1 to 12. -/
def ML_INFO_BUNDLES : Fld := ⟨0x10, 0x804, 4, .ro, .mlBundles⟩
/-- MESOAX page, R381: site at the far end; 0x1FF none. -/
def ML_INFO_PEER : Fld := ⟨0x10, 0x808, 9, .ro, .mlPeer⟩
/-- MESOAX page, R381: retrains the link per R370. -/
def ML_CTL_RETRAIN : Fld := ⟨0x10, 0x820, 1, .sc, .lit 0⟩
/-- MESOAX page, R381: least live sub-bundles of an ACTIVE mesh bundle, 1 to 8; other values discarded; takes effect at the next t.... -/
def ML_CTL_MIN_WIDTH : Fld := ⟨0x10, 0x821, 4, .rw, .lit 4⟩
/-- MESOAX page, R381: 0 OFF, 1 TRAINING, 2 UP, 3 DOWN. -/
def ML_STAT_STATE : Fld := ⟨0x10, 0x840, 2, .ro, .lit 0⟩
/-- MESOAX page, R381: ACTIVE bundles, 0 to 12. -/
def ML_STAT_ACTIVE : Fld := ⟨0x10, 0x842, 4, .ro, .lit 0⟩
/-- MESOAX page, R381: every placed bundle is ACTIVE with 8 live sub-bundles. -/
def ML_STAT_FULL : Fld := ⟨0x10, 0x846, 1, .ro, .lit 0⟩
/-- MESOAX page, R381: round trip measured at step 6, in network cycles. -/
def ML_RTT_CYCLES : Fld := ⟨0x10, 0x860, 8, .ro, .lit 0⟩
/-- MESOAX page, R381: bundle selected, 0 to 11. -/
def ML_SEL_BUNDLE : Fld := ⟨0x10, 0x880, 4, .rw, .lit 0⟩
/-- MESOAX page, R381: sub-bundle selected, 0 to 7. -/
def ML_SEL_SUB : Fld := ⟨0x10, 0x884, 3, .rw, .lit 0⟩
/-- MESOAX page, R381: selected bundle: 0 OFF, 1 TRAINING, 2 ACTIVE, 3 DOWN. -/
def ML_BSTAT_STATE : Fld := ⟨0x10, 0x8a0, 2, .ro, .lit 0⟩
/-- MESOAX page, R381: training step 1 to 7, 0 when not training. -/
def ML_BSTAT_TSTEP : Fld := ⟨0x10, 0x8a2, 3, .ro, .lit 0⟩
/-- MESOAX page, R381: bit n: sub-bundle n live. -/
def ML_BSTAT_LIVE : Fld := ⟨0x10, 0x8a5, 8, .ro, .lit 0⟩
/-- MESOAX page, R381: bundle health score, per "Faults, replay and grafting". -/
def ML_BSTAT_SCORE : Fld := ⟨0x10, 0x8b0, 16, .ro, .lit 0⟩
/-- MESOAX page, R381: wire replaced by pip 0 of the selected sub-bundle: 0 to 31 data, 32 frame, 0x3F none; others reserved. -/
def ML_PIP_PIP0 : Fld := ⟨0x10, 0x8c0, 6, .ro, .lit 0x3f⟩
/-- MESOAX page, R381: as PIP0, for pip 1. -/
def ML_PIP_PIP1 : Fld := ⟨0x10, 0x8c8, 6, .ro, .lit 0x3f⟩
/-- MESOAX page, R381: bit n: data wire n of the selected sub-bundle failed the last wire test. -/
def ML_FAILW_DATA : Fld := ⟨0x10, 0x8e0, 32, .ro, .lit 0⟩
/-- MESOAX page, R381: frame wire failed. -/
def ML_FAILX_FRAME : Fld := ⟨0x10, 0x900, 1, .ro, .lit 0⟩
/-- MESOAX page, R381: clock wire failed. -/
def ML_FAILX_CLOCK : Fld := ⟨0x10, 0x901, 1, .ro, .lit 0⟩
/-- MESOAX page, R381: bit m: pip m failed; zero on mesh bundles. -/
def ML_FAILX_PIPS : Fld := ⟨0x10, 0x902, 2, .ro, .lit 0⟩
/-- MESOAX page, R381: NAKs sent by this end, all bundles; saturating. -/
def ML_NAK_COUNT : Fld := ⟨0x10, 0x920, 32, .ro, .lit 0⟩
/-- MESOAX page, R381: flits resent by this end; saturating. -/
def ML_REPLAY_COUNT : Fld := ⟨0x10, 0x940, 32, .ro, .lit 0⟩
/-- MESOAX page, R381: retrains of the link; saturating. -/
def ML_RETRAINS_COUNT : Fld := ⟨0x10, 0x960, 32, .ro, .lit 0⟩
/-- GUEST page, R382: 1 starts UCIe training; 0 holds the link in reset. -/
def GU_CTL_ENABLE : Fld := ⟨0x20, 0x800, 1, .rw, .lit 0⟩
/-- GUEST page, R382: 1 limits training to 16 GT/s. -/
def GU_CTL_SPEED_CAP : Fld := ⟨0x20, 0x801, 1, .rw, .lit 0⟩
/-- GUEST page, R382: requests a UCIe retrain while ACTIVE. -/
def GU_CTL_RETRAIN : Fld := ⟨0x20, 0x802, 1, .sc, .lit 0⟩
/-- GUEST page, R382: 0 RESET, 1 SBINIT, 2 MBINIT, 3 MBTRAIN, 4 LINKINIT, 5 CAPX, 6 ACTIVE, 7 RETRAIN, 8 FAILED; 9 to 15 reserved. -/
def GU_STAT_STATE : Fld := ⟨0x20, 0x820, 4, .ro, .lit 0⟩
/-- GUEST page, R382: 0 down, 1 16 GT/s, 2 32 GT/s, 3 reserved. -/
def GU_STAT_SPEED : Fld := ⟨0x20, 0x824, 2, .ro, .lit 0⟩
/-- GUEST page, R382: lanes replaced by lane repair. -/
def GU_STAT_REPAIRED : Fld := ⟨0x20, 0x826, 4, .ro, .lit 0⟩
/-- GUEST page, R382: guest identifier from CAP_RSP. -/
def GU_ID_ID : Fld := ⟨0x20, 0x840, 32, .ro, .lit 0⟩
/-- GUEST page, R382: RXBUF from CAP_RSP. -/
def GU_CAP_RXBUF : Fld := ⟨0x20, 0x860, 16, .ro, .lit 0⟩
/-- GUEST page, R382: mapping version in use. -/
def GU_CAP_VERSION : Fld := ⟨0x20, 0x870, 8, .ro, .lit 0⟩
/-- GUEST page, R382: D2D adapter retries; saturating. -/
def GU_ADAPT_RETRY_COUNT : Fld := ⟨0x20, 0x880, 32, .ro, .lit 0⟩
/-- GUEST page, R382: guest packets discarded per R377; saturating. -/
def GU_DISCARD_COUNT : Fld := ⟨0x20, 0x8a0, 32, .ro, .lit 0⟩
/-- GUEST page, R382: retrains; saturating. -/
def GU_RETRAINS_COUNT : Fld := ⟨0x20, 0x8c0, 32, .ro, .lit 0⟩
/-- ETHPORT page, R409: the port exists in the current PMODE. -/
def ET_INFO_PRESENT : Fld := ⟨0x20, 0x800, 1, .ro, .etPresent⟩
/-- ETHPORT page, R409: first lane. -/
def ET_INFO_FIRST : Fld := ⟨0x20, 0x801, 5, .ro, .etFirst⟩
/-- ETHPORT page, R409: lanes: 4 or 8. -/
def ET_INFO_WIDTH : Fld := ⟨0x20, 0x806, 4, .ro, .etWidth⟩
/-- ETHPORT page, R409: trains the port. -/
def ET_CTL_ENABLE : Fld := ⟨0x20, 0x820, 1, .rw, .lit 0⟩
/-- ETHPORT page, R409: 0 copper cable, 1 chip-to-module. -/
def ET_CTL_MEDIA : Fld := ⟨0x20, 0x821, 1, .rw, .lit 0⟩
/-- ETHPORT page, R409: per R396. -/
def ET_CTL_PTP : Fld := ⟨0x20, 0x822, 1, .rw, .lit 0⟩
/-- ETHPORT page, R409: per R384. -/
def ET_CTL_TAGGED : Fld := ⟨0x20, 0x823, 1, .rw, .lit 0⟩
/-- ETHPORT page, R409: VLAN ID. -/
def ET_CTL_VID : Fld := ⟨0x20, 0x824, 12, .rw, .lit 0⟩
/-- ETHPORT page, R409: priority code point. -/
def ET_CTL_PCP : Fld := ⟨0x20, 0x830, 3, .rw, .lit 0⟩
/-- ETHPORT page, R409: 0 DOWN, 1 TRAINING, 2 UP, 3 FAULT. -/
def ET_STAT_STATE : Fld := ⟨0x20, 0x840, 2, .ro, .lit 0⟩
/-- ETHPORT page, R409: FEC alignment locked. -/
def ET_STAT_FEC_LOCK : Fld := ⟨0x20, 0x842, 1, .ro, .lit 0⟩
/-- ETHPORT page, R409: remote fault received. -/
def ET_STAT_RFAULT : Fld := ⟨0x20, 0x843, 1, .ro, .lit 0⟩
/-- ETHPORT page, R409: own MAC address bits [31:0], then [47:32] in [15:0]. -/
def ET_MAC : Fld := ⟨0x20, 0x860, 48, .rw, .lit 0⟩
/-- ETHPORT page, R409: next-hop MAC, as ET_MAC. -/
def ET_NH : Fld := ⟨0x20, 0x8a0, 48, .rw, .lit 0⟩
/-- ETHPORT page, R409: corrected codewords; saturating. -/
def ET_FEC_CORR_COUNT : Fld := ⟨0x20, 0x8e0, 32, .ro, .lit 0⟩
/-- ETHPORT page, R409: uncorrectable codewords; saturating. -/
def ET_FEC_UNCORR_COUNT : Fld := ⟨0x20, 0x900, 32, .ro, .lit 0⟩
/-- ETHPORT page, R409: frames and packets discarded; saturating. -/
def ET_RX_DROP_COUNT : Fld := ⟨0x20, 0x920, 32, .ro, .lit 0⟩
/-- ETHPORT page, R409: CE-marked packets received; saturating. -/
def ET_CE_COUNT : Fld := ⟨0x20, 0x940, 32, .ro, .lit 0⟩
/-- GROVE page, R410: per R383. -/
def GR_CFG_PMODE : Fld := ⟨0x30, 0x800, 1, .rw, .lit 0⟩
/-- GROVE page, R410: per R386. -/
def GR_CFG_SPRAY : Fld := ⟨0x30, 0x801, 1, .rw, .lit 0⟩
/-- GROVE page, R410: Grove UDP port. -/
def GR_CFG_UDP_PORT : Fld := ⟨0x30, 0x810, 16, .rw, .lit 0xb7a1⟩
/-- GROVE page, R410: IPv6 address; word n holds bytes 4n to 4n + 3, with byte 4n in [7:0]. -/
def GR_IP0_IP : Fld := ⟨0x30, 0x820, 32, .rw, .lit 0⟩
/-- GROVE page, R410: IPv6 address; word n holds bytes 4n to 4n + 3, with byte 4n in [7:0]. -/
def GR_IP1_IP : Fld := ⟨0x30, 0x840, 32, .rw, .lit 0⟩
/-- GROVE page, R410: IPv6 address; word n holds bytes 4n to 4n + 3, with byte 4n in [7:0]. -/
def GR_IP2_IP : Fld := ⟨0x30, 0x860, 32, .rw, .lit 0⟩
/-- GROVE page, R410: IPv6 address; word n holds bytes 4n to 4n + 3, with byte 4n in [7:0]. -/
def GR_IP3_IP : Fld := ⟨0x30, 0x880, 32, .rw, .lit 0⟩
/-- GROVE page, R410: DSCP. -/
def GR_TC_DSCP : Fld := ⟨0x30, 0x8a0, 6, .rw, .lit 0⟩
/-- GROVE page, R410: hop limit. -/
def GR_TC_HOPLIM : Fld := ⟨0x30, 0x8a8, 8, .rw, .lit 0x40⟩
/-- GROVE page, R410: connection table, 4 KiB aligned. -/
def GR_CTAB : Fld := ⟨0x30, 0x8c0, 48, .rw, .lit 0⟩
/-- GROVE page, R410: membership table, 4 KiB aligned. -/
def GR_MTAB : Fld := ⟨0x30, 0x900, 48, .rw, .lit 0⟩
/-- GROVE page, R410: additive increase in Mb/s. -/
def GR_CC0_RAI : Fld := ⟨0x30, 0x940, 16, .rw, .lit 0x7d0⟩
/-- GROVE page, R410: µs. -/
def GR_CC0_TINC : Fld := ⟨0x30, 0x950, 16, .rw, .lit 0x32⟩
/-- GROVE page, R410: gain exponent. -/
def GR_CC1_G : Fld := ⟨0x30, 0x960, 4, .rw, .lit 4⟩
/-- GROVE page, R410: units of 10 µs. -/
def GR_CC1_RTO : Fld := ⟨0x30, 0x968, 8, .rw, .lit 0x14⟩
/-- GROVE page, R410: per R389. -/
def GR_CC1_RETRIES : Fld := ⟨0x30, 0x970, 4, .rw, .lit 8⟩
/-- GROVE page, R410: Gb/s. -/
def GR_CC1_RMIN : Fld := ⟨0x30, 0x974, 12, .rw, .lit 1⟩
/-- GROVE page, R410: 0 none, 1 worker, 2 manager, 3 reserved. -/
def GR_ROLE_ROLE : Fld := ⟨0x30, 0x980, 2, .rw, .lit 0⟩
/-- GROVE page, R410: own member ID. -/
def GR_ROLE_MEMBER : Fld := ⟨0x30, 0x982, 9, .rw, .lit 0⟩
/-- GROVE page, R410: manager's member ID. -/
def GR_ROLE_MGR : Fld := ⟨0x30, 0x98b, 9, .rw, .lit 0⟩
/-- GROVE page, R410: grove ID. -/
def GR_GROVE_ID : Fld := ⟨0x30, 0x9a0, 16, .rw, .lit 0⟩
/-- GROVE page, R410: partition stepping with the grove. -/
def GR_GROVE_PART : Fld := ⟨0x30, 0x9b0, 6, .rw, .lit 0⟩
/-- GROVE page, R410: PART is in force. -/
def GR_GROVE_BOUND : Fld := ⟨0x30, 0x9b6, 1, .rw, .lit 0⟩
/-- GROVE page, R410: heartbeat period, µs. -/
def GR_LIVE_HB_US : Fld := ⟨0x30, 0x9c0, 16, .rw, .lit 0x3e8⟩
/-- GROVE page, R410: periods before loss. -/
def GR_LIVE_MISS : Fld := ⟨0x30, 0x9d0, 8, .rw, .lit 8⟩
/-- GROVE page, R410: 0 idle, 1 member, 2 shadow, 3 reserved. -/
def GR_STATE_STATE : Fld := ⟨0x30, 0x9e0, 2, .ro, .lit 0⟩
/-- GROVE page, R410: per R402. -/
def GR_STATE_HELD : Fld := ⟨0x30, 0x9e2, 1, .ro, .lit 0⟩
/-- GROVE page, R410: membership epoch in force. -/
def GR_EPOCH_EPOCH : Fld := ⟨0x30, 0xa00, 32, .ro, .lit 0⟩
/-- GROVE page, R410: hardware records in use. -/
def GR_CONNS_USED : Fld := ⟨0x30, 0xa20, 13, .ro, .lit 0⟩
/-- GROVE page, R410: write-backs; saturating. -/
def GR_EVICT_COUNT : Fld := ⟨0x30, 0xa40, 32, .ro, .lit 0⟩
/-- GROVE page, R410: per R388; saturating. -/
def GR_MISSDROP_COUNT : Fld := ⟨0x30, 0xa60, 32, .ro, .lit 0⟩
/-- GROVE page, R410: packets retransmitted; saturating. -/
def GR_RETX_COUNT : Fld := ⟨0x30, 0xa80, 32, .ro, .lit 0⟩
/-- GROVE page, R410: per R405; saturating. -/
def GR_SHDROP_COUNT : Fld := ⟨0x30, 0xaa0, 32, .ro, .lit 0⟩
/-- GROVE page, R410: channel selected for 0x184 to 0x1A0. -/
def XC_SEL_CHAN : Fld := ⟨0x30, 0xc00, 6, .rw, .lit 0⟩
/-- GROVE page, R410: per R392 and R394. -/
def XC_CFG_ENABLE : Fld := ⟨0x30, 0xc20, 1, .rw, .lit 0⟩
/-- GROVE page, R410: bound context. -/
def XC_CFG_CTX : Fld := ⟨0x30, 0xc21, 10, .rw, .lit 0⟩
/-- GROVE page, R410: 6 to 16. -/
def XC_CFG_LOG2SIZE : Fld := ⟨0x30, 0xc2b, 5, .rw, .lit 6⟩
/-- GROVE page, R410: ring base, 4 KiB aligned. -/
def XC_RING : Fld := ⟨0x30, 0xc40, 48, .rw, .lit 0⟩
/-- GROVE page, R410: doorbell, completion and arrival cells; [31:20] reserved. -/
def XC_DB_SITE : Fld := ⟨0x30, 0xc80, 9, .rw, .lit 0⟩
/-- GROVE page, R410: doorbell, completion and arrival cells; [31:20] reserved. -/
def XC_DB_CELL : Fld := ⟨0x30, 0xc89, 11, .rw, .lit 0⟩
/-- GROVE page, R410: doorbell, completion and arrival cells; [31:20] reserved. -/
def XC_CP_SITE : Fld := ⟨0x30, 0xca0, 9, .rw, .lit 0⟩
/-- GROVE page, R410: doorbell, completion and arrival cells; [31:20] reserved. -/
def XC_CP_CELL : Fld := ⟨0x30, 0xca9, 11, .rw, .lit 0⟩
/-- GROVE page, R410: doorbell, completion and arrival cells; [31:20] reserved. -/
def XC_AR_SITE : Fld := ⟨0x30, 0xcc0, 9, .rw, .lit 0⟩
/-- GROVE page, R410: doorbell, completion and arrival cells; [31:20] reserved. -/
def XC_AR_CELL : Fld := ⟨0x30, 0xcc9, 11, .rw, .lit 0⟩
/-- GROVE page, R410: entries taken. -/
def XC_HEAD_HEAD : Fld := ⟨0x30, 0xce0, 32, .ro, .lit 0⟩
/-- GROVE page, R410: per R394. -/
def XC_STAT_STOPPED : Fld := ⟨0x30, 0xd00, 1, .ro, .lit 0⟩
/-- GROVE page, R410: stopping code. -/
def XC_STAT_CODE : Fld := ⟨0x30, 0xd10, 16, .ro, .lit 0⟩
/-- GROVE page, R410: τ exponent, 4 to 20. -/
def SH_CFG_TOL : Fld := ⟨0x30, 0xe00, 5, .rw, .lit 8⟩
/-- GROVE page, R410: passes before 0xD402. -/
def SH_CFG_STEPS : Fld := ⟨0x30, 0xe05, 8, .rw, .lit 0x10⟩
/-- GROVE page, R410: consecutive passes. -/
def SH_STAT_PASSED : Fld := ⟨0x30, 0xe20, 8, .ro, .lit 0⟩
/-- GROVE page, R410: shadow list, 16-byte aligned. -/
def SH_LIST : Fld := ⟨0x30, 0xe40, 48, .rw, .lit 0⟩
/-- GROVE page, R410: 0 to 64. -/
def SH_COUNT_COUNT : Fld := ⟨0x30, 0xe80, 7, .rw, .lit 0⟩
/-- ERASURE page, R411: group 0 to 15. -/
def EC_SEL_GROUP : Fld := ⟨0x31, 0x800, 4, .rw, .lit 0⟩
/-- ERASURE page, R411: group in use. -/
def EC_CFG_VALID : Fld := ⟨0x31, 0x820, 1, .rw, .lit 0⟩
/-- ERASURE page, R411: 1 to 14. -/
def EC_CFG_K : Fld := ⟨0x31, 0x821, 4, .rw, .lit 0⟩
/-- ERASURE page, R411: 0 to K − 1 data; K is P; K + 1 is Q. -/
def EC_CFG_POS : Fld := ⟨0x31, 0x825, 4, .rw, .lit 0⟩
/-- ERASURE page, R411: shard base, 4 KiB aligned. -/
def EC_BASE : Fld := ⟨0x31, 0x840, 48, .rw, .lit 0⟩
/-- ERASURE page, R411: shard bytes, multiple of 4 KiB. -/
def EC_SIZE : Fld := ⟨0x31, 0x880, 64, .rw, .lit 0⟩
/-- ERASURE page, R411: EC packets applied; saturating. -/
def EC_UPDATES_COUNT : Fld := ⟨0x31, 0x8c0, 32, .ro, .lit 0⟩
/-- CLK page, R430: current ladder step; 0xF on fixed-clock sites. -/
def CK_STAT_STEP : Fld := ⟨0x01, 0x800, 4, .ro, .lit 0⟩
/-- CLK page, R430: a change of R420 is in progress. -/
def CK_STAT_CHANGING : Fld := ⟨0x01, 0x804, 1, .ro, .lit 0⟩
/-- CLK page, R430: every PLL of the site is locked. -/
def CK_STAT_LOCK : Fld := ⟨0x01, 0x805, 1, .ro, .lit 0⟩
/-- CLK page, R430: the tick counter is loaded, per R414. -/
def CK_STAT_TVALID : Fld := ⟨0x01, 0x806, 1, .ro, .lit 0⟩
/-- CLK page, R430: CFG ceiling; changed only by epoch. -/
def CK_CFG_MAXSTEP : Fld := ⟨0x01, 0x820, 4, .ro, .lit 9⟩
/-- CLK page, R430: lowest step. -/
def CK_CFG_MINSTEP : Fld := ⟨0x01, 0x824, 4, .rw, .lit 0⟩
/-- CLK page, R430: µs × 10 between up-steps, 1 to 255. -/
def CK_CFG_DWELL : Fld := ⟨0x01, 0x828, 8, .rw, .lit 0xa⟩
/-- CLK page, R430: per R419. -/
def CK_CEIL_POWER : Fld := ⟨0x01, 0x840, 4, .ro, .lit 9⟩
/-- CLK page, R430: per R419. -/
def CK_CEIL_THERM : Fld := ⟨0x01, 0x844, 4, .ro, .lit 9⟩
/-- CLK page, R430: per R419. -/
def CK_CEIL_MON : Fld := ⟨0x01, 0x848, 4, .ro, .lit 9⟩
/-- CLK page, R430: tick counter, bits [31:0]. -/
def CK_TIME : Fld := ⟨0x01, 0x860, 64, .ro, .lit 0⟩
/-- CLK page, R430: forwarding delay in ps, written by the steward. -/
def CK_TDLY_PS : Fld := ⟨0x01, 0x8a0, 16, .rw, .lit 0⟩
/-- CLK page, R430: reference parent. -/
def CK_REFPARENT_SITE : Fld := ⟨0x01, 0x8c0, 9, .rw, .refParent⟩
/-- CLK page, R430: ladder changes; saturating. -/
def CK_STEPS_COUNT : Fld := ⟨0x01, 0x8e0, 32, .ro, .lit 0⟩
/-- CLK page, R430: % below set point, 1 to 15. -/
def CK_DROOP_STRETCH : Fld := ⟨0x01, 0x900, 4, .rw, .lit 4⟩
/-- CLK page, R430: %, above STRETCH. -/
def CK_DROOP_GATE : Fld := ⟨0x01, 0x904, 4, .rw, .lit 8⟩
/-- CLK page, R430: core for 0x124 and 0x128. -/
def CK_DROOP_SLOT : Fld := ⟨0x01, 0x908, 5, .rw, .lit 0⟩
/-- CLK page, R430: stretch episodes of SLOT; saturating. -/
def CK_STRETCH_COUNT : Fld := ⟨0x01, 0x920, 32, .ro, .lit 0⟩
/-- CLK page, R430: droop gates of SLOT; saturating. -/
def CK_GATE_COUNT : Fld := ⟨0x01, 0x940, 32, .ro, .lit 0⟩
/-- CLK page, R430: commit time. -/
def CK_EP_T : Fld := ⟨0x01, 0x960, 64, .rw, .lit 0⟩
/-- CLK page, R430: bit 0 ADDRMAP, 1 bulk routes, 2 multicast, 3 sync routes, 4 MAXSTEP. -/
def CK_EP_CTL_MASK : Fld := ⟨0x01, 0x9a0, 5, .rw, .lit 0⟩
/-- CLK page, R430: per R426. -/
def CK_EP_CTL_ARM : Fld := ⟨0x01, 0x9a5, 1, .sc, .lit 0⟩
/-- CLK page, R430: disarms an ARMED unit; no effect once the unit has switched, per R426. -/
def CK_EP_CTL_CANCEL : Fld := ⟨0x01, 0x9a6, 1, .sc, .lit 0⟩
/-- CLK page, R430: per R427. -/
def CK_EP_CTL_CATCHUP : Fld := ⟨0x01, 0x9a7, 1, .sc, .lit 0⟩
/-- CLK page, R430: swaps back at CK_EP_T. -/
def CK_EP_CTL_ROLLBACK : Fld := ⟨0x01, 0x9a8, 1, .sc, .lit 0⟩
/-- CLK page, R430: 0 IDLE, 1 ARMED, 2 SWITCHED, 3 MISSED, 4 REFUSED, 5 ROLLBACK_ARMED, 6–7 reserved. -/
def CK_EP_STAT_STATE : Fld := ⟨0x01, 0x9c0, 3, .ro, .lit 0⟩
/-- REFCLK page, R431: preferred input: 0 A, 1 B. -/
def RC_CTL_SEL : Fld := ⟨0x20, 0x800, 1, .rw, .lit 0⟩
/-- REFCLK page, R431: switchover per R412. -/
def RC_CTL_AUTO : Fld := ⟨0x20, 0x801, 1, .rw, .lit 1⟩
/-- REFCLK page, R431: per R425; 3 reserved. -/
def RC_CTL_SRC : Fld := ⟨0x20, 0x802, 2, .rw, .lit 0⟩
/-- REFCLK page, R431: 0 A, 1 B, 2 holdover, 3 reserved. -/
def RC_STAT_ACTIVE : Fld := ⟨0x20, 0x820, 2, .ro, .lit 0⟩
/-- REFCLK page, R431: input A present. -/
def RC_STAT_A_OK : Fld := ⟨0x20, 0x822, 1, .ro, .lit 0⟩
/-- REFCLK page, R431: input B present. -/
def RC_STAT_B_OK : Fld := ⟨0x20, 0x823, 1, .ro, .lit 0⟩
/-- REFCLK page, R431: 1PPS edge within the last 1.1 s. -/
def RC_STAT_PPS_OK : Fld := ⟨0x20, 0x824, 1, .ro, .lit 0⟩
/-- REFCLK page, R431: ticks per 1 ns, 100 to 65,535; 0 no slew. -/
def RC_ADJ_INTERVAL : Fld := ⟨0x20, 0x840, 16, .rw, .lit 0⟩
/-- REFCLK page, R431: 0 add, 1 withhold. -/
def RC_ADJ_SIGN : Fld := ⟨0x20, 0x850, 1, .rw, .lit 0⟩
/-- REFCLK page, R431: i64 step in ns. -/
def RC_STEP : Fld := ⟨0x20, 0x860, 64, .rw, .lit 0⟩
/-- REFCLK page, R431: applies RC_STEP, per R424. -/
def RC_CMD_STEP : Fld := ⟨0x20, 0x8a0, 1, .sc, .lit 0⟩
/-- REFCLK page, R431: panel time at the last 1PPS edge. -/
def RC_PPS : Fld := ⟨0x20, 0x8c0, 64, .ro, .lit 0⟩
/-- REFCLK page, R431: input changes; saturating. -/
def RC_SWITCHES_COUNT : Fld := ⟨0x20, 0x900, 32, .ro, .lit 0⟩
/-- EPOCH page, R432: as CK_EP_CTL.MASK. -/
def EP_MASK_MASK : Fld := ⟨0x24, 0x800, 5, .rw, .lit 0⟩
/-- EPOCH page, R432: µs, 10 to 2^24 − 1. -/
def EP_LEAD_US : Fld := ⟨0x24, 0x820, 24, .rw, .lit 0x14⟩
/-- EPOCH page, R432: µs. -/
def EP_TMO_US : Fld := ⟨0x24, 0x840, 24, .rw, .lit 0x3e8⟩
/-- EPOCH page, R432: 0 none, 1 COMMIT, 2 CANCEL before T, 3 reserved; discarded unless STATE allows. -/
def EP_CMD_OP : Fld := ⟨0x24, 0x860, 2, .wo, .lit 0⟩
/-- EPOCH page, R432: 0 IDLE, 1 PREPARING, 2 ARMED, 3 MIXED, 4 ROLLING_BACK, 5–7 reserved. -/
def EP_STAT_STATE : Fld := ⟨0x24, 0x880, 3, .ro, .lit 0⟩
/-- EPOCH page, R432: 0x0000, 0x9202 or 0x9203. -/
def EP_STAT_RESULT : Fld := ⟨0x24, 0x890, 16, .ro, .lit 0⟩
/-- EPOCH page, R432: completed commits. -/
def EP_NUM_EPOCH : Fld := ⟨0x24, 0x8a0, 32, .ro, .lit 0⟩
/-- EPOCH page, R432: commit time of the current or last commit. -/
def EP_T : Fld := ⟨0x24, 0x8c0, 64, .ro, .lit 0⟩
/-- EPOCH page, R432: units not yet SWITCHED. -/
def EP_PEND_COUNT : Fld := ⟨0x24, 0x900, 9, .ro, .lit 0⟩
/-- EPOCH page, R432: first unit missing; 0x1FF none. -/
def EP_FIRST_SITE : Fld := ⟨0x24, 0x920, 9, .ro, .lit 0x1ff⟩
/-- PWR page, R455: live phases of the CORE or STACK group. -/
def PW_STAT_PHASES : Fld := ⟨0x02, 0x800, 4, .ro, .phases⟩
/-- PWR page, R455: a phase has failed. -/
def PW_STAT_DEGRADED : Fld := ⟨0x02, 0x804, 1, .ro, .lit 0⟩
/-- PWR page, R455: dies: tokens held, 0 to 2. -/
def PW_STAT_TOKENS : Fld := ⟨0x02, 0x805, 2, .ro, .lit 0⟩
/-- PWR page, R455: dies: requests waiting, 0 to 18. -/
def PW_STAT_QUEUED : Fld := ⟨0x02, 0x807, 5, .ro, .lit 0⟩
/-- PWR page, R455: stacks: level per R447. -/
def PW_STAT_THROT : Fld := ⟨0x02, 0x80c, 2, .ro, .lit 0⟩
/-- PWR page, R455: cap in W. -/
def PW_CAP_WATTS : Fld := ⟨0x02, 0x820, 12, .rw, .capWatts⟩
/-- PWR page, R455: averaging window in units of 10 µs, 1 to 255. -/
def PW_CAP_WIN : Fld := ⟨0x02, 0x830, 8, .rw, .lit 0xa⟩
/-- PWR page, R455: dies: A, per R441. -/
def PW_ADM_LIMIT : Fld := ⟨0x02, 0x840, 8, .rw, .lit 0x6c⟩
/-- PWR page, R455: dies: A per turn-on, 1 to 15. -/
def PW_ADM_CORE_A : Fld := ⟨0x02, 0x848, 4, .rw, .lit 6⟩
/-- PWR page, R455: dies: µs, 1 to 255. -/
def PW_ADM_WAIT : Fld := ⟨0x02, 0x850, 8, .rw, .lit 0x32⟩
/-- PWR page, R455: dies: µs per R438. -/
def PW_CFG_OFF_DLY : Fld := ⟨0x02, 0x860, 10, .rw, .lit 0x64⟩
/-- PWR page, R455: dies: per R443. -/
def PW_CFG_HINT_EN : Fld := ⟨0x02, 0x86a, 1, .rw, .lit 1⟩
/-- PWR page, R455: dies: per R443. -/
def PW_CFG_AUTO_NOTICE : Fld := ⟨0x02, 0x86b, 1, .rw, .lit 1⟩
/-- PWR page, R455: per R446 and R447; saturating. -/
def PW_CAPHIT_COUNT : Fld := ⟨0x02, 0x880, 32, .ro, .lit 0⟩
/-- PWR page, R455: dies: per R442; saturating. -/
def PW_ADMWAIT_COUNT : Fld := ⟨0x02, 0x8a0, 32, .ro, .lit 0⟩
/-- PWR page, R455: bit n: phase n of the group failed. -/
def PW_PHFAIL_MASK : Fld := ⟨0x02, 0x8c0, 12, .ro, .lit 0⟩
/-- PWRRG page, R456: group code of R435; rind regulators 0 only; 5 to 7 reserved. -/
def RG_SEL_GROUP : Fld := ⟨0x02, 0x800, 3, .rw, .lit 0⟩
/-- PWRRG page, R456: live phases. -/
def RG_STAT_LIVE : Fld := ⟨0x02, 0x820, 4, .ro, .rgPlaced⟩
/-- PWRRG page, R456: placed phases. -/
def RG_STAT_PLACED : Fld := ⟨0x02, 0x824, 4, .ro, .rgPlaced⟩
/-- PWRRG page, R456: 0 OFF, 1 ON, 2 DEGRADED, 3 TRIPPED. -/
def RG_STAT_STATE : Fld := ⟨0x02, 0x828, 2, .ro, .lit 0⟩
/-- PWRRG page, R456: failed phases. -/
def RG_FAILED_MASK : Fld := ⟨0x02, 0x840, 12, .ro, .lit 0⟩
/-- PWRRG page, R456: breaker openings; saturating. -/
def RG_TRIPS_COUNT : Fld := ⟨0x02, 0x860, 32, .ro, .lit 0⟩
/-- PWRRG page, R456: bit n: the n-th blade pair measured here is flagged. -/
def RG_CRACK_PAIRS : Fld := ⟨0x02, 0x880, 6, .ro, .lit 0⟩
/-- PWRPP page, R457: operator ceiling, 4,000 to 14,000 W. -/
def PP_CEIL_WATTS : Fld := ⟨0x02, 0x800, 14, .rw, .lit 0x36b0⟩
/-- PWRPP page, R457: per R445. -/
def PP_EFF_WATTS : Fld := ⟨0x02, 0x820, 14, .ro, .lit 0x36b0⟩
/-- PWRPP page, R457: last 1 ms sample. -/
def PP_IN_WATTS : Fld := ⟨0x02, 0x840, 16, .ro, .lit 0⟩
/-- PWRPP page, R457: highest sample; any write of 1 to bit 0 clears the whole field. -/
def PP_IN_MAX_WATTS : Fld := ⟨0x02, 0x860, 16, .w1c, .lit 0⟩
/-- PWRPP page, R457: input energy since panel reset. -/
def PP_ENERGY : Fld := ⟨0x02, 0x880, 64, .ro, .lit 0⟩
/-- PWRPP page, R457: allowance for rind dies, per R444. -/
def PP_FIXED_WATTS : Fld := ⟨0x02, 0x8c0, 12, .rw, .lit 0x320⟩
/-- PWRPP page, R457: 0x7301 events; saturating. -/
def PP_OVER_COUNT : Fld := ⟨0x02, 0x8e0, 32, .ro, .lit 0⟩
/-- PWRPP page, R457: selected partition. -/
def PP_SEL_PART : Fld := ⟨0x02, 0x900, 6, .rw, .lit 0⟩
/-- PWRPP page, R457: die cap, 9 to 4,095 W. -/
def PP_PART_DIE_W : Fld := ⟨0x02, 0x920, 12, .rw, .lit 0x44⟩
/-- PWRPP page, R457: stack cap, 20 to 4,095 W. -/
def PP_PART_STK_W : Fld := ⟨0x02, 0x92c, 12, .rw, .lit 0x37⟩
/-- PWRPP page, R457: per R446. -/
def PP_PART_MAXSTEP : Fld := ⟨0x02, 0x938, 4, .rw, .lit 9⟩
/-- PWRPP page, R457: per R444. -/
def PP_CMD_APPLY : Fld := ⟨0x02, 0x940, 1, .sc, .lit 0⟩
/-- PWRPP page, R457: result of the last PART_SET or APPLY. -/
def PP_STAT_RESULT : Fld := ⟨0x02, 0x960, 16, .ro, .lit 0⟩
/-- THERM page, R470: sensor read by TH_TEMP. -/
def TH_SEL_SENSOR : Fld := ⟨0x03, 0x800, 3, .rw, .lit 0⟩
/-- THERM page, R470: i16, 1/128 °C, selected sensor. -/
def TH_TEMP_TEMP : Fld := ⟨0x03, 0x820, 16, .ro, .lit 0⟩
/-- THERM page, R470: site temperature. -/
def TH_MAX_TEMP : Fld := ⟨0x03, 0x840, 16, .ro, .lit 0⟩
/-- THERM page, R470: hottest sensor. -/
def TH_MAX_SENSOR : Fld := ⟨0x03, 0x850, 3, .ro, .lit 0⟩
/-- THERM page, R470: °C. -/
def TH_LIM_WARN : Fld := ⟨0x03, 0x860, 8, .rw, .limWarn⟩
/-- THERM page, R470: °C. -/
def TH_LIM_THROT : Fld := ⟨0x03, 0x868, 8, .rw, .limThrot⟩
/-- THERM page, R470: °C; TRIP is fixed. -/
def TH_LIM_CRIT : Fld := ⟨0x03, 0x870, 8, .rw, .limCrit⟩
/-- THERM page, R470: 0 NORMAL, 1 THROTTLE, 2 CRITICAL, 3 GATED. -/
def TH_STAT_STATE : Fld := ⟨0x03, 0x880, 2, .ro, .lit 0⟩
/-- THERM page, R470: emergency shed in force. -/
def TH_STAT_SHED : Fld := ⟨0x03, 0x882, 1, .ro, .lit 0⟩
/-- THERM page, R470: E capped at A, per R465. -/
def TH_STAT_RAMPHOLD : Fld := ⟨0x03, 0x883, 1, .ro, .lit 0⟩
/-- THERM page, R470: per R467; compute dies and stacks only. -/
def TH_CTL_SHED : Fld := ⟨0x03, 0x8a0, 1, .rw, .lit 0⟩
/-- THERM page, R470: D of R465. -/
def TH_RAMP_WATTS : Fld := ⟨0x03, 0x8c0, 8, .rw, .rampWatts⟩
/-- THERM page, R470: K/s, 1 to 50. -/
def TH_RAMP_KPS : Fld := ⟨0x03, 0x8c8, 8, .rw, .lit 5⟩
/-- THERM page, R470: THROT actions; saturating. -/
def TH_THROTTLES_COUNT : Fld := ⟨0x03, 0x8e0, 32, .ro, .lit 0⟩
/-- THERM page, R470: GATE actions; saturating. -/
def TH_GATES_COUNT : Fld := ⟨0x03, 0x900, 32, .ro, .lit 0⟩
/-- THERMTP page, R471: 0 TRAY, 1 DIE, 2 BOTH, 3 reserved; takes effect at the next read. -/
def TP_CFG_SRC : Fld := ⟨0x03, 0x800, 2, .rw, .lit 1⟩
/-- THERMTP page, R471: per R468. -/
def TP_CFG_ROT_EN : Fld := ⟨0x03, 0x802, 1, .rw, .lit 0⟩
/-- THERMTP page, R471: step releases per rotation. -/
def TP_CFG_ROT_STEPS : Fld := ⟨0x03, 0x808, 8, .rw, .lit 0⟩
/-- THERMTP page, R471: 1/100 L/min. -/
def TP_FLOW_FLOW : Fld := ⟨0x03, 0x820, 16, .ro, .lit 0⟩
/-- THERMTP page, R471: 1/128 °C. -/
def TP_INLET_TEMP : Fld := ⟨0x03, 0x840, 16, .ro, .lit 0⟩
/-- THERMTP page, R471: 1/128 °C. -/
def TP_OUTLET_TEMP : Fld := ⟨0x03, 0x860, 16, .ro, .lit 0⟩
/-- THERMTP page, R471: 0 OK, 1 LOW, 2 SHED, 3 GATED, 4 COMPUTE_OFF, 5–7 reserved. -/
def TP_STAT_FLOW : Fld := ⟨0x03, 0x880, 3, .ro, .lit 0⟩
/-- THERMTP page, R471: all tray sensors answering. -/
def TP_STAT_TRAY_OK : Fld := ⟨0x03, 0x883, 1, .ro, .lit 0⟩
/-- THERMTP page, R471: inlet within R459. -/
def TP_STAT_INLET_OK : Fld := ⟨0x03, 0x884, 1, .ro, .lit 0⟩
/-- THERMTP page, R471: per R466. -/
def TP_FLOWCAP_WATTS : Fld := ⟨0x03, 0x8a0, 14, .ro, .lit 0x36b0⟩
/-- THERMTP page, R471: static address. -/
def TP_I3C_FLOW_ADDR : Fld := ⟨0x03, 0x8c0, 7, .rw, .lit 0⟩
/-- THERMTP page, R471: static address. -/
def TP_I3C_IN_ADDR : Fld := ⟨0x03, 0x8e0, 7, .rw, .lit 0⟩
/-- THERMTP page, R471: static address. -/
def TP_I3C_OUT_ADDR : Fld := ⟨0x03, 0x900, 7, .rw, .lit 0⟩
/-- THERMTP page, R471: register. -/
def TP_I3C_FLOW_REG : Fld := ⟨0x03, 0x8c8, 8, .rw, .lit 0⟩
/-- THERMTP page, R471: register. -/
def TP_I3C_IN_REG : Fld := ⟨0x03, 0x8e8, 8, .rw, .lit 0⟩
/-- THERMTP page, R471: register. -/
def TP_I3C_OUT_REG : Fld := ⟨0x03, 0x908, 8, .rw, .lit 0⟩
/-- THERMTP page, R471: 0x8301 events; saturating. -/
def TP_LOSSES_COUNT : Fld := ⟨0x03, 0x920, 32, .ro, .lit 0⟩
/-- ERRLOG page, R517: records held, 0 to 4,096. -/
def EL_STAT_COUNT : Fld := ⟨0x25, 0x800, 13, .ro, .lit 0⟩
/-- ERRLOG page, R517: SEQ of the next record accepted. -/
def EL_NEXT_SEQ : Fld := ⟨0x25, 0x820, 32, .ro, .lit 0⟩
/-- ERRLOG page, R517: SEQ of the oldest record held. -/
def EL_OLDEST_SEQ : Fld := ⟨0x25, 0x840, 32, .ro, .lit 0⟩
/-- ERRLOG page, R517: record read by EL_REC0 to EL_REC7. -/
def EL_RSEL_SEQ : Fld := ⟨0x25, 0x860, 32, .rw, .lit 0⟩
/-- ERRLOG page, R517: word n holds record bytes 4n to 4n + 3, per R516. -/
def EL_REC0_DATA : Fld := ⟨0x25, 0x880, 32, .ro, .lit 0⟩
/-- ERRLOG page, R517: word n holds record bytes 4n to 4n + 3, per R516. -/
def EL_REC1_DATA : Fld := ⟨0x25, 0x8a0, 32, .ro, .lit 0⟩
/-- ERRLOG page, R517: word n holds record bytes 4n to 4n + 3, per R516. -/
def EL_REC2_DATA : Fld := ⟨0x25, 0x8c0, 32, .ro, .lit 0⟩
/-- ERRLOG page, R517: word n holds record bytes 4n to 4n + 3, per R516. -/
def EL_REC3_DATA : Fld := ⟨0x25, 0x8e0, 32, .ro, .lit 0⟩
/-- ERRLOG page, R517: word n holds record bytes 4n to 4n + 3, per R516. -/
def EL_REC4_DATA : Fld := ⟨0x25, 0x900, 32, .ro, .lit 0⟩
/-- ERRLOG page, R517: word n holds record bytes 4n to 4n + 3, per R516. -/
def EL_REC5_DATA : Fld := ⟨0x25, 0x920, 32, .ro, .lit 0⟩
/-- ERRLOG page, R517: word n holds record bytes 4n to 4n + 3, per R516. -/
def EL_REC6_DATA : Fld := ⟨0x25, 0x940, 32, .ro, .lit 0⟩
/-- ERRLOG page, R517: word n holds record bytes 4n to 4n + 3, per R516. -/
def EL_REC7_DATA : Fld := ⟨0x25, 0x960, 32, .ro, .lit 0⟩
/-- ERRLOG page, R517: records discarded at intake; saturating. -/
def EL_DROPPED_COUNT : Fld := ⟨0x25, 0x980, 32, .ro, .lit 0⟩
/-- ERRLOG page, R517: records overwritten; saturating. -/
def EL_OVERWRITTEN_COUNT : Fld := ⟨0x25, 0x9a0, 32, .ro, .lit 0⟩
/-- ERRLOG page, R517: replays of one step, 1 to 15; 0 is discarded. -/
def RP_CFG_LIMIT : Fld := ⟨0x25, 0xa00, 4, .rw, .lit 3⟩
/-- ERRLOG page, R517: selected partition. -/
def RP_SEL_PART : Fld := ⟨0x25, 0xa20, 6, .rw, .lit 0⟩
/-- ERRLOG page, R517: 0 RUN, 1 STOPPING, 2 HELD, 3 RESTARTING, 4 FAILED, 5 to 7 reserved. -/
def RP_STAT_STATE : Fld := ⟨0x25, 0xa40, 3, .ro, .lit 0⟩
/-- ERRLOG page, R517: per R501. -/
def RP_STAT_HOLD_RES : Fld := ⟨0x25, 0xa43, 1, .ro, .lit 0⟩
/-- ERRLOG page, R517: per R501. -/
def RP_STAT_HOLD_INPUT : Fld := ⟨0x25, 0xa44, 1, .ro, .lit 0⟩
/-- ERRLOG page, R517: per R501. -/
def RP_STAT_HOLD_GRAFT : Fld := ⟨0x25, 0xa45, 1, .ro, .lit 0⟩
/-- ERRLOG page, R517: per R501. -/
def RP_STAT_HOLD_GROVE : Fld := ⟨0x25, 0xa46, 1, .ro, .lit 0⟩
/-- ERRLOG page, R517: replays of the current step. -/
def RP_STAT_COUNT : Fld := ⟨0x25, 0xa48, 4, .ro, .lit 0⟩
/-- ERRLOG page, R517: STEP of the restart point of the last replay. -/
def RP_STEP_STEP : Fld := ⟨0x25, 0xa60, 32, .ro, .lit 0⟩
/-- ERRLOG page, R517: replays of the partition; saturating. -/
def RP_TOTAL_COUNT : Fld := ⟨0x25, 0xa80, 32, .ro, .lit 0⟩
/-- ERRLOG page, R517: lost input sectors in the current hold; saturating. -/
def RP_LOST_COUNT : Fld := ⟨0x25, 0xaa0, 16, .ro, .lit 0⟩
/-- ERRLOG page, R517: 0 none, 1 RESUME, 2 ABANDON, 3 reserved; per R501. -/
def RP_CMD_OP : Fld := ⟨0x25, 0xac0, 2, .wo, .lit 0⟩
/-- ERRLOG page, R517: result of the last command. -/
def RP_CMD_RESULT : Fld := ⟨0x25, 0xad0, 16, .ro, .lit 0⟩
/-- ERRLOG page, R517: selected context. -/
def RA_SEL_CTX : Fld := ⟨0x25, 0xb00, 10, .rw, .lit 0⟩
/-- ERRLOG page, R517: restart area bits [31:8], per R494. -/
def RA_BASE : Fld := ⟨0x25, 0xb28, 40, .rw, .lit 0⟩
/-- ERRLOG page, R517: source bits [31:6]. -/
def LR_SRC : Fld := ⟨0x25, 0xb86, 42, .rw, .lit 0⟩
/-- ERRLOG page, R517: compute die. -/
def LR_DST_SITE : Fld := ⟨0x25, 0xbc0, 9, .rw, .lit 0⟩
/-- ERRLOG page, R517: core slot. -/
def LR_DST_SLOT : Fld := ⟨0x25, 0xbc9, 5, .rw, .lit 0⟩
/-- ERRLOG page, R517: 0b01 core memory, 0b10 die memory; others refused with 0x5405. -/
def LR_DST_SPACE : Fld := ⟨0x25, 0xbce, 2, .rw, .lit 1⟩
/-- ERRLOG page, R517: local offset bits [25:6]. -/
def LR_OFF_OFF : Fld := ⟨0x25, 0xbe6, 20, .rw, .lit 0⟩
/-- ERRLOG page, R517: bytes, a multiple of 64, 64 to 4,194,304. -/
def LR_LEN_LEN : Fld := ⟨0x25, 0xc00, 23, .rw, .lit 0⟩
/-- ERRLOG page, R517: starts the copy of R503. -/
def LR_CMD_GO : Fld := ⟨0x25, 0xc20, 1, .sc, .lit 0⟩
/-- ERRLOG page, R517: 0x0000, 0x5405 or 0x2202. -/
def LR_CMD_RESULT : Fld := ⟨0x25, 0xc30, 16, .ro, .lit 0⟩
/-- ERRLOG page, R517: WATCH threshold. -/
def HL_CFG_WATCH : Fld := ⟨0x25, 0xc80, 16, .rw, .lit 0x800⟩
/-- ERRLOG page, R517: RETIRE threshold; a value not above WATCH is discarded. -/
def HL_CFG_RETIRE : Fld := ⟨0x25, 0xc90, 16, .rw, .lit 0x2000⟩
/-- ERRLOG page, R517: level below which WATCH returns to OK; a value not below WATCH is discarded. -/
def HL_OK_OK : Fld := ⟨0x25, 0xca0, 16, .rw, .lit 0x400⟩
/-- ERRLOG page, R517: per R509. -/
def GF_CFG_AUTO : Fld := ⟨0x25, 0xd00, 1, .rw, .lit 1⟩
/-- ERRLOG page, R517: shadow run in s, 10 to 255. -/
def GF_CFG_SOAK : Fld := ⟨0x25, 0xd08, 8, .rw, .lit 0xe1⟩
/-- ERRLOG page, R517: 0 none, 1 PLOT, 2 STACK, 3 ABORT. -/
def GF_CMD_OP : Fld := ⟨0x25, 0xd20, 2, .wo, .lit 0⟩
/-- ERRLOG page, R517: source plot p. -/
def GF_CMD_SRC : Fld := ⟨0x25, 0xd22, 7, .wo, .lit 0⟩
/-- ERRLOG page, R517: plot q, or 0x7F to choose per R509. -/
def GF_CMD_DEST : Fld := ⟨0x25, 0xd29, 7, .wo, .lit 0⟩
/-- ERRLOG page, R517: 0 IDLE, 1 POWER, 2 TEST, 3 SHADOW, 4 MIGRATE, 5 COMMIT_WAIT, 6 FAILED, 7 reserved. -/
def GF_STAT_STATE : Fld := ⟨0x25, 0xd40, 3, .ro, .lit 0⟩
/-- ERRLOG page, R517: 0 plot, 1 stack. -/
def GF_STAT_KIND : Fld := ⟨0x25, 0xd43, 1, .ro, .lit 0⟩
/-- ERRLOG page, R517: source plot. -/
def GF_STAT_SRC : Fld := ⟨0x25, 0xd44, 7, .ro, .lit 0⟩
/-- ERRLOG page, R517: destination plot. -/
def GF_STAT_DEST : Fld := ⟨0x25, 0xd4b, 7, .ro, .lit 0⟩
/-- ERRLOG page, R517: 0x0000, 0x5405, or the code that failed the last graft. -/
def GF_RESULT_CODE : Fld := ⟨0x25, 0xd60, 16, .ro, .lit 0⟩
/-- BRINGUP page, R543: last completed step, 0 to 10. -/
def BR_STAT_STEP : Fld := ⟨0x20, 0x800, 4, .ro, .lit 0⟩
/-- BRINGUP page, R543: a step or command is in progress. -/
def BR_STAT_BUSY : Fld := ⟨0x20, 0x804, 1, .ro, .lit 0⟩
/-- BRINGUP page, R543: per R521; clears at the next accepted step. -/
def BR_STAT_FAILED : Fld := ⟨0x20, 0x805, 1, .ro, .lit 0⟩
/-- BRINGUP page, R543: this steward is active. -/
def BR_STAT_ACTIVE : Fld := ⟨0x20, 0x806, 1, .ro, .lit 0⟩
/-- BRINGUP page, R543: the boot ROM answers this page. -/
def BR_STAT_ROM : Fld := ⟨0x20, 0x807, 1, .ro, .lit 1⟩
/-- BRINGUP page, R543: code of the last failure or refused command. -/
def BR_STAT_RESULT : Fld := ⟨0x20, 0x810, 16, .ro, .lit 0⟩
/-- BRINGUP page, R543: per R544. -/
def BR_CMD_OP : Fld := ⟨0x20, 0x820, 4, .wo, .lit 0⟩
/-- BRINGUP page, R543: step for OP = STEP. -/
def BR_CMD_STEP : Fld := ⟨0x20, 0x824, 4, .wo, .lit 0⟩
/-- BRINGUP page, R543: 0 FULL, 1 QUICK, per R523. -/
def BR_CFG_MEMTEST : Fld := ⟨0x20, 0x840, 1, .rw, .lit 0⟩
/-- BRINGUP page, R543: 0 FULL, 1 QUICK. -/
def BR_CFG_DIETEST : Fld := ⟨0x20, 0x841, 1, .rw, .lit 0⟩
/-- BRINGUP page, R543: per R523. -/
def BR_CFG_COLDGRAFT : Fld := ⟨0x20, 0x842, 1, .rw, .lit 1⟩
/-- BRINGUP page, R543: per R522. -/
def BR_CFG_PREFER_B : Fld := ⟨0x20, 0x843, 1, .rw, .lit 0⟩
/-- BRINGUP page, R543: µs, 1 to 255; 0 is discarded. -/
def BR_CFG_DRAIN : Fld := ⟨0x20, 0x848, 8, .rw, .lit 0x14⟩
/-- BRINGUP page, R543: write drain in units of 10 µs, 1 to 255, per R537; 0 is discarded. -/
def BR_CFG_WDRAIN : Fld := ⟨0x20, 0x850, 8, .rw, .lit 0x14⟩
/-- BRINGUP page, R543: word offset into the load buffer. -/
def BR_FW_ADDR_ADDR : Fld := ⟨0x20, 0x862, 22, .rw, .lit 0⟩
/-- BRINGUP page, R543: writes the word at ADDR, then adds 4 to ADDR. -/
def BR_FW_DATA_DATA : Fld := ⟨0x20, 0x880, 32, .wo, .lit 0⟩
/-- BRINGUP page, R543: image bytes, a multiple of 4, up to 16,777,216. -/
def BR_FW_LEN_LEN : Fld := ⟨0x20, 0x8a0, 25, .rw, .lit 0⟩
/-- BRINGUP page, R543: 0 core, 1 cluster, 2 partition, 3 reserved. -/
def BR_RST_SCOPE : Fld := ⟨0x20, 0x8c0, 2, .rw, .lit 0⟩
/-- BRINGUP page, R543: compute die. -/
def BR_RST_SITE : Fld := ⟨0x20, 0x8c2, 9, .rw, .lit 0⟩
/-- BRINGUP page, R543: core slot. -/
def BR_RST_SLOT : Fld := ⟨0x20, 0x8cb, 5, .rw, .lit 0⟩
/-- BRINGUP page, R543: partition. -/
def BR_RST_PART : Fld := ⟨0x20, 0x8d0, 6, .rw, .lit 0⟩
/-- BRINGUP page, R543: per R534. -/
def BR_RST_FORCE : Fld := ⟨0x20, 0x8d6, 1, .rw, .lit 0⟩
/-- BRINGUP page, R543: starts the reset. -/
def BR_RST_GO : Fld := ⟨0x20, 0x8d7, 1, .sc, .lit 0⟩
/-- BRINGUP page, R543: a reset of R534 is in progress. -/
def BR_RST_STAT_BUSY : Fld := ⟨0x20, 0x8e0, 1, .ro, .lit 0⟩
/-- BRINGUP page, R543: 0x0000 or 0x5405. -/
def BR_RST_STAT_RESULT : Fld := ⟨0x20, 0x8f0, 16, .ro, .lit 0⟩
/-- BRINGUP page, R543: cores in service, 0 to 2,592. -/
def BR_INSERVICE_CORES : Fld := ⟨0x20, 0x900, 12, .ro, .lit 0⟩
/-- BRINGUP page, R543: plots in service per R563, 0 to 72. -/
def BR_INSERVICE_PLOTS : Fld := ⟨0x20, 0x910, 7, .ro, .lit 0⟩
/-- BRINGUP page, R543: stacks in service, 0 to 72. -/
def BR_INSERVICE_STACKS : Fld := ⟨0x20, 0x918, 7, .ro, .lit 0⟩
/-- BRINGUP page, R543: step read by BR_TMS, 1 to 10. -/
def BR_TSEL_STEP : Fld := ⟨0x20, 0x920, 4, .rw, .lit 0⟩
/-- BRINGUP page, R543: duration of the selected step at its last run, in ms; 0 if not run. -/
def BR_TMS_MS : Fld := ⟨0x20, 0x940, 32, .ro, .lit 0⟩
/-- BRINGUP page, R543: drains that abandoned requests; saturating. -/
def BR_LATE_COUNT : Fld := ⟨0x20, 0x960, 32, .ro, .lit 0⟩
/-- ORCHARD page, R545: the map was verified at step 4. -/
def OR_STAT_VALID : Fld := ⟨0x21, 0x800, 1, .ro, .lit 0⟩
/-- ORCHARD page, R545: a commit or image switch is in progress. -/
def OR_STAT_COMMITTING : Fld := ⟨0x21, 0x801, 1, .ro, .lit 0⟩
/-- ORCHARD page, R545: current image slot. -/
def OR_STAT_SLOT : Fld := ⟨0x21, 0x802, 1, .ro, .lit 0⟩
/-- ORCHARD page, R545: records await commit. -/
def OR_STAT_PENDING : Fld := ⟨0x21, 0x803, 1, .ro, .lit 0⟩
/-- ORCHARD page, R545: commits since assembly. -/
def OR_GEN_GEN : Fld := ⟨0x21, 0x820, 32, .ro, .lit 0⟩
/-- ORCHARD page, R545: journal bytes in use. -/
def OR_JUSED_BYTES : Fld := ⟨0x21, 0x840, 23, .ro, .lit 0⟩
/-- ORCHARD page, R545: a GRAFT_BEGIN has no GRAFT_END. -/
def OR_GRAFT_OPEN : Fld := ⟨0x21, 0x860, 1, .ro, .lit 0⟩
/-- ORCHARD page, R545: p. -/
def OR_GRAFT_SRC : Fld := ⟨0x21, 0x861, 7, .ro, .lit 0⟩
/-- ORCHARD page, R545: q. -/
def OR_GRAFT_DEST : Fld := ⟨0x21, 0x868, 7, .ro, .lit 0⟩
/-- ORCHARD page, R545: 0 plot, 1 stack. -/
def OR_GRAFT_KIND : Fld := ⟨0x21, 0x86f, 1, .ro, .lit 0⟩
/-- ORCHARD page, R545: site read by OR_HIST. -/
def OR_SEL_SITE : Fld := ⟨0x21, 0x880, 9, .rw, .lit 0⟩
/-- ORCHARD page, R545: per R527. -/
def OR_HIST_STARTS : Fld := ⟨0x21, 0x8a0, 16, .ro, .lit 0⟩
/-- ORCHARD page, R545: per R527. -/
def OR_HIST_LASTTEST : Fld := ⟨0x21, 0x8b0, 16, .ro, .lit 0⟩
/-- ORCHARD page, R545: word offset into the repair store. -/
def OR_RADDR_ADDR : Fld := ⟨0x21, 0x8c2, 21, .rw, .lit 0⟩
/-- ORCHARD page, R545: 1 adds 4 to ADDR after each read of OR_RDATA. -/
def OR_RADDR_INC : Fld := ⟨0x21, 0x8df, 1, .rw, .lit 0⟩
/-- ORCHARD page, R545: the repair-store word at ADDR. -/
def OR_RDATA_DATA : Fld := ⟨0x21, 0x8e0, 32, .ro, .lit 0⟩
/-- ORCHARD page, R545: commits pending records now. -/
def OR_CMD_COMMIT : Fld := ⟨0x21, 0x900, 1, .sc, .lit 0⟩
/-- ORCHARD page, R545: writes a new image per R531 now. -/
def OR_CMD_COMPACT : Fld := ⟨0x21, 0x901, 1, .sc, .lit 0⟩
/-- ORCHARD page, R545: ERRREC records dropped; saturating. -/
def OR_DROPPED_COUNT : Fld := ⟨0x21, 0x920, 32, .ro, .lit 0⟩
/-- SEC page, R561: 0 ROM, 1 IDENTITY, 2 VERIFYING, 3 RUN, 4 FAILED, 5–7 reserved. -/
def SEC_STAT_STATE : Fld := ⟨0x20, 0x800, 3, .ro, .lit 0⟩
/-- SEC page, R561: key regenerated and matched, per R553. -/
def SEC_STAT_IDENT_OK : Fld := ⟨0x20, 0x803, 1, .ro, .lit 0⟩
/-- SEC page, R561: certificate verified. -/
def SEC_STAT_CERT_OK : Fld := ⟨0x20, 0x804, 1, .ro, .lit 0⟩
/-- SEC page, R561: debug open. -/
def SEC_STAT_DEBUG : Fld := ⟨0x20, 0x805, 1, .ro, .lit 0⟩
/-- SEC page, R561: a command is in progress. -/
def SEC_STAT_BUSY : Fld := ⟨0x20, 0x806, 1, .ro, .lit 0⟩
/-- SEC page, R561: counter, per R550. -/
def SEC_FW_SVN_COUNT : Fld := ⟨0x20, 0x820, 16, .ro, .fwSvn⟩
/-- SEC page, R561: counter. -/
def SEC_KEY_SVN_COUNT : Fld := ⟨0x20, 0x840, 16, .ro, .keySvn⟩
/-- SEC page, R561: running image. -/
def SEC_RUN_FW_SVN : Fld := ⟨0x20, 0x860, 16, .ro, .lit 0⟩
/-- SEC page, R561: running image. -/
def SEC_RUN_KEY_SVN : Fld := ⟨0x20, 0x870, 16, .ro, .lit 0⟩
/-- SEC page, R561: running image VERSION. -/
def SEC_VER : Fld := ⟨0x20, 0x880, 64, .ro, .lit 0⟩
/-- SEC page, R561: 0 none, 1 COMMIT_SVN, 2 EXTEND, 3 CLOSE_DEBUG. -/
def SEC_CMD_OP : Fld := ⟨0x20, 0x8c0, 2, .wo, .lit 0⟩
/-- SEC page, R561: EXTEND slot, 4 to 7; others refused with 0x5405. -/
def SEC_CMD_SLOT : Fld := ⟨0x20, 0x8c2, 3, .wo, .lit 0⟩
/-- SEC page, R561: result of the last command. -/
def SEC_RESULT_CODE : Fld := ⟨0x20, 0x8e0, 16, .ro, .lit 0⟩
/-- SEC page, R561: word n holds bytes 4n to 4n + 3 of d. -/
def SEC_EXT0_DIGEST : Fld := ⟨0x20, 0x900, 32, .wo, .lit 0⟩
/-- SEC page, R561: word n holds bytes 4n to 4n + 3 of d. -/
def SEC_EXT1_DIGEST : Fld := ⟨0x20, 0x920, 32, .wo, .lit 0⟩
/-- SEC page, R561: word n holds bytes 4n to 4n + 3 of d. -/
def SEC_EXT2_DIGEST : Fld := ⟨0x20, 0x940, 32, .wo, .lit 0⟩
/-- SEC page, R561: word n holds bytes 4n to 4n + 3 of d. -/
def SEC_EXT3_DIGEST : Fld := ⟨0x20, 0x960, 32, .wo, .lit 0⟩
/-- SEC page, R561: word n holds bytes 4n to 4n + 3 of d. -/
def SEC_EXT4_DIGEST : Fld := ⟨0x20, 0x980, 32, .wo, .lit 0⟩
/-- SEC page, R561: word n holds bytes 4n to 4n + 3 of d. -/
def SEC_EXT5_DIGEST : Fld := ⟨0x20, 0x9a0, 32, .wo, .lit 0⟩
/-- SEC page, R561: word n holds bytes 4n to 4n + 3 of d. -/
def SEC_EXT6_DIGEST : Fld := ⟨0x20, 0x9c0, 32, .wo, .lit 0⟩
/-- SEC page, R561: word n holds bytes 4n to 4n + 3 of d. -/
def SEC_EXT7_DIGEST : Fld := ⟨0x20, 0x9e0, 32, .wo, .lit 0⟩
/-- SEC page, R561: word n holds bytes 4n to 4n + 3 of d. -/
def SEC_EXT8_DIGEST : Fld := ⟨0x20, 0xa00, 32, .wo, .lit 0⟩
/-- SEC page, R561: word n holds bytes 4n to 4n + 3 of d. -/
def SEC_EXT9_DIGEST : Fld := ⟨0x20, 0xa20, 32, .wo, .lit 0⟩
/-- SEC page, R561: word n holds bytes 4n to 4n + 3 of d. -/
def SEC_EXT10_DIGEST : Fld := ⟨0x20, 0xa40, 32, .wo, .lit 0⟩
/-- SEC page, R561: word n holds bytes 4n to 4n + 3 of d. -/
def SEC_EXT11_DIGEST : Fld := ⟨0x20, 0xa60, 32, .wo, .lit 0⟩
/-- SEC page, R561: word n holds bytes 4n to 4n + 3 of d. -/
def SEC_EXT12_DIGEST : Fld := ⟨0x20, 0xa80, 32, .wo, .lit 0⟩
/-- SEC page, R561: word n holds bytes 4n to 4n + 3 of d. -/
def SEC_EXT13_DIGEST : Fld := ⟨0x20, 0xaa0, 32, .wo, .lit 0⟩
/-- SEC page, R561: word n holds bytes 4n to 4n + 3 of d. -/
def SEC_EXT14_DIGEST : Fld := ⟨0x20, 0xac0, 32, .wo, .lit 0⟩
/-- SEC page, R561: word n holds bytes 4n to 4n + 3 of d. -/
def SEC_EXT15_DIGEST : Fld := ⟨0x20, 0xae0, 32, .wo, .lit 0⟩
/-- SEC page, R561: slot read by SEC_MDATA. -/
def SEC_MSEL_SLOT : Fld := ⟨0x20, 0xb00, 3, .rw, .lit 0⟩
/-- SEC page, R561: word of that slot. -/
def SEC_MSEL_WORD : Fld := ⟨0x20, 0xb03, 4, .rw, .lit 0⟩
/-- SEC page, R561: the selected word. -/
def SEC_MDATA_DATA : Fld := ⟨0x20, 0xb20, 32, .ro, .lit 0⟩
/-- SEC page, R561: open debug scope. -/
def SEC_DBG_SCOPE : Fld := ⟨0x20, 0xb40, 8, .ro, .lit 0⟩
/-- SEC page, R561: reports signed; saturating. -/
def SEC_ATTESTS_COUNT : Fld := ⟨0x20, 0xb60, 32, .ro, .lit 0⟩

end Sys2Proof.Machine.F

namespace Sys2Proof.Machine

/-- The fields of the SITE registers. -/
def flds_site : List Fld :=
  [F.SITE_ID_SITE, F.SITE_ID_TYPE, F.SITE_POS_PLOT, F.SITE_POS_MESH, F.SITE_POS_GRID_X, F.SITE_POS_GRID_Y, F.SITE_POS_RIND, F.SITE_POS_EDGE, F.SITE_STATE_STATE, F.SITE_STATE_GEN, F.SITE_CORES_SERVICE, F.SITE_HUSKCORES_HUSK]
/-- The fields of the HDR registers. -/
def flds_hdr : List Fld :=
  [F.PG_ID_TYPE, F.PG_ID_INSTANCE, F.PG_ID_LAYOUT, F.PG_CAP_ERR, F.PG_CAP_EVT, F.PG_CAP_QUIESCE, F.PG_CAP_RESET, F.PG_CAP_HEALTH, F.PG_CTL_ENABLE, F.PG_CTL_QUIESCE, F.PG_CTL_RESET, F.PG_STAT_READY, F.PG_STAT_QUIESCED, F.PG_STAT_BUSY, F.PG_STAT_FENCED, F.PG_ERR_ERR, F.PG_ERR_MASK_MASK, F.PG_ERR_FIRST_CODE, F.PG_ERR_CNT_COUNT, F.PG_ERR_INFO0_INFO] ++
  [F.PG_ERR_INFO1_INFO, F.PG_ERR_INFO2_INFO, F.PG_ERR_INFO3_INFO, F.PG_EVT_EVT, F.PG_EVT_EN_EN, F.PG_HEALTH_SCORE, F.PG_HEALTH_STATE]
/-- The fields of the ADDRMAP registers. -/
def flds_addrmap : List Fld :=
  [F.AM_SEL_SET, F.AM_SEL_ENTRY, F.AM_SEL_VIEW, F.AM_SET_VALID, F.AM_SET_N, F.AM_BASE_BASE, F.AM_SIZE_SIZE, F.AM_START_START, F.AM_LIST_P]
/-- The fields of the CORE_CTL registers. -/
def flds_coreCtl : List Fld :=
  [F.MX_CFG_TOL_EXP, F.MX_CFG_CHECK_EN, F.MX_STAT_TILE_VALID, F.MX_STAT_ACTIVE, F.MX_STAT_RERUN, F.MX_RECOMP_COUNT, F.MX_EXEMPT_COUNT, F.MX_FROZEN, F.MX_BUSY, F.CORE_STATE_STATE, F.CORE_CTL_HALT, F.CORE_CTL_STEP, F.CORE_CTL_BKPT_EN, F.CORE_BIND_CTX, F.CORE_BIND_VCORE, F.CORE_BIND_BOUND, F.CORE_STOP_CODE, F.CORE_BKPT, F.CORE_DONE]
/-- The fields of the CORE_SEQ registers. -/
def flds_coreSeq : List Fld :=
  [F.SQ_PC, F.SQ_TREF, F.SQ_TREF_LIM_LIMIT, F.SQ_CREC, F.SQ_CREC_LIM_LIMIT, F.SQ_HDR_TMO_TMO, F.SQ_STAT_INFLIGHT, F.SQ_STAT_LOOPD, F.SQ_STAT_CALLD, F.SQ_STAT_ISSUE_WAIT, F.SQ_STAT_STEP_WAIT, F.SQ_IX1_IX, F.SQ_IX2_IX, F.SQ_IX3_IX, F.SQ_IX4_IX, F.SQ_IX5_IX, F.SQ_IX6_IX, F.SQ_IX7_IX, F.SQ_STEP_NUM_STEP, F.SQ_STEP_PC] ++
  [F.SQ_SEED]
/-- The fields of the CORE_VEC registers. -/
def flds_coreVec : List Fld :=
  [F.VX_CFG_SHADOW_EN, F.VX_STAT_ACTIVE, F.VX_STAT_RERUN, F.VX_STAT_SECTION, F.VX_STAT_PASS, F.VX_STAT_REDUCE, F.VX_STAT_PC, F.VX_POS_BAND, F.VX_POS_COL, F.VX_SLOTLEN01_LEN0, F.VX_SLOTLEN01_LEN1, F.VX_SLOTLEN23_LEN2, F.VX_SLOTLEN23_LEN3, F.VX_RERUN_COUNT, F.VX_BUSY, F.VX_WAIT]
/-- The fields of the CORE_BUF registers. -/
def flds_coreBuf : List Fld :=
  [F.CB_RES_RES, F.CB_STAT_ZEROING, F.CB_STAT_FILLING, F.CB_STAT_RES_LOST, F.CB_STAT_HWM, F.CB_DBG_ADDR_ADDR, F.CB_DBG_ADDR_INC, F.CB_DBG_DATA_DATA, F.CB_DBG_STAT_PAR, F.CB_DBG_STAT_DENIED, F.CB_RECOV_COUNT, F.CB_LOST_COUNT]
/-- The fields of the DIEMEM registers. -/
def flds_diemem : List Fld :=
  [F.DIEMEM_SEL_REGION, F.DIEMEM_REGION_OWNER, F.DIEMEM_REGION_VALID, F.DIEMEM_REGION_RESIDENT, F.DIEMEM_REGION_SCRUB, F.DIEMEM_REGION_RES_LOST, F.DIEMEM_STAT_SCRUBBING, F.DIEMEM_RECOV_COUNT, F.DIEMEM_LOST_COUNT]
/-- The fields of the STK_CACHE registers. -/
def flds_stkCache : List Fld :=
  [F.SC_CTL_PF_EN, F.SC_CTL_FLUSH, F.SC_CTL_INVAL, F.SC_CTL_SLEEP, F.SC_STAT_PSTATE, F.SC_STAT_HOT, F.SC_STAT_FLUSHING, F.SC_DIRTY_LINES, F.SC_HIT, F.SC_MISS, F.SC_WAKES_COUNT]
/-- The fields of the STK_PREF registers. -/
def flds_stkPref : List Fld :=
  [F.PF_CFG_AHEAD, F.PF_CFG_IDLE, F.PF_ACTIVE, F.PF_ISSUED_COUNT, F.PF_USED_COUNT, F.PF_UNUSED_COUNT, F.PF_REPLACED_COUNT]
/-- The fields of the STK_NME registers. -/
def flds_stkNme : List Fld :=
  [F.NM_STAT_DG_BUSY, F.NM_STAT_MG_ACTIVE, F.NM_STAT_MG_DONE, F.NM_SEED, F.DG_BASE, F.DG_LEN, F.DG_CTL_FMT, F.DG_CTL_GO, F.DG_SUM_VALUE, F.DG_SUMSQ_VALUE, F.DG_MAXABS_VALUE, F.DG_COUNT, F.DG_NONFIN_COUNT, F.DG_RESULT_CODE, F.DG_RESULT_VALID, F.MG_CTL_DEST, F.MG_CTL_START, F.MG_CTL_ABORT, F.MG_CTL_RELEASE, F.MG_PTR] ++
  [F.MG_LOST_COUNT, F.NM_ACCUM]
/-- The fields of the STK_CHAN registers. -/
def flds_stkChan : List Fld :=
  [F.CH_STATE_STATE, F.CH_STATE_HOT, F.CH_SPARE_USED, F.CH_CRC_FIX_COUNT, F.CH_CRC_LOST_COUNT, F.CH_LAST_LOST_SECTOR]
/-- The fields of the BULK registers. -/
def flds_bulk : List Fld :=
  [F.BK_CFG_RSP_TMO, F.BK_CFG_READ_RETRIES, F.BK_PORT_SEL_PORT, F.BK_PORT_STAT_WIDTH, F.BK_PORT_STAT_UP, F.BK_PORT_STAT_PEER, F.BK_POOL_FREE, F.BK_TX, F.BK_RT_SEL_SITE, F.BK_RT_SEL_VIEW, F.BK_RT_ENTRY_PORT, F.BK_RT_ENTRY_DETOUR, F.BK_RT_ENTRY_VALID, F.BK_MC_SEL_GROUP, F.BK_MC_SEL_VIEW, F.BK_MC_ENTRY_PORTS, F.BK_MC_ENTRY_ROOT, F.BK_MC_ENTRY_ROOTSITE, F.BK_MC_ENTRY_OWNER, F.BK_MC_ENTRY_VALID] ++
  [F.BK_MC_CORES_CORES, F.BK_MC_TMO_TMO, F.BK_EA_CFG_RATE, F.BK_EA_CFG_BURST, F.BK_EA_CFG_EN, F.BK_EA_HELD_COUNT, F.BK_HOLD_USED, F.BK_CRC_DROP_COUNT, F.BK_TIMEOUTS_COUNT, F.BK_MC_DROPS_COUNT, F.BK_MC_NDIES_NDIES]
/-- The fields of the CTRLNET registers. -/
def flds_ctrlnet : List Fld :=
  [F.CN_TREE_PARENT, F.CN_TREE_DEPTH, F.CN_STAT_UPQ, F.CN_MSG, F.CN_WAIT_MAX_NS, F.CN_LINKFIX_COUNT]
/-- The fields of the SYNCNET registers. -/
def flds_syncnet : List Fld :=
  [F.SN_RT_SEL_SITE, F.SN_RT_SEL_VIEW, F.SN_RT_ENTRY_PORT, F.SN_RT_ENTRY_DETOUR, F.SN_RT_ENTRY_VALID, F.SN_MSG, F.SN_LINKFIX_COUNT, F.SN_QMAX_DEPTH]
/-- The fields of the SYNC registers. -/
def flds_sync : List Fld :=
  [F.SY_SEL_CELL, F.SY_VALUE_VALUE, F.SY_OWNER_OWNER, F.SY_OWNER_VALID, F.SY_OWNER_SHARED, F.SY_WCOUNT_COUNT, F.SY_LAST_SITE, F.SY_LAST_SLOT, F.SY_LAST_TIME, F.SY_STEPVAL_VALUE, F.SY_BARN_N, F.SY_WSEL_INDEX, F.SY_WAITER_SITE, F.SY_WAITER_SLOT, F.SY_WAITER_KIND, F.SY_WAITER_CONS, F.SY_WAITER_POOL, F.SY_WTHRESH_VALUE, F.SY_CMD_OP, F.SY_CMD_ARG_ARG] ++
  [F.SY_STAT_CMD_BUSY, F.SY_STAT_POOL_FREE, F.SY_XLT_INV, F.SY_NOROOM_COUNT, F.SY_SATCNT_COUNT]
/-- The fields of the CTX registers. -/
def flds_ctx : List Fld :=
  [F.CX_SEL_CTX, F.CX_CFG_PART, F.CX_CFG_PRIO, F.CX_CFG_PRE_AT, F.CX_CFG_NCORES, F.CX_CFG_RES, F.CX_STATE_STATE, F.CX_STATE_PRE_PEND, F.CX_MAP, F.CX_SAVE, F.CX_SXLT, F.CX_TREF, F.CX_LIMS_TREF_LIM, F.CX_LIMS_CREC_LIM, F.CX_CREC, F.CX_TMO_HDR_TMO, F.CX_PRE_TMO_PRE_TMO, F.CX_SEED, F.CX_CMD_OP, F.CX_CMD_STAT_BUSY] ++
  [F.CX_CMD_STAT_RESULT, F.PT_SEL_PART, F.PT_CFG_VALID, F.PT_CFG_PRODUCTION, F.PT_CFG_ARMED, F.PT_PLOTS0_PLOTS, F.PT_PLOTS1_PLOTS, F.PT_PLOTS2_PLOTS, F.PT_FLIST, F.PT_FCOUNT_COUNT, F.PT_STEP_STEP, F.AP_TGT_SITE, F.AP_TGT_TABLE, F.AP_TGT_WINDOW, F.AP_MASTER_MASTER, F.AP_RD, F.AP_WR, F.AP_WBASE_MIB, F.AP_WLIMIT_MIB]
/-- The fields of the QUEUE registers. -/
def flds_queue : List Fld :=
  [F.QU_SEL_QUEUE, F.QU_CFG_ENABLE, F.QU_CFG_PRODUCER, F.QU_CFG_LOC, F.QU_CFG_CLASS, F.QU_CFG_WEIGHT, F.QU_CFG_SERIAL, F.QU_CFG_LOG2SIZE, F.QU_CFG_CTX, F.QU_RING, F.QU_TARGET_VFIRST, F.QU_TARGET_VCOUNT, F.QU_EVQ_EVQ, F.QU_HEAD_HEAD, F.QU_TAIL_TAIL, F.QU_STAT_STOPPED, F.QU_STAT_FULL, F.QU_STAT_CODE, F.QU_CMD_OP, F.QU_STARTS_COUNT]
/-- The fields of the ACL registers. -/
def flds_acl : List Fld :=
  [F.AC_SEL_MASTER, F.AC_SEL_TABLE, F.AC_RD, F.AC_WR, F.AC_FENCE, F.AC_WSEL_WINDOW, F.AC_WBASE_MIB, F.AC_WLIMIT_MIB, F.AC_DENY_COUNT, F.AC_LAST_MASTER, F.AC_LAST_WINDOW, F.AC_LAST_TABLE, F.AC_LAST_WRITE, F.AC_LAST_FENCED]
/-- The fields of the CXLP registers. -/
def flds_cxlp : List Fld :=
  [F.CP_LINK_SPEED, F.CP_LINK_WIDTH, F.CP_LINK_UP, F.CP_LINK_CXL, F.CP_LINK_LOPT, F.CP_LINK_CACHE, F.CP_LINK_MEM, F.CP_CFG_SPEED_CAP, F.CP_CFG_LOPT_EN, F.CP_CFG_INT_TMO, F.CP_AP, F.CP_CACHE_OUT, F.CP_CACHE_MAX, F.CP_UNALIGNED_COUNT, F.CP_REFUSED_COUNT, F.CP_POISON_COUNT, F.CP_TIMEOUT_COUNT]
/-- The fields of the PASID registers. -/
def flds_pasid : List Fld :=
  [F.PS_SEL_ENTRY, F.PS_ENTRY_PASID, F.PS_ENTRY_MOFF, F.PS_ENTRY_VALID, F.PS_DEFAULT_MOFF, F.PS_UNMAPPED_COUNT]
/-- The fields of the MSIX registers. -/
def flds_msix : List Fld :=
  [F.EQ_SEL_EQ, F.EQ_CFG_ENABLE, F.EQ_CFG_LOG2SIZE, F.EQ_CFG_VECTOR, F.EQ_CFG_IMOD, F.EQ_CFG_OVF, F.EQ_CLASS_MASK, F.EQ_BASE, F.EQ_HEAD_HEAD, F.EQ_TAIL_TAIL, F.EQ_DROP_COUNT]
/-- The fields of the MESOAX registers. -/
def flds_mesoax : List Fld :=
  [F.ML_INFO_PRESENT, F.ML_INFO_CLASS, F.ML_INFO_BUNDLES, F.ML_INFO_PEER, F.ML_CTL_RETRAIN, F.ML_CTL_MIN_WIDTH, F.ML_STAT_STATE, F.ML_STAT_ACTIVE, F.ML_STAT_FULL, F.ML_RTT_CYCLES, F.ML_SEL_BUNDLE, F.ML_SEL_SUB, F.ML_BSTAT_STATE, F.ML_BSTAT_TSTEP, F.ML_BSTAT_LIVE, F.ML_BSTAT_SCORE, F.ML_PIP_PIP0, F.ML_PIP_PIP1, F.ML_FAILW_DATA, F.ML_FAILX_FRAME] ++
  [F.ML_FAILX_CLOCK, F.ML_FAILX_PIPS, F.ML_NAK_COUNT, F.ML_REPLAY_COUNT, F.ML_RETRAINS_COUNT]
/-- The fields of the GUEST registers. -/
def flds_guest : List Fld :=
  [F.GU_CTL_ENABLE, F.GU_CTL_SPEED_CAP, F.GU_CTL_RETRAIN, F.GU_STAT_STATE, F.GU_STAT_SPEED, F.GU_STAT_REPAIRED, F.GU_ID_ID, F.GU_CAP_RXBUF, F.GU_CAP_VERSION, F.GU_ADAPT_RETRY_COUNT, F.GU_DISCARD_COUNT, F.GU_RETRAINS_COUNT]
/-- The fields of the ETHPORT registers. -/
def flds_ethport : List Fld :=
  [F.ET_INFO_PRESENT, F.ET_INFO_FIRST, F.ET_INFO_WIDTH, F.ET_CTL_ENABLE, F.ET_CTL_MEDIA, F.ET_CTL_PTP, F.ET_CTL_TAGGED, F.ET_CTL_VID, F.ET_CTL_PCP, F.ET_STAT_STATE, F.ET_STAT_FEC_LOCK, F.ET_STAT_RFAULT, F.ET_MAC, F.ET_NH, F.ET_FEC_CORR_COUNT, F.ET_FEC_UNCORR_COUNT, F.ET_RX_DROP_COUNT, F.ET_CE_COUNT]
/-- The fields of the GROVE registers. -/
def flds_grove : List Fld :=
  [F.GR_CFG_PMODE, F.GR_CFG_SPRAY, F.GR_CFG_UDP_PORT, F.GR_IP0_IP, F.GR_IP1_IP, F.GR_IP2_IP, F.GR_IP3_IP, F.GR_TC_DSCP, F.GR_TC_HOPLIM, F.GR_CTAB, F.GR_MTAB, F.GR_CC0_RAI, F.GR_CC0_TINC, F.GR_CC1_G, F.GR_CC1_RTO, F.GR_CC1_RETRIES, F.GR_CC1_RMIN, F.GR_ROLE_ROLE, F.GR_ROLE_MEMBER, F.GR_ROLE_MGR] ++
  [F.GR_GROVE_ID, F.GR_GROVE_PART, F.GR_GROVE_BOUND, F.GR_LIVE_HB_US, F.GR_LIVE_MISS, F.GR_STATE_STATE, F.GR_STATE_HELD, F.GR_EPOCH_EPOCH, F.GR_CONNS_USED, F.GR_EVICT_COUNT, F.GR_MISSDROP_COUNT, F.GR_RETX_COUNT, F.GR_SHDROP_COUNT, F.XC_SEL_CHAN, F.XC_CFG_ENABLE, F.XC_CFG_CTX, F.XC_CFG_LOG2SIZE, F.XC_RING, F.XC_DB_SITE, F.XC_DB_CELL] ++
  [F.XC_CP_SITE, F.XC_CP_CELL, F.XC_AR_SITE, F.XC_AR_CELL, F.XC_HEAD_HEAD, F.XC_STAT_STOPPED, F.XC_STAT_CODE, F.SH_CFG_TOL, F.SH_CFG_STEPS, F.SH_STAT_PASSED, F.SH_LIST, F.SH_COUNT_COUNT]
/-- The fields of the ERASURE registers. -/
def flds_erasure : List Fld :=
  [F.EC_SEL_GROUP, F.EC_CFG_VALID, F.EC_CFG_K, F.EC_CFG_POS, F.EC_BASE, F.EC_SIZE, F.EC_UPDATES_COUNT]
/-- The fields of the CLK registers. -/
def flds_clk : List Fld :=
  [F.CK_STAT_STEP, F.CK_STAT_CHANGING, F.CK_STAT_LOCK, F.CK_STAT_TVALID, F.CK_CFG_MAXSTEP, F.CK_CFG_MINSTEP, F.CK_CFG_DWELL, F.CK_CEIL_POWER, F.CK_CEIL_THERM, F.CK_CEIL_MON, F.CK_TIME, F.CK_TDLY_PS, F.CK_REFPARENT_SITE, F.CK_STEPS_COUNT, F.CK_DROOP_STRETCH, F.CK_DROOP_GATE, F.CK_DROOP_SLOT, F.CK_STRETCH_COUNT, F.CK_GATE_COUNT, F.CK_EP_T] ++
  [F.CK_EP_CTL_MASK, F.CK_EP_CTL_ARM, F.CK_EP_CTL_CANCEL, F.CK_EP_CTL_CATCHUP, F.CK_EP_CTL_ROLLBACK, F.CK_EP_STAT_STATE]
/-- The fields of the REFCLK registers. -/
def flds_refclk : List Fld :=
  [F.RC_CTL_SEL, F.RC_CTL_AUTO, F.RC_CTL_SRC, F.RC_STAT_ACTIVE, F.RC_STAT_A_OK, F.RC_STAT_B_OK, F.RC_STAT_PPS_OK, F.RC_ADJ_INTERVAL, F.RC_ADJ_SIGN, F.RC_STEP, F.RC_CMD_STEP, F.RC_PPS, F.RC_SWITCHES_COUNT]
/-- The fields of the EPOCH registers. -/
def flds_epoch : List Fld :=
  [F.EP_MASK_MASK, F.EP_LEAD_US, F.EP_TMO_US, F.EP_CMD_OP, F.EP_STAT_STATE, F.EP_STAT_RESULT, F.EP_NUM_EPOCH, F.EP_T, F.EP_PEND_COUNT, F.EP_FIRST_SITE]
/-- The fields of the PWR registers. -/
def flds_pwr : List Fld :=
  [F.PW_STAT_PHASES, F.PW_STAT_DEGRADED, F.PW_STAT_TOKENS, F.PW_STAT_QUEUED, F.PW_STAT_THROT, F.PW_CAP_WATTS, F.PW_CAP_WIN, F.PW_ADM_LIMIT, F.PW_ADM_CORE_A, F.PW_ADM_WAIT, F.PW_CFG_OFF_DLY, F.PW_CFG_HINT_EN, F.PW_CFG_AUTO_NOTICE, F.PW_CAPHIT_COUNT, F.PW_ADMWAIT_COUNT, F.PW_PHFAIL_MASK]
/-- The fields of the PWRRG registers. -/
def flds_pwrRg : List Fld :=
  [F.RG_SEL_GROUP, F.RG_STAT_LIVE, F.RG_STAT_PLACED, F.RG_STAT_STATE, F.RG_FAILED_MASK, F.RG_TRIPS_COUNT, F.RG_CRACK_PAIRS]
/-- The fields of the PWRPP registers. -/
def flds_pwrPp : List Fld :=
  [F.PP_CEIL_WATTS, F.PP_EFF_WATTS, F.PP_IN_WATTS, F.PP_IN_MAX_WATTS, F.PP_ENERGY, F.PP_FIXED_WATTS, F.PP_OVER_COUNT, F.PP_SEL_PART, F.PP_PART_DIE_W, F.PP_PART_STK_W, F.PP_PART_MAXSTEP, F.PP_CMD_APPLY, F.PP_STAT_RESULT]
/-- The fields of the THERM registers. -/
def flds_therm : List Fld :=
  [F.TH_SEL_SENSOR, F.TH_TEMP_TEMP, F.TH_MAX_TEMP, F.TH_MAX_SENSOR, F.TH_LIM_WARN, F.TH_LIM_THROT, F.TH_LIM_CRIT, F.TH_STAT_STATE, F.TH_STAT_SHED, F.TH_STAT_RAMPHOLD, F.TH_CTL_SHED, F.TH_RAMP_WATTS, F.TH_RAMP_KPS, F.TH_THROTTLES_COUNT, F.TH_GATES_COUNT]
/-- The fields of the THERMTP registers. -/
def flds_thermTp : List Fld :=
  [F.TP_CFG_SRC, F.TP_CFG_ROT_EN, F.TP_CFG_ROT_STEPS, F.TP_FLOW_FLOW, F.TP_INLET_TEMP, F.TP_OUTLET_TEMP, F.TP_STAT_FLOW, F.TP_STAT_TRAY_OK, F.TP_STAT_INLET_OK, F.TP_FLOWCAP_WATTS, F.TP_I3C_FLOW_ADDR, F.TP_I3C_IN_ADDR, F.TP_I3C_OUT_ADDR, F.TP_I3C_FLOW_REG, F.TP_I3C_IN_REG, F.TP_I3C_OUT_REG, F.TP_LOSSES_COUNT]
/-- The fields of the ERRLOG registers. -/
def flds_errlog : List Fld :=
  [F.EL_STAT_COUNT, F.EL_NEXT_SEQ, F.EL_OLDEST_SEQ, F.EL_RSEL_SEQ, F.EL_REC0_DATA, F.EL_REC1_DATA, F.EL_REC2_DATA, F.EL_REC3_DATA, F.EL_REC4_DATA, F.EL_REC5_DATA, F.EL_REC6_DATA, F.EL_REC7_DATA, F.EL_DROPPED_COUNT, F.EL_OVERWRITTEN_COUNT, F.RP_CFG_LIMIT, F.RP_SEL_PART, F.RP_STAT_STATE, F.RP_STAT_HOLD_RES, F.RP_STAT_HOLD_INPUT, F.RP_STAT_HOLD_GRAFT] ++
  [F.RP_STAT_HOLD_GROVE, F.RP_STAT_COUNT, F.RP_STEP_STEP, F.RP_TOTAL_COUNT, F.RP_LOST_COUNT, F.RP_CMD_OP, F.RP_CMD_RESULT, F.RA_SEL_CTX, F.RA_BASE, F.LR_SRC, F.LR_DST_SITE, F.LR_DST_SLOT, F.LR_DST_SPACE, F.LR_OFF_OFF, F.LR_LEN_LEN, F.LR_CMD_GO, F.LR_CMD_RESULT, F.HL_CFG_WATCH, F.HL_CFG_RETIRE, F.HL_OK_OK] ++
  [F.GF_CFG_AUTO, F.GF_CFG_SOAK, F.GF_CMD_OP, F.GF_CMD_SRC, F.GF_CMD_DEST, F.GF_STAT_STATE, F.GF_STAT_KIND, F.GF_STAT_SRC, F.GF_STAT_DEST, F.GF_RESULT_CODE]
/-- The fields of the BRINGUP registers. -/
def flds_bringup : List Fld :=
  [F.BR_STAT_STEP, F.BR_STAT_BUSY, F.BR_STAT_FAILED, F.BR_STAT_ACTIVE, F.BR_STAT_ROM, F.BR_STAT_RESULT, F.BR_CMD_OP, F.BR_CMD_STEP, F.BR_CFG_MEMTEST, F.BR_CFG_DIETEST, F.BR_CFG_COLDGRAFT, F.BR_CFG_PREFER_B, F.BR_CFG_DRAIN, F.BR_CFG_WDRAIN, F.BR_FW_ADDR_ADDR, F.BR_FW_DATA_DATA, F.BR_FW_LEN_LEN, F.BR_RST_SCOPE, F.BR_RST_SITE, F.BR_RST_SLOT] ++
  [F.BR_RST_PART, F.BR_RST_FORCE, F.BR_RST_GO, F.BR_RST_STAT_BUSY, F.BR_RST_STAT_RESULT, F.BR_INSERVICE_CORES, F.BR_INSERVICE_PLOTS, F.BR_INSERVICE_STACKS, F.BR_TSEL_STEP, F.BR_TMS_MS, F.BR_LATE_COUNT]
/-- The fields of the ORCHARD registers. -/
def flds_orchard : List Fld :=
  [F.OR_STAT_VALID, F.OR_STAT_COMMITTING, F.OR_STAT_SLOT, F.OR_STAT_PENDING, F.OR_GEN_GEN, F.OR_JUSED_BYTES, F.OR_GRAFT_OPEN, F.OR_GRAFT_SRC, F.OR_GRAFT_DEST, F.OR_GRAFT_KIND, F.OR_SEL_SITE, F.OR_HIST_STARTS, F.OR_HIST_LASTTEST, F.OR_RADDR_ADDR, F.OR_RADDR_INC, F.OR_RDATA_DATA, F.OR_CMD_COMMIT, F.OR_CMD_COMPACT, F.OR_DROPPED_COUNT]
/-- The fields of the SEC registers. -/
def flds_sec : List Fld :=
  [F.SEC_STAT_STATE, F.SEC_STAT_IDENT_OK, F.SEC_STAT_CERT_OK, F.SEC_STAT_DEBUG, F.SEC_STAT_BUSY, F.SEC_FW_SVN_COUNT, F.SEC_KEY_SVN_COUNT, F.SEC_RUN_FW_SVN, F.SEC_RUN_KEY_SVN, F.SEC_VER, F.SEC_CMD_OP, F.SEC_CMD_SLOT, F.SEC_RESULT_CODE, F.SEC_EXT0_DIGEST, F.SEC_EXT1_DIGEST, F.SEC_EXT2_DIGEST, F.SEC_EXT3_DIGEST, F.SEC_EXT4_DIGEST, F.SEC_EXT5_DIGEST, F.SEC_EXT6_DIGEST] ++
  [F.SEC_EXT7_DIGEST, F.SEC_EXT8_DIGEST, F.SEC_EXT9_DIGEST, F.SEC_EXT10_DIGEST, F.SEC_EXT11_DIGEST, F.SEC_EXT12_DIGEST, F.SEC_EXT13_DIGEST, F.SEC_EXT14_DIGEST, F.SEC_EXT15_DIGEST, F.SEC_MSEL_SLOT, F.SEC_MSEL_WORD, F.SEC_MDATA_DATA, F.SEC_DBG_SCOPE, F.SEC_ATTESTS_COUNT]

/-- The fields of a block. -/
def blockFlds : Blk → List Fld
  | .site => flds_site
  | .hdr => flds_hdr
  | .addrmap => flds_addrmap
  | .coreCtl => flds_coreCtl
  | .coreSeq => flds_coreSeq
  | .coreVec => flds_coreVec
  | .coreBuf => flds_coreBuf
  | .diemem => flds_diemem
  | .stkCache => flds_stkCache
  | .stkPref => flds_stkPref
  | .stkNme => flds_stkNme
  | .stkChan => flds_stkChan
  | .bulk => flds_bulk
  | .ctrlnet => flds_ctrlnet
  | .syncnet => flds_syncnet
  | .sync => flds_sync
  | .ctx => flds_ctx
  | .queue => flds_queue
  | .acl => flds_acl
  | .cxlp => flds_cxlp
  | .pasid => flds_pasid
  | .msix => flds_msix
  | .mesoax => flds_mesoax
  | .guest => flds_guest
  | .ethport => flds_ethport
  | .grove => flds_grove
  | .erasure => flds_erasure
  | .clk => flds_clk
  | .refclk => flds_refclk
  | .epoch => flds_epoch
  | .pwr => flds_pwr
  | .pwrRg => flds_pwrRg
  | .pwrPp => flds_pwrPp
  | .therm => flds_therm
  | .thermTp => flds_thermTp
  | .errlog => flds_errlog
  | .bringup => flds_bringup
  | .orchard => flds_orchard
  | .sec => flds_sec

end Sys2Proof.Machine
end

