-- ==== Sys2Proof/Machine/Tab.lean ====
section
/-! DEFINITION. Finite maps in one canonical form (keys strictly rising, no entry equal to the default), used by every sparse part of State, and the byte memories built on them. -/

namespace Sys2Proof.Machine

/-- Lexicographic order of keys. -/
def keyLt : Key → Key → Bool
  | [], [] => false
  | [], _ :: _ => true
  | _ :: _, [] => false
  | a :: as, b :: bs => if a < b then true else if b < a then false else keyLt as bs

/-- Order of memory addresses. -/
def addrLt (a b : Nat) : Bool := decide (a < b)

variable {κ α : Type} [DecidableEq κ]

/-- The value listed for a key, or the default `d`. -/
def lookup (d : α) : List (κ × α) → κ → α
  | [], _ => d
  | (k', v) :: r, k => if k' = k then v else lookup d r k

/-- The map without any entry of key `k`. -/
def without (t : List (κ × α)) (k : κ) : List (κ × α) := t.filter (fun e => decide (e.1 ≠ k))

/-- An entry put before the first entry of a greater key. -/
def place (lt : κ → κ → Bool) (k : κ) (v : α) : List (κ × α) → List (κ × α)
  | [] => [(k, v)]
  | e :: r => if lt k e.1 then (k, v) :: e :: r else e :: place lt k v r

/-- Write `v` at `k`; a default value is not listed. -/
def assign [DecidableEq α] (lt : κ → κ → Bool) (d : α) (t : List (κ × α)) (k : κ) (v : α) : List (κ × α) :=
  if v = d then without t k else place lt k v (without t k)

/-- The canonical form: keys strictly rising, no entry equal to the default. -/
def canonical [DecidableEq α] (lt : κ → κ → Bool) (d : α) : List (κ × α) → Bool
  | [] => true
  | [e] => decide (e.2 ≠ d)
  | e :: f :: r => decide (e.2 ≠ d) && lt e.1 f.1 && canonical lt d (f :: r)

end Sys2Proof.Machine

namespace Sys2Proof

/-- A finite map from keys to values. -/
abbrev Tab (α : Type) := List (Key × α)

/-- A byte memory: addresses strictly rising, no byte equal to 0, the byte an unlisted address reads as (R230, R523, R524). -/
abbrev Memory := List (Nat × Byte)

end Sys2Proof

namespace Sys2Proof.Machine

variable {α : Type}

/-- Read a map of keys. -/
def tget (d : α) (t : Tab α) (k : Key) : α := lookup d t k

/-- Write a map of keys. -/
def tset [DecidableEq α] (d : α) (t : Tab α) (k : Key) (v : α) : Tab α := assign keyLt d t k v

/-- The map without the entries whose key fails `p`. -/
def tkeep (t : Tab α) (p : Key → Bool) : Tab α := t.filter (fun e => p e.1)

/-- One byte of a memory. -/
def mget (m : Memory) (a : Nat) : Byte := lookup 0 m a

/-- One byte written. -/
def mset (m : Memory) (a : Nat) (b : Byte) : Memory := assign addrLt 0 m a b

/-- The canonical form of a memory. -/
def Memory.wf (m : Memory) : Bool := canonical addrLt 0 m

/-- `n` bytes from address `a`, lowest first. -/
def mgetN (m : Memory) (a : Nat) : Nat → List Byte
  | 0 => []
  | n + 1 => mget m a :: mgetN m (a + 1) n

/-- Bytes written one after another from address `a`. -/
def msetN (m : Memory) (a : Nat) : List Byte → Memory
  | [] => m
  | b :: bs => msetN (mset m a b) (a + 1) bs

/-- A little-endian number of bytes (R5). -/
def leNat : List Byte → Nat
  | [] => 0
  | b :: bs => b.toNat + 256 * leNat bs

/-- `n` bytes of a number, lowest first (R5). -/
def natLe (v : Nat) : Nat → List Byte
  | 0 => []
  | n + 1 => BitVec.ofNat 8 v :: natLe (v / 256) n

/-- A little-endian number of `n` bytes in a memory. -/
def mnat (m : Memory) (a n : Nat) : Nat := leNat (mgetN m a n)

/-- A number stored as `n` bytes. -/
def mputNat (m : Memory) (a n v : Nat) : Memory := msetN m a (natLe v n)

/-- `n` zero bytes from `a`: the bytes of the range are no longer listed (an unlisted byte is 0). -/
def mzero (m : Memory) (a n : Nat) : Memory := m.filter (fun e => decide (e.1 < a) || decide (a + n ≤ e.1))

/-- Bits [msb:lsb] of a number (R4). -/
def bits (v msb lsb : Nat) : Nat := (v >>> lsb) % 2 ^ (msb + 1 - lsb)

/-- One bit of a number. -/
def bit (v n : Nat) : Bool := v.testBit n

/-- A Bool as 0 or 1. -/
def bnat (b : Bool) : Nat := if b then 1 else 0

/-- A number with bit `n` set. -/
def setBit (v n : Nat) : Nat := v ||| (1 <<< n)

/-- A number with bit `n` clear. -/
def clrBit (v n : Nat) : Nat := if v.testBit n then v - 1 <<< n else v

/-- A field of a number replaced. -/
def setBits (v msb lsb x : Nat) : Nat :=
  v - (bits v msb lsb) <<< lsb + (x % 2 ^ (msb + 1 - lsb)) <<< lsb

/-- The number of ones in the low `n` bits. -/
def popcount (v : Nat) : Nat → Nat
  | 0 => 0
  | n + 1 => bnat (v.testBit n) + popcount v n

/-- The positions of the ones in the low `n` bits, lowest first. -/
def ones (v n : Nat) : List Nat := (List.range n).filter (fun i => v.testBit i)

/-- Saturating increment of a `w`-bit counter. -/
def satInc (v w : Nat) (by' : Nat := 1) : Nat := min (v + by') (2 ^ w - 1)

/-- Sign extension of the low `w` bits. -/
def sext (v w : Nat) : Int := if v.testBit (w - 1) then (v % 2 ^ w : Nat) - (2 ^ w : Nat) else ((v % 2 ^ w : Nat) : Int)

/-- A 32-bit two's complement number. -/
def wrap32 (i : Int) : Nat := (i % 4294967296).toNat

/-- Left fold over the first `n` numbers, the shape of every bounded loop of the model. -/
def loopN {σ : Type} (n : Nat) (f : Nat → σ → σ) (s : σ) : σ := (List.range n).foldl (fun a i => f i a) s

/-- Left fold over a list. -/
def each {σ β : Type} (l : List β) (f : β → σ → σ) (s : σ) : σ := l.foldl (fun a b => f b a) s

/-- Split a list in pieces of `n`. -/
def pieces {β : Type} (n : Nat) : Nat → List β → List (List β)
  | 0, _ => []
  | k + 1, l => if l.isEmpty then [] else l.take n :: pieces n k (l.drop n)

end Sys2Proof.Machine
end

