-- ==== Sys2Proof/Machine/Sites.lean ====
section
/-! DEFINITION. Places of the panel: site numbers and types (R18 to R26), the grid, attachments and links (R237, R238, R364), register pages (R37, R41), the control and reference trees (R265, R413), and the reset values that these rules give. -/

namespace Sys2Proof.Machine

/-- Part types (R29), a guest site being fitted or not per the panel's assembly (R23). -/
inductive Part where
  | die | stack | regulator | io | host | steward | security | clock | rindReg | guest | noGuest | none
  deriving DecidableEq, Repr

/-- The part at a site (R24, R25). -/
def partOf (s : Nat) : Part :=
  if s < 288 then
    (if s % 4 = 0 ∨ s % 4 = 1 then .die else if s % 4 = 2 then .stack else .regulator)
  else if s < 304 then .io
  else if s < 306 then .host
  else if s < 308 then .steward
  else if s = 308 then .security
  else if s = 309 then .clock
  else if s < 318 then .rindReg
  else if s < 320 then .none
  else if s < 324 then (if Config.guestFitted (s - 320) then .guest else .noGuest)
  else .none

/-- SITE_ID.TYPE (R29). -/
def partCode : Part → Nat
  | .die => 0 | .stack => 1 | .regulator => 2 | .io => 3 | .host => 4 | .steward => 5 | .security => 6
  | .clock => 7 | .rindReg => 8 | .guest => 9 | .noGuest => 0xA | .none => 0xF

/-- Plot number of a plot site (R24). -/
def plotOf (s : Nat) : Nat := s / 4

/-- Is the site a mesh node (R20). -/
def isNode (s : Nat) : Bool := decide (s < 288 ∧ s % 4 ≠ 3)

/-- Is the site a compute die. -/
def isDie (s : Nat) : Bool := decide (s < 288 ∧ (s % 4 = 0 ∨ s % 4 = 1))

/-- Is the site a stack. -/
def isStack (s : Nat) : Bool := decide (s < 288 ∧ s % 4 = 2)

/-- Is the plot a standby plot of the layout, column 8 (R18, R21). -/
def standbyPlot (p : Nat) : Bool := decide (p % 9 = 8)

/-- Grid position (R20): die B at 3c, the stack at 3c + 1, die A at 3c + 2, in row y. -/
def gridX (s : Nat) : Nat := 3 * (plotOf s % 9) + (if s % 4 = 0 then 2 else if s % 4 = 1 then 0 else 1)

/-- Row of a plot site (R20). -/
def gridY (s : Nat) : Nat := plotOf s / 9

/-- The node at a grid position (R20). -/
def nodeAt (x y : Nat) : Nat := 4 * (9 * y + x / 3) + (if x % 3 = 0 then 1 else if x % 3 = 1 then 2 else 0)

/-- The compute dies of the panel, in site order. -/
def allDies : List Nat := (List.range 144).map (fun i => 4 * (i / 2) + i % 2)

/-- The stacks of the panel, in site order. -/
def allStacks : List Nat := (List.range 72).map (fun p => 4 * p + 2)

/-- The sites with bulk routers: mesh nodes (R237). -/
def allNodes : List Nat := (List.range 216).map (fun i => 4 * (i / 3) + i % 3)

/-- Every site of the panel that can carry a part. -/
def allSites : List Nat := List.range 318 ++ [320, 321, 322, 323]

/-- Attachment nodes of a rind site, in the order of R238. -/
def attachNodes (s : Nat) : List Nat :=
  if 288 ≤ s ∧ s < 292 then [0, 2, 3, 5].map (fun x => nodeAt (6 * (s - 288) + x) 0)
  else if 292 ≤ s ∧ s < 296 then [nodeAt 23 (2 * (s - 292)), nodeAt 23 (2 * (s - 292) + 1)]
  else if 296 ≤ s ∧ s < 300 then [0, 2, 3, 5].map (fun x => nodeAt (6 * (299 - s) + x) 7)
  else if 300 ≤ s ∧ s < 304 then [nodeAt 0 (7 - 2 * (s - 300)), nodeAt 0 (6 - 2 * (s - 300))]
  else if s = 304 then [2, 3, 4, 5].map (fun y => nodeAt 0 y)
  else if s = 305 then [2, 3, 4, 5].map (fun y => nodeAt 23 y)
  else if s = 320 then [nodeAt 7 0]
  else if s = 321 then [nodeAt 16 0]
  else if s = 322 then [nodeAt 7 7]
  else if s = 323 then [nodeAt 16 7]
  else []

/-- The rind sites attached to a node, lower site number first: RIND0 and RIND1 (R237). -/
def rindAt (n : Nat) : List Nat :=
  ((List.range 18).map (· + 288) ++ [320, 321, 322, 323]).filter (fun r => (attachNodes r).contains n)

/-- The neighbour of a node at a port code 0 to 6 (R237). -/
def portPeer (n port : Nat) : Option Nat :=
  if !(isNode n) then none
  else
    let x := gridX n
    let y := gridY n
    if port = 0 then (if x = 0 then none else some (nodeAt (x - 1) y))
    else if port = 1 then (if x = 26 then none else some (nodeAt (x + 1) y))
    else if port = 2 then (if y = 0 then none else some (nodeAt x (y - 1)))
    else if port = 3 then (if y = 7 then none else some (nodeAt x (y + 1)))
    else if port = 5 then (rindAt n)[0]?
    else if port = 6 then (rindAt n)[1]?
    else none

/-- Bundles of an attachment (R238): 2 at the north and south edges, 4 at the east and west, 1 at a host die. -/
def attachBundles (r : Nat) : Nat :=
  if 288 ≤ r ∧ r < 292 then 2 else if 296 ≤ r ∧ r < 300 then 2 else if 292 ≤ r ∧ r < 304 then 4 else if r = 304 ∨ r = 305 then 1 else 0

/-- Class and bundles of the Mesoax link of page 0x10 + n of a site, with its far end (R364, R381); a guest port is no Mesoax link. -/
def linkInfo (s n : Nat) : Option (Nat × Nat × Nat) :=
  if isNode s then
    match portPeer s n with
    | none => none
    | some q =>
      if q ≥ 320 then none
      else if q ≥ 288 then some (5, attachBundles q, q)
      else if n = 0 ∨ n = 1 then
        (if plotOf s = plotOf q then some (1, 10, q) else some (2, 12, q))
      else if isStack s then some (4, 6, q) else some (3, 8, q)
  else if 288 ≤ s ∧ s < 306 then
    match (attachNodes s)[n]? with
    | none => none
    | some q => some (5, attachBundles s, q)
  else none

/-- The page of a link's far end: the peer's port back, or the rind die's attachment. -/
def linkPeerPage (s n : Nat) : Option (Nat × Nat) :=
  match linkInfo s n with
  | none => none
  | some (_, _, q) =>
    ((List.range 16).find? (fun m =>
      match linkInfo q m with
      | some (_, _, s') => decide (s' = s)
      | none => false)).map (fun m => (q, m))

/-- Trunk nodes of the control tree (R265). -/
def trunkNodes : List Nat :=
  [nodeAt 5 0, nodeAt 17 0, nodeAt 5 7, nodeAt 17 7, nodeAt 0 3, nodeAt 0 4, nodeAt 23 3, nodeAt 23 4]

/-- Distance along the grid. -/
def gridDist (a b : Nat) : Nat :=
  (max (gridX a) (gridX b) - min (gridX a) (gridX b)) + (max (gridY a) (gridY b) - min (gridY a) (gridY b))

/-- Depth of a mesh node in the default control tree (R265): the trunk nodes are children of the steward. -/
def treeDepthNode (n : Nat) : Nat := 1 + trunkNodes.foldl (fun d t => min d (gridDist n t)) 100

/-- Parent of a site in the default control tree (R265), 0x1FF at the active steward (R277); among neighbours of least depth the first of W, E, N, S (DESIGN CHOICE, log 11). -/
def treeParentOf (s : Nat) : Nat :=
  if isNode s then
    if trunkNodes.contains s then 306
    else
      let nb := [0, 1, 2, 3].filterMap (portPeer s)
      let best := nb.foldl (fun d q => min d (treeDepthNode q)) 100
      (nb.find? (fun q => treeDepthNode q == best)).getD 306
  else if s < 288 then (if standbyPlot (plotOf s) then s - 3 - 4 else s - 2)
  else if s = 306 then 0x1FF
  else 306

/-- Depth of a site in the default control tree (R265). -/
def treeDepthOf (s : Nat) : Nat :=
  if isNode s then treeDepthNode s
  else if s < 288 then treeDepthNode (treeParentOf s) + 1
  else if s = 306 then 0 else 1

/-- The reference's source of a site at the default parents (R413): the neighbour nearest to node (12, 0), the first of W, E, N, S among equals (DESIGN CHOICE, log 11). -/
def refParentOf (s : Nat) : Nat :=
  if isNode s then
    if s = nodeAt 12 0 then 309
    else
      let nb := [0, 1, 2, 3].filterMap (portPeer s)
      let root := nodeAt 12 0
      let best := nb.foldl (fun d q => min d (gridDist q root)) 100
      (nb.find? (fun q => gridDist q root == best)).getD 309
  else if s < 288 then treeParentOf s
  else if s < 306 then ((attachNodes s)[0]?).getD 309
  else if 320 ≤ s then ((attachNodes s)[0]?).getD 309
  else if s = 309 then 309
  else if 310 ≤ s ∧ s < 318 then 306
  else 309

/-- The block on a page of a site (R37, R41); none where the site's type has no such page. -/
def blockOf (s page : Nat) : Option Blk :=
  let common (hi : Nat) : Option Blk :=
    if page > hi then none
    else match page with
      | 0 => some .site | 1 => some .clk | 2 => some .pwr | 3 => some .therm | 4 => some .bulk | 5 => some .ctrlnet
      | 6 => some .syncnet | 7 => some .addrmap | 8 => some .sync | 9 => some .diemem | 0xA => some .acl | _ => none
  let acl : Option Blk := if page = 0xA then some .acl else none
  match partOf s with
  | .die =>
    if page ≤ 0xA then common 0xA
    else if 0x10 ≤ page ∧ page < 0x20 then some .mesoax
    else if 0x40 ≤ page ∧ page < 0x88 then
      (match page % 4 with | 0 => some .coreCtl | 1 => some .coreSeq | 2 => some .coreVec | _ => some .coreBuf)
    else none
  | .stack =>
    if page ≤ 7 then common 7
    else if page = 0xA then acl
    else if 0x10 ≤ page ∧ page < 0x20 then some .mesoax
    else if page = 0x20 then some .stkCache
    else if page = 0x21 then some .stkPref
    else if page = 0x22 then some .stkNme
    else if 0x40 ≤ page ∧ page < 0x60 then some .stkChan
    else none
  | .regulator | .rindReg => if page = 0 then some .site else if page = 2 then some .pwrRg else if page = 3 then some .therm else none
  | .io =>
    if page ≤ 7 then common 7
    else if page = 0xA then acl
    else if 0x10 ≤ page ∧ page < 0x14 then some .mesoax
    else if 0x20 ≤ page ∧ page < 0x28 then some .ethport
    else if page = 0x30 then some .grove
    else if page = 0x31 then some .erasure
    else none
  | .host =>
    if page ≤ 7 then common 7
    else if page = 0xA then acl
    else if 0x10 ≤ page ∧ page < 0x14 then some .mesoax
    else if page = 0x20 then some .cxlp
    else if page = 0x21 then some .pasid
    else if page = 0x22 then some .msix
    else none
  | .steward =>
    if page = 2 then some .pwrPp
    else if page = 3 then some .thermTp
    else if page ≤ 1 then common 1
    else if page = 5 then some .ctrlnet
    else if page = 0xA then acl
    else if page = 0x20 then some .bringup
    else if page = 0x21 then some .orchard
    else if page = 0x22 then some .ctx
    else if page = 0x23 then some .queue
    else if page = 0x24 then some .epoch
    else if page = 0x25 then some .errlog
    else none
  | .security =>
    if page ≤ 3 then common 3
    else if page = 5 then some .ctrlnet
    else if page = 0xA then acl
    else if page = 0x20 then some .sec
    else none
  | .clock => if page ≤ 3 then common 3 else if page = 0x20 then some .refclk else none
  | .guest => if page ≤ 6 then common 6 else if page = 0xA then acl else if page = 0x20 then some .guest else none
  | .noGuest => if page = 0 then some .site else none
  | .none => none

/-- Block type codes (R41); the forms of PWR and THERM share one code each. -/
def blkCode : Blk → Nat
  | .site => 1 | .clk => 2 | .pwr => 3 | .pwrRg => 3 | .pwrPp => 3 | .therm => 4 | .thermTp => 4 | .bulk => 5 | .ctrlnet => 6
  | .syncnet => 7 | .addrmap => 8 | .sync => 9 | .diemem => 0xA | .acl => 0xB | .mesoax => 0xC | .coreCtl => 0xD
  | .coreSeq => 0xE | .coreVec => 0xF | .coreBuf => 0x10 | .stkChan => 0x11 | .stkCache => 0x12 | .stkPref => 0x13
  | .stkNme => 0x14 | .ethport => 0x15 | .grove => 0x16 | .erasure => 0x17 | .cxlp => 0x18 | .pasid => 0x19 | .msix => 0x1A
  | .bringup => 0x1B | .orchard => 0x1C | .ctx => 0x1D | .queue => 0x1E | .epoch => 0x1F | .errlog => 0x20 | .sec => 0x21
  | .refclk => 0x22 | .guest => 0x23 | .hdr => 0

/-- Position of a page in its run of like pages (R37, R40). -/
def pageInstance (s page : Nat) : Nat :=
  match blockOf s page with
  | some .mesoax => page - 0x10
  | some .coreCtl | some .coreSeq | some .coreVec | some .coreBuf => (page - 0x40) / 4
  | some .stkChan => page - 0x40
  | some .ethport => page - 0x20
  | _ => 0

/-- Page 0x02 of these sites has no block registers and its PG_CAP reads zero (R458). -/
def bareP2 (s page : Nat) : Bool :=
  decide (page = 2) && (match partOf s with | .io | .host | .security | .clock | .guest => true | _ => false)

/-- Placed phases of an output group of a plot regulator (R435); a rind regulator's count is not stated (log 3). -/
def placedPhases (s g : Nat) : Nat :=
  if s < 288 then (match g with | 0 => 12 | 1 => 12 | 2 => 8 | 3 => 4 | 4 => 2 | _ => 0) else 0

/-- Thresholds of R464: WARN, THROT, CRIT in degrees. -/
def thermLimits (s : Nat) : Nat × Nat × Nat :=
  match partOf s with
  | .die => (90, 95, 102)
  | .stack => (88, 90, 95)
  | .io => (95, 0, 105)
  | _ => (100, 0, 0)

/-- RATE of the admission limiter of a rind port of a mesh node (R263): 50 tokens per bundle of the attachment, 100 at a guest port. -/
def eaReset (s port : Nat) : Nat :=
  match portPeer s port with
  | some r => if 320 ≤ r then 100 else 50 * attachBundles r
  | none => 0

/-- The two words of an access mask at panel reset (R329), for the register or resource table (`idx` = master + 4096 × table). -/
def aclReset (s idx : Nat) (wr : Bool) : Nat :=
  let m := idx % 4096
  let reg := idx / 4096 = 0
  if m = 1088 ∨ m = 1089 then 2 ^ 64 - 1
  else if 1024 ≤ m ∧ m ≤ 1087 ∧ reg then
    (if wr then (if s = 306 ∨ s = 307 then 2 ^ 64 - 1 else 0) else 2 ^ 64 - 1)
  else 0

/-- The reset value of a field at a place: the table's number, or what the named rule gives. -/
def resetOf (r : Rst) (s page idx : Nat) : Nat :=
  match r with
  | .lit v => v
  | .siteNum => s
  | .sitePart => partCode (partOf s)
  | .posPlot => if s < 288 then plotOf s else 0x7F
  | .posMesh => bnat (isNode s)
  | .posX => if isNode s then gridX s else 0
  | .posY => if isNode s then gridY s else 0
  | .posRind => bnat (decide (288 ≤ s))
  | .posEdge =>
    if s < 288 then 0
    else if s < 292 then 0 else if s < 296 then 1 else if s < 300 then 2 else if s < 304 then 3
    else if s = 304 ∨ s = 306 ∨ s = 308 then 3
    else if s = 305 ∨ s = 307 then 1
    else if s = 309 ∨ s = 310 ∨ s = 311 then 0
    else if s = 312 ∨ s = 313 then 1
    else if s = 314 ∨ s = 315 then 2
    else if s = 316 ∨ s = 317 then 3
    else if s = 320 ∨ s = 321 then 0 else 2
  | .pgType => match blockOf s page with | some b => blkCode b | none => 0
  | .pgInst => pageInstance s page
  | .pgCap => if bareP2 s page then 0 else 1
  | .eaRate => eaReset s idx
  | .treeParent => treeParentOf s
  | .treeDepth => treeDepthOf s
  | .aclRd => aclReset s idx false
  | .aclWr => aclReset s idx true
  | .winBase => if idx = 0 then 0 else 1
  | .winLimit => if idx = 0 then 0x17FFF else 0
  | .psDefault => if s = 305 then 0x20 else 0
  | .mlPresent => bnat (linkInfo s (page - 0x10)).isSome
  | .mlClass => match linkInfo s (page - 0x10) with | some (c, _, _) => c | none => 0
  | .mlBundles => match linkInfo s (page - 0x10) with | some (_, b, _) => b | none => 0
  | .mlPeer => match linkInfo s (page - 0x10) with | some (_, _, q) => q | none => 0x1FF
  | .etPresent => bnat (decide (page < 0x24))
  | .etFirst => if page < 0x24 then 8 * (page - 0x20) else 0
  | .etWidth => if page < 0x24 then 8 else 0
  | .refParent => refParentOf s
  | .phases => if isDie s then 12 else if isStack s then 8 else 0
  | .capWatts => if isDie s then 0x44 else if isStack s then 0x37 else 0
  | .rampWatts => if isDie s then 5 else if isStack s then 2 else 0
  | .rgPlaced => placedPhases s idx
  | .limWarn => (thermLimits s).1
  | .limThrot => (thermLimits s).2.1
  | .limCrit => (thermLimits s).2.2
  | .fwSvn => Config.fwSvnAtReset.toNat
  | .keySvn => Config.keySvnAtReset.toNat

end Sys2Proof.Machine
end

