-- ==== Sys2Proof/Machine/Numeric.lean ====
section
/-! DEFINITION. Number formats, scaling, conversion, rounding, the stochastic generator and exact sums (spec/03_number_formats.md, R45 to R76). -/

namespace Sys2Proof.Machine

/-- The element formats of R45; E8M0 is the scale format only. -/
inductive Fmt where
  | b32 | e8m7 | e9m6 | e4m3 | e5m2 | e2m1
  deriving DecidableEq, Repr

/-- An element format's code (R45); E8M0 and reserved codes name no element format. -/
def fmtOf : Nat → Option Fmt
  | 0 => some .b32
  | 1 => some .e8m7
  | 2 => some .e9m6
  | 3 => some .e4m3
  | 4 => some .e5m2
  | 5 => some .e2m1
  | _ => none

/-- Bits per element (R45). -/
def fmtBits : Fmt → Nat
  | .b32 => 32 | .e8m7 => 16 | .e9m6 => 16 | .e4m3 => 8 | .e5m2 => 8 | .e2m1 => 4

/-- Exponent bits e (R47). -/
def fmtExp : Fmt → Nat
  | .b32 => 8 | .e8m7 => 8 | .e9m6 => 9 | .e4m3 => 4 | .e5m2 => 5 | .e2m1 => 2

/-- Fraction bits f (R47). -/
def fmtFrac : Fmt → Nat
  | .b32 => 23 | .e8m7 => 7 | .e9m6 => 6 | .e4m3 => 3 | .e5m2 => 2 | .e2m1 => 1

/-- Bias b (R47). -/
def fmtBias : Fmt → Nat
  | .b32 => 127 | .e8m7 => 127 | .e9m6 => 255 | .e4m3 => 7 | .e5m2 => 15 | .e2m1 => 1

/-- Code of the largest finite magnitude (R47 to R51). -/
def fmtMax : Fmt → Nat
  | .b32 => 0x7F7FFFFF | .e8m7 => 0x7F7F | .e9m6 => 0x7FBF | .e4m3 => 0x7E | .e5m2 => 0x7B | .e2m1 => 0x7

/-- Canonical NaN (R53); E2M1 has none and R61 writes code 0 in its place. -/
def fmtNan : Fmt → Nat
  | .b32 => 0x7FC00000 | .e8m7 => 0x7FC0 | .e9m6 => 0x7FE0 | .e4m3 => 0x7F | .e5m2 => 0x7E | .e2m1 => 0

/-- A value: NaN, an infinity, or an exact signed dyadic number `mag × 2^ex` (a signed zero when `mag` is 0). -/
inductive Num where
  | nan
  | inf (neg : Bool)
  | fin (neg : Bool) (mag : Nat) (ex : Int)
  deriving DecidableEq, Repr

/-- Decode an element code (R46 to R51). -/
def decodeNum (f : Fmt) (code : Nat) : Num :=
  let e := fmtExp f
  let fb := fmtFrac f
  let c := code % 2 ^ (fmtBits f)
  let neg := c.testBit (fmtBits f - 1)
  let ex := bits c (fb + e - 1) fb
  let fr := c % 2 ^ fb
  let b : Int := (fmtBias f : Int)
  let special := ex = 2 ^ e - 1
  if ex = 0 then .fin neg fr (1 - b - fb)
  else match f with
    | .e2m1 => .fin neg (2 ^ fb + fr) (ex - b - fb)
    | .e4m3 => if special ∧ fr = 7 then .nan else .fin neg (2 ^ fb + fr) (ex - b - fb)
    | _ => if special then (if fr = 0 then .inf neg else .nan) else .fin neg (2 ^ fb + fr) (ex - b - fb)

/-- Multiply by a power of two: a scale applied (R57), or removed (R60 step 5). -/
def scaleNum (x : Num) (k : Int) : Num :=
  match x with
  | .fin n m e => .fin n m (e + k)
  | y => y

/-- The value of a scaled element (R57): scale byte 0xFF makes it NaN. -/
def decodeScaled (f : Fmt) (code scale : Nat) : Num :=
  if scale = 0xFF then .nan else scaleNum (decodeNum f code) ((scale : Int) - 127)

/-- How a conversion rounds: to nearest even (R66), or stochastically with the 16-bit draw taken for it (R67). -/
inductive Rounding where
  | rne
  | sr (draw : Nat)
  deriving DecidableEq, Repr

/-- Integer part and 2^-16 parts of `mag × 2^sh`, rounded by the mode: the multiple of the quantum that R66 or R67 chooses. -/
def roundInt (r : Rounding) (mag : Nat) (sh : Int) : Nat :=
  if 0 ≤ sh then mag <<< sh.toNat
  else
    let k := (-sh).toNat
    let n := mag >>> k
    let rem := mag - n <<< k
    match r with
    | .rne =>
      let half := 1 <<< (k - 1)
      if rem > half then n + 1 else if rem = half then n + n % 2 else n
    | .sr draw =>
      let d16 := (rem <<< 16) >>> k
      if draw < d16 then n + 1 else n

/-- Overflow result (R63). -/
def overflowCode (f : Fmt) (ovfNan : Bool) (neg : Bool) : Nat :=
  let s := bnat neg <<< (fmtBits f - 1)
  match f with
  | .e2m1 => s + 7
  | .e4m3 => if ovfNan then fmtNan .e4m3 else s + fmtMax .e4m3
  | f => s + (2 ^ fmtExp f - 1) <<< fmtFrac f

/-- Conversion of a value into a format: one rounding (R62 to R67). -/
def encodeNum (f : Fmt) (r : Rounding) (ovfNan : Bool) (x : Num) : Nat :=
  match x with
  | .nan => fmtNan f
  | .inf neg => overflowCode f ovfNan neg
  | .fin neg mag ex =>
    let s := bnat neg <<< (fmtBits f - 1)
    if mag = 0 then s
    else
      let fb : Int := fmtFrac f
      let emin : Int := 1 - (fmtBias f : Int)
      let p : Int := (Nat.log2 mag : Int) + ex
      let q : Int := (if p < emin then emin else p) - fb
      let n := roundInt r mag (ex - q)
      let code := ((q - (emin - fb)).toNat) <<< (fmtFrac f) + n
      if n = 0 then s else if code > fmtMax f then overflowCode f ovfNan neg else s + code

/-- A binary32 code of a value, rounded to nearest even. -/
def toB32 (x : Num) : Nat := encodeNum .b32 .rne false x

/-- The value of a binary32 code. -/
def ofB32 (c : Nat) : Num := decodeNum .b32 c

/-- The stochastic-rounding generator of R68. -/
structure Gen where
  x : Nat
  y : Nat
  z : Nat
  w : Nat
  held : Nat
  h : Bool
  deriving DecidableEq, Repr

/-- One 32-bit output (R68, `step`). -/
def genStep (g : Gen) : Gen :=
  let t := (g.x ^^^ (g.x <<< 11)) % 4294967296
  { g with x := g.y, y := g.z, z := g.w, w := (g.w ^^^ (g.w >>> 19)) ^^^ t ^^^ (t >>> 8) }

/-- One 16-bit draw: the low half of an output first (R68, `draw`). -/
def genDraw (g : Gen) : Nat × Gen :=
  if g.h then (g.held >>> 16, { g with h := false })
  else
    let g' := genStep g
    (g'.w % 65536, { g' with held := g'.w, h := true })

/-- Seeding (R69). -/
def genSeed (sigma : Nat) : Gen :=
  let lo := sigma % 4294967296
  let hi := (sigma >>> 32) % 4294967296
  loopN 8 (fun _ => genStep) { x := lo, y := hi, z := lo ^^^ 0x9E3779B9, w := hi ^^^ 0x6A09E667, held := 0, h := false }

/-- One conversion: the code and the generator after it; a stochastic one takes exactly one draw (R67). -/
def convert (f : Fmt) (sr ovfNan : Bool) (x : Num) (g : Gen) : Nat × Gen :=
  if sr then
    let (d, g') := genDraw g
    (encodeNum f (.sr d) ovfNan x, g')
  else (encodeNum f .rne ovfNan x, g)

/-- Conversions one after another, in the order of the list (R70). -/
def convertList (f : Fmt) (sr ovfNan : Bool) : List Num → Gen → List Nat × Gen
  | [], g => ([], g)
  | x :: xs, g =>
    let (c, g1) := convert f sr ovfNan x g
    let (cs, g2) := convertList f sr ovfNan xs g1
    (c :: cs, g2)

/-- The product of two values, exact (R71, R74). -/
def mulNum (a b : Num) : Num :=
  match a, b with
  | .nan, _ => .nan
  | _, .nan => .nan
  | .inf s, .inf t => .inf (s != t)
  | .inf s, .fin t m _ => if m = 0 then .nan else .inf (s != t)
  | .fin t m _, .inf s => if m = 0 then .nan else .inf (s != t)
  | .fin s m e, .fin t n f => .fin (s != t) (m * n) (e + f)

/-- The signed integer of a finite value in units of `2^u`, for `u` at or below its exponent. -/
def inUnits (neg : Bool) (mag : Nat) (ex u : Int) : Int :=
  let m : Int := ((mag <<< (ex - u).toNat : Nat) : Int)
  if neg then -m else m

/-- The sum of two values, exact, with the zero signs of R54 and the special values of R74. -/
def addNum (a b : Num) : Num :=
  match a, b with
  | .nan, _ => .nan
  | _, .nan => .nan
  | .inf s, .inf t => if s = t then .inf s else .nan
  | .inf s, _ => .inf s
  | _, .inf t => .inf t
  | .fin s m e, .fin t n f =>
    if m = 0 ∧ n = 0 then .fin (s && t) 0 0
    else if m = 0 then .fin t n f
    else if n = 0 then .fin s m e
    else
      let u := min e f
      let v := inUnits s m e u + inUnits t n f u
      .fin (decide (v < 0)) v.natAbs u

/-- Negation. -/
def negNum : Num → Num
  | .nan => .nan
  | .inf s => .inf (!s)
  | .fin s m e => .fin (!s) m e

/-- Magnitude. -/
def absNum : Num → Num
  | .nan => .nan
  | .inf _ => .inf false
  | .fin _ m e => .fin false m e

/-- `a < b` for values that are not NaN; the two zeros are equal. -/
def ltNum (a b : Num) : Bool :=
  match a, b with
  | .nan, _ => false
  | _, .nan => false
  | .inf s, .inf t => s && !t
  | .inf s, _ => s
  | _, .inf t => !t
  | .fin s m e, .fin t n f =>
    let u := min e f
    decide (inUnits s m e u < inUnits t n f u)

/-- `a ≤ b` for values that are not NaN. -/
def leNum (a b : Num) : Bool :=
  match a, b with
  | .nan, _ => false
  | _, .nan => false
  | a, b => !(ltNum b a)

/-- Equality of values; a NaN equals nothing. -/
def eqNum (a b : Num) : Bool := leNum a b && leNum b a

/-- Is the value a NaN. -/
def isNan : Num → Bool
  | .nan => true
  | _ => false

/-- Is the value finite. -/
def isFin : Num → Bool
  | .fin _ _ _ => true
  | _ => false

/-- A finite value rounded to nearest even at p significant bits, without bounds of range. -/
def roundSig (p : Nat) (x : Num) : Num :=
  match x with
  | .fin n m e =>
    let k := Nat.log2 m + 1 - p
    if k = 0 then x else .fin n (roundInt .rne m (-(k : Int))) (e + k)
  | y => y

/-- A partial sum as a unit holds it (R72): `f` says whether as binary32, or with how many bits beyond its 24. R72 states the rounding of an addition to a stored accumulator alone; that a partial sum is rounded to nearest even at the width it is held in is the model's (DESIGN CHOICE, log 64). -/
def heldSum (f : Nat) (x : Num) : Num := if f % 2 = 0 then ofB32 (toB32 x) else roundSig (24 + f / 2) x

/-- One addition of an accumulation whose order and grouping are open (R72): `w` says which two of the terms and partial sums that are left are added, and how their sum is held, which `b32` fixes as binary32. -/
def sumStep (b32 : Bool) (w : Nat) (l : List Num) : List Num :=
  let i := w % l.length
  let r := l.eraseIdx i
  let j := w / 2 ^ 24 % r.length
  heldSum (if b32 then 0 else w / 2 ^ 48) (addNum (l.getD i (.fin false 0 0)) (r.getD j (.fin false 0 0))) :: r.eraseIdx j

/-- The larger of a magnitude and a value's magnitude, when the value is finite (R60 step 1). -/
def largerFin (a x : Num) : Num :=
  match x with
  | .fin _ m e => if ltNum a (.fin false m e) then .fin false m e else a
  | _ => a

/-- The scale of a sub-block chosen from its source values (R60 steps 1 to 4, as the byte s + 127): the smallest s with
amax × 2^-s at or below the format's largest finite value, clamped to -127 … 127; 0 when no element is finite and nonzero. -/
def scaleFor (f : Fmt) (xs : List Num) : Nat :=
  let amax := xs.foldl largerFin (Num.fin false 0 0)
  match amax with
  | .fin _ m e =>
    if m = 0 then 127
    else
      match decodeNum f (fmtMax f) with
      | .fin _ mm me =>
        let s0 : Int := ((Nat.log2 m : Int) + e) - ((Nat.log2 mm : Int) + me)
        let s := if leNum (.fin false m (e - s0)) (.fin false mm me) then s0 else s0 + 1
        (((if s < -127 then -127 else if s > 127 then 127 else s) : Int) + 127).toNat
      | _ => 127
  | _ => 127

/-- Conversion of one sub-block of 64 values: its scale byte, its 64 codes, the generator (R60, R61). -/
def convertSub (f : Fmt) (sr ovfNan : Bool) (xs : List Num) (g : Gen) : Nat × List Nat × Gen :=
  let nanIn := f = .e2m1 ∧ xs.any isNan
  let sc := if nanIn then 0xFF else scaleFor f xs
  let (cs, g') := convertList f sr ovfNan (xs.map (fun x => scaleNum x (127 - (sc : Int)))) g
  (sc, if nanIn then xs.map (fun _ => 0) else cs, g')

/-- May a tensor of this format have a scale plane, and must it (R45, R56). -/
def scaleAllowed : Fmt → Bool
  | .e4m3 => true | .e5m2 => true | .e2m1 => true | _ => false

/-- E2M1 needs a scale plane (R56). -/
def scaleRequired : Fmt → Bool
  | .e2m1 => true | _ => false

/-- Bytes of a 32 × 32 block (R45). -/
def blockBytes (f : Fmt) : Nat := 128 * fmtBits f

/-- The codes of a run of element bytes in storage order; the first E2M1 element of a byte is in bits [3:0] (R55). -/
def codesOf (f : Fmt) (bytes : List Byte) : List Nat :=
  match f with
  | .e2m1 => bytes.flatMap (fun b => [b.toNat % 16, b.toNat / 16])
  | f => (pieces (fmtBits f / 8) bytes.length bytes).map leNat

/-- The bytes of a run of element codes (R55, R5). -/
def bytesOf (f : Fmt) (codes : List Nat) : List Byte :=
  match f with
  | .e2m1 => (pieces 2 codes.length codes).map (fun p => BitVec.ofNat 8 (p.headD 0 % 16 + 16 * (p.getD 1 0 % 16)))
  | f => codes.flatMap (fun c => natLe c (fmtBits f / 8))

end Sys2Proof.Machine
end

