-- ==== Sys2Proof/Machine/Records.lean ====
section
/-! DEFINITION. The records State is made of that are no registers: what a core, a stack, a link, a queue and the other units of the panel hold between commands. -/

namespace Sys2Proof.Machine

/-- How far a wait entry is (R286, R287, R288, R289). -/
inductive EntrySt where
  | unsent | sent | satisfied | noroom | cancelled
  deriving DecidableEq, Repr

/-- One used entry of a wait set, a WAIT or a BARRIER, translated at issue (R281, R286). -/
structure WEntry where
  ix : Nat
  vid : Nat
  thresh : Nat
  cons : Bool
  site : Nat
  cell : Nat
  st : EntrySt
  deriving DecidableEq, Repr

/-- The descriptor the sequencer has reached and is evaluating (R112, R286). -/
structure Cand where
  addr : Nat
  desc : Nat
  ents : List WEntry
  sigSite : Nat
  sigCell : Nat
  expired : Bool
  withdrawn : Bool
  since : Nat
  cells : List (Nat × Nat × Nat)
  deriving DecidableEq, Repr

/-- Executing agents that hold a place in the issue window (R120). -/
inductive Agent where
  | dma0 | dma1 | matrix | vector
  deriving DecidableEq, Repr

/-- How far an issued descriptor is. -/
inductive Phase where
  | waiting | running | done
  deriving DecidableEq, Repr

/-- A tensor reference (R117). -/
structure TRef where
  base : Nat
  scale : Nat
  freeze : Nat
  fmt : Nat
  space : Nat
  brows : Nat
  bcols : Nat
  pitch : Nat
  deriving DecidableEq, Repr

/-- A descriptor issued and not complete: an entry of the issue window (R121, R123). `acks` counts the answers it still waits for, `bad` is the first code reported against it, `trefs` its tensor references as read at its start (R119). -/
structure Issued where
  id : Nat
  addr : Nat
  desc : Nat
  agent : Agent
  phase : Phase
  ix : List Nat
  trefs : List (Option TRef)
  sigSite : Nat
  sigCell : Nat
  acks : Nat
  bad : Nat
  cur : Nat
  cnt0 : Nat
  cnt1 : Nat
  cells : List (Nat × Nat × Nat)
  deriving DecidableEq, Repr

/-- A sequencer descriptor that has taken effect and not completed: WAIT, BARRIER, ENQ, STEP_END (R135, R136, R142, R140). `stage` is the progress of an ENQ: 1 reserved, 2 full, 3 granted, 4 published; `bad` the code that fails it. -/
structure Held where
  id : Nat
  op : Nat
  addr : Nat
  desc : Nat
  ents : List WEntry
  sigSite : Nat
  sigCell : Nat
  since : Nat
  slot : Nat
  stage : Nat
  expired : Bool
  withdrawn : Bool
  bad : Nat
  deriving DecidableEq, Repr

/-- An error found by a unit: its code, INFO0, and how the record is formed: 0 with the descriptor's address in INFO1 and INFO2 (R76, R105, R143, R174), 1 per R198, 2 no record of its own (the target made it), 3 with INFO1 and INFO2 zero (R274). -/
structure Err where
  code : Nat
  info0 : Nat
  form : Nat
  deriving DecidableEq, Repr

/-- On whose behalf an engine reaches memory: opcode, descriptor address and requester of R198. -/
structure Who where
  op : Nat
  daddr : Nat
  req : Nat
  deriving DecidableEq, Repr

/-- A SIGNAL sent and not answered: its object, increment and descriptor (R282, R285). -/
structure SigOut where
  vid : Nat
  site : Nat
  cell : Nat
  inc : Nat
  addr : Nat
  deriving DecidableEq, Repr

/-- A loop-stack entry (R564). -/
structure LoopEnt where
  first : Nat
  body : Nat
  ix : Nat
  left : Nat
  depth : Nat
  stride : Nat
  deriving DecidableEq, Repr

/-- The step restart record (R140, R494, R495). -/
structure StepRec where
  pc : Nat
  ix : List Nat
  loops : List LoopEnt
  calls : List Nat
  step : Nat
  deriving DecidableEq, Repr

/-- Why the sequencer is to stop at a boundary (R125, R145, R315), or has been stopped by STOP and drains (R498). -/
inductive StopReq where
  | none | preempt | preemptStep | halt | one | stop
  deriving DecidableEq, Repr

/-- One tile-segment still to be run: its accumulator tile, its product (0 forward, 1 dX, 2 dW), its tile (tm, tn), or K-tile q in tm, its first K-block and number of K-blocks, whether it is a rerun after a mismatch with the lowest row and the number of rows that mismatched (R86, R94, R101), the failing addresses that made it run again after parity failures of the operand buffers (R195), and the rows counted as exempt in its first run (R100). -/
structure Seg where
  tile : Nat
  kind : Nat
  tm : Nat
  tn : Nat
  koff : Nat
  kn : Nat
  rerun : Bool
  row : Nat
  rows : Nat
  refetched : List Nat
  exempt : List Nat
  deriving DecidableEq, Repr

/-- A die-memory read that waits for the re-read of a word in its core's next slot: the core, the failing word's die-local address, the descriptor, and the bytes the access asks for (R195). -/
structure Reread where
  site : Nat
  slot : Nat
  bad : Nat
  id : Nat
  addr : Nat
  len : Nat
  deriving DecidableEq, Repr

/-- The matrix engine (R77 to R107): the descriptor in progress, the latched MX_CFG, the tile-segments to run, the tiles to convert, the frozen blocks read at the start (position, i, j), and the operand blocks held in the buffers: buffer (0 A, 1 B), position, i, j, and the first half-slot of 512 bytes plus 1 (R82). -/
structure Mx where
  active : Bool
  id : Nat
  addr : Nat
  desc : Nat
  ix : List Nat
  trefs : List (Option TRef)
  tol : Nat
  check : Bool
  segs : List Seg
  convs : List Seg
  frozen : List (Nat × Nat × Nat)
  blocks : Tab Nat
  deriving DecidableEq, Repr

/-- The vector engine (R148 to R176): the descriptor in progress, the latched VX_CFG, its position, the pending reruns (kind: 0 a shadow mismatch, else the store of R198; and detail), predicates and their checkpoint, decoded input blocks, the bytes of blocks and scales as they stood at the start (R156), output buffers (value × 2 + stored) and as they stood at the checkpoint (R172), block columns to write back, terms of a VREDUCE, physical ranges of the outputs (stream, start, length) and those that stream 3 has written (R156). -/
structure Vx where
  active : Bool
  id : Nat
  addr : Nat
  desc : Nat
  ix : List Nat
  trefs : List (Option TRef)
  shadow : Bool
  section_ : Nat
  pass : Nat
  band : Nat
  col : Nat
  pc : Nat
  icount : Nat
  rerun : List (Nat × Nat)
  preds : Tab Nat
  ckPreds : Tab Nat
  ins : Tab (List Nat)
  snap : Tab (List Byte × List Byte)
  buf : Tab Nat
  ckBuf : Tab Nat
  wb : List (Nat × Nat × Nat)
  parts : Tab (List Nat)
  outs : List (Nat × Nat × Nat)
  done3 : List (Nat × Nat)
  deriving DecidableEq, Repr

/-- What one core holds that is no register and no memory. -/
structure CoreSt where
  fence : Nat
  gen : Gen
  seedLo : Nat
  fetched : List (Nat × Nat)
  cand : Option Cand
  ready : Option Issued
  prevId : Nat
  nextId : Nat
  window : List Issued
  held : Option Held
  loops : List LoopEnt
  calls : List Nat
  consumed : Nat
  stepRec : StepRec
  stopReq : StopReq
  sigs : List SigOut
  slotAddr : List Nat
  mx : Mx
  vx : Vx
  queue : Nat
  ring : Nat
  notices : List CtlMsg
  stage : Nat
  token : Bool
  stretched : Nat
  clkGated : Bool
  saving : Nat
  bufGen : Nat
  mcTransfer : Nat
  fillFor : Nat
  askedAt : Nat
  deriving DecidableEq, Repr

/-- A registered waiter of a sync cell (R279). -/
structure Waiter where
  site : Nat
  slot : Nat
  barrier : Bool
  thresh : Nat
  cons : Bool
  pool : Bool
  deriving DecidableEq, Repr

/-- A line of the stack cache: valid and dirty bits of its four sectors, the prefetched mark (R210 to R214). -/
structure CLine where
  tag : Nat
  valid : Nat
  dirty : Nat
  pf : Bool
  deriving DecidableEq, Repr

/-- A stream entry of the prefetchers (R214, R215). -/
structure PfEntry where
  used : Bool
  start : Nat
  run : Nat
  stride : Nat
  count : Nat
  master : Nat
  next : Nat
  reached : Nat
  last : Nat
  inflight : List Nat
  deriving DecidableEq, Repr

/-- A stack's own state beside its registers, cache and memory: requests waiting for a line, for a wake and for a migrated line; sectors being re-read with the re-reads made (R223); queued ACCUM contributions (R257); requests that stand behind an earlier one of a sector (R206); sectors whose clean cached copy failed its CRC (R223); generators (R219); losses of cause 1 within 1 s and FAILED channels (R224); the operation in progress, 1 a flush and 2 an invalidation (R213); a DIGEST's range and format as they stood at GO (R221); the destination of a migration (R231); throttle levels of temperature and cap; refreshes made per channel (R227). -/
structure StkSt where
  waitFill : List Pkt
  waitWake : List Pkt
  waitLine : List Pkt
  rereads : List (Nat × Nat)
  accq : List Pkt
  behind : List Pkt
  cleanBad : List Nat
  gens : Tab Gen
  losses : List (Nat × Nat × Nat)
  failed : List Nat
  flushOp : Nat
  dg : Nat × Nat × Nat
  mgTo : Nat
  thermLevel : Nat
  capLevel : Nat
  refreshes : Tab Nat
  deriving DecidableEq, Repr

/-- A request sent and not answered (R254). -/
structure Req where
  site : Nat
  unit : Nat
  pkt : Pkt
  tries : Nat
  why : Nat
  ref : Nat
  deriving DecidableEq, Repr

/-- A multicast copy that could not eject at the router of its target die (R260, R261): the site, the packet, when it first failed to eject, and whether it is in a branch hold slot or waits in the MCAST input buffer. -/
structure Hold where
  site : Nat
  pkt : Pkt
  since : Nat
  slot : Bool
  deriving DecidableEq, Repr

/-- A ramp notice at a CORE group: the core, ramp up or down, LEVEL, the time it applies, whether it has been applied (R141, R443). -/
structure RampN where
  site : Nat
  slot : Nat
  down : Bool
  level : Nat
  due : Nat
  applied : Bool
  deriving DecidableEq, Repr

/-- An event queue's own state (R353): the time before which no message is sent, a record not yet covered by a message, records dropped since the last 0xC105 and the time of that one plus 1. -/
structure EqSt where
  until_ : Nat
  uncovered : Bool
  dropped : Nat
  told : Nat
  deriving DecidableEq, Repr

/-- An entry of a queue that has been read and not retired (R321, R322): its index, its 64 bytes as a number, 0 waiting, 1 running or 2 complete, the virtual cores still to halt, the dies reserved (R323), the last core to halt. -/
structure QEnt where
  ix : Nat
  e : Nat
  st : Nat
  left : List Nat
  dies : List Nat
  lsite : Nat
  lslot : Nat
  deriving DecidableEq, Repr

/-- A queue's own state beside its registers (R318 to R325): the next index to read, the entries read, the next slot to grant, slots published beyond TAIL, the offending index plus 1; entries discarded by a flush that are still to be read for their work records: the first index and how many (R324). -/
structure QueueSt where
  rd : Nat
  ents : List QEnt
  resv : Nat
  pub : List Nat
  off : Nat
  dropAt : Nat
  dropN : Nat
  deriving DecidableEq, Repr

/-- The capabilities a host port's configuration space presents (R342). -/
inductive PciCap where
  | powerManagement | pciExpress | msix | aer | pasid | doe | cxlDevice | registerLocator | flexBusPort
  deriving DecidableEq, Repr

/-- The configuration space of the host ports (R342): Device ID, Class Code, the capabilities; the vendor ID of the CXL DVSECs; Cache_Capable, Mem_Capable, HDM_Count and the size of the one memory range. -/
structure CfgSpace where
  deviceId : Nat
  classCode : Nat
  caps : List PciCap
  dvsecVendor : Nat
  cacheCapable : Bool
  memCapable : Bool
  hdmCount : Nat
  memRange : Nat
  deriving DecidableEq, Repr

/-- What configuration space presents (R342). -/
def cfgReset : CfgSpace :=
  { deviceId := 0x4C01, classCode := 0x120000,
    caps := [.powerManagement, .pciExpress, .msix, .aer, .pasid, .doe, .cxlDevice, .registerLocator, .flexBusPort],
    dvsecVendor := 0x1E98, cacheCapable := true, memCapable := true, hdmCount := 2, memRange := 2 ^ 43 }

/-- A context's own state beside its record (R309, R310, R315, R316): the cores bound or being bound, by virtual core; the virtual cores whose notice is awaited; a binding in progress; a REMAP to be restored; a pre-emption that waits (0 none, 1 at a descriptor, 2 at a step boundary); the time it was first found blocked, plus 1; the sync cells released while it is SAVED, each by the virtual IDs that named it (R295); the time it was SAVED, plus 1; the cores it was bound to when it was SAVED (R190). -/
structure CtxSt where
  cores : List CoreId
  wait : List Nat
  binding : Bool
  remap : Bool
  pre : Nat
  blocked : Nat
  released : List (List Nat)
  savedAt : Nat
  was : List CoreId
  deriving DecidableEq, Repr

/-- What a drain in progress belongs to (R317, R497, R534). -/
inductive DrainKind where
  | core (c : CoreId)
  | cluster (site : Nat)
  | partition (p : Nat)
  | warm
  | cold
  | ctxReset (ctx : Nat)
  | ctxTeardown (ctx : Nat)
  | replay (p : Nat)
  deriving DecidableEq, Repr

/-- A drain in progress (R535): its scope, its cores, when it began. -/
structure Drain where
  kind : DrainKind
  cores : List CoreId
  start : Nat
  deriving DecidableEq, Repr

/-- A host request not yet answered (R350, R354): its number, port, path (1 BAR0, 3 BAR4, 4 CXL.mem), whether it writes, host address, length, PASID and master, the tags of the control messages still awaited and the words read; of a BAR0 read answered at the port, the earlier writes it waits for (R36). -/
structure HostReq where
  id : Nat
  port : Nat
  path : Nat
  write : Bool
  addr : Nat
  len : Nat
  pasid : Nat
  master : Nat
  site : Nat
  tags : List Nat
  got : List Nat
  after : List Nat
  deriving DecidableEq, Repr

/-- A doorbell held at a port behind earlier posted writes (R350): the port, the message, the PASID it came with, the requests it waits for. -/
structure HeldBell where
  port : Nat
  msg : CtlMsg
  pasid : Nat
  after : List Nat
  deriving DecidableEq, Repr

/-- A journal record not yet in a group (R529): its kind, panel time and payload. -/
structure JRec where
  kind : Nat
  time : Nat
  data : List Byte
  deriving DecidableEq, Repr

/-- One end of a Mesoax link (R245 to R247, R370, R373): charged reserved credits by (VC, lane), the VCs of the charged pool credits, oldest first, the times of its retrains, whether it is down for the rest of the power-on, whether this training is its first, and the LIVE masks of its ACTIVE bundles and their count before it. -/
structure LinkEnd where
  resv : List Nat
  pool : List Nat
  times : List Nat
  dead : Bool
  first : Bool
  before : List Nat
  active : Nat
  deriving DecidableEq, Repr

/-- One end of a bundle (R368, R369): SEQ of the next new flit, the replay buffer with the counter each flit was charged to, the SEQ expected, whether later flits are being discarded, NAKs sent for the expected SEQ, slots in a row that failed their CRC, slots since the last ACK, whether flits have arrived since then. -/
structure BundleEnd where
  next : Nat
  replay : List (Flit × Nat)
  expect : Nat
  nak : Bool
  naks : Nat
  failRun : Nat
  slots : Nat
  got : Bool
  deriving DecidableEq, Repr

/-- A Grove packet to send: the packet, the channel it belongs to (64 for none), the ring index of its entry. -/
structure GOut where
  p : GPkt
  chan : Nat
  ix : Nat
  deriving DecidableEq, Repr

/-- A Grove packet sent and not acknowledged (R389): how often it has been sent. -/
structure GSent where
  out : GOut
  sends : Nat
  deriving DecidableEq, Repr

/-- A connection record (R388, R389, R391): held in hardware, being fetched, next PSN, packets waiting and unacknowledged, APSN and the record of PSNs from it upward, packets and CE marks since the last ACK, the rate in Mb/s and the fraction as exact fractions, the time of the last cut plus 1, FAILED, the time of its last use. -/
structure ConnSt where
  hw : Bool
  fetching : Bool
  npsn : Nat
  waitq : List GOut
  unack : List GSent
  apsn : Nat
  got : Nat
  npkt : Nat
  ce : Nat
  rate : Option (Nat × Nat)
  alpha : Nat × Nat
  cut : Nat
  failed : Bool
  used : Nat
  deriving DecidableEq, Repr

/-- A transfer entry that a channel has read (R393, R394): its ring index and fields, whether it has started, its packets not yet acknowledged, and how far its SIGNAL is (0 not sent, 1 sent). -/
structure XEnt where
  ix : Nat
  op : Nat
  flags : Nat
  member : Nat
  die : Nat
  rchan : Nat
  fmt : Nat
  coef : Nat
  laddr : Nat
  raddr : Nat
  len : Nat
  started : Bool
  left : Nat
  sig : Nat
  deriving DecidableEq, Repr

/-- A transfer channel's own state (R392 to R395): its entries in ring order, whether its WAIT is registered, whether it was answered NOROOM, whether its signals are suppressed. -/
structure XChan where
  ents : List XEnt
  waiting : Bool
  noroom : Bool
  mute : Bool
  deriving DecidableEq, Repr

/-- The steward's own state of the grove (R399 to R406): the step all its cores have arrived at plus 1, the members that have arrived, when each member was last heard, each member's control die, the digests received. -/
structure GroveSt where
  step : Nat
  arrived : List Nat
  heard : Tab Nat
  ctl : Tab Nat
  digests : Tab (List Byte)
  deriving DecidableEq, Repr

/-- A cap's own state at a compute die or stack (R446, R447, R465): the next comparison is skipped; since when the average has stayed below 90% of the cap, plus 1; the effective cap E plus 1, 0 where none is set; the average power A of the last ramp window. -/
structure CapSt where
  skip : Bool
  since : Nat
  e : Nat
  avg : Nat
  deriving DecidableEq, Repr

/-- A compute die's frequency ladder (R417 to R420, R436): the step a change in progress leads to; whether DWELL has still to pass; whether the higher voltage is ready; the times of droop gates within 100 µs; ceiling steps taken off MON for droop and not given back. -/
structure Ladder where
  next : Nat
  dwell : Bool
  vready : Bool
  gates : List Nat
  low : Nat
  deriving DecidableEq, Repr

/-- The steward's own state of an epoch commit (R426, R427): the units of the commit; the units whose CANCEL or ROLLBACK is not confirmed; the T2 of a rollback; RESULT to be read at its end; further commits decided and not started, as mask, plot or stack replaced and its replacement (equal where none is); route entries that an intermediate set stands in for, as table (1 bulk, 3 sync), router, site and entry (R251). -/
structure EpSt where
  sites : List Nat
  wait : List Nat
  t2 : Nat
  result : Nat
  todo : List (Nat × Nat × Nat)
  saved : List (Nat × Nat × Nat × Option (Nat × Nat))
  deriving DecidableEq, Repr

/-- Grafts (R507 to R513): plot and stack grafts decided and not started, as kind and source plot; of the one in progress, the sites' former states, whether another destination has been tried, the stage within its step, the contexts stopped at its commit. -/
structure GfSt where
  todo : List (Nat × Nat)
  former : List (Nat × Nat)
  tried : Bool
  stage : Nat
  ctxs : List Nat
  deriving DecidableEq, Repr

/-- The steward's PTP client (R396, R425): the exchange in progress, when Sync left and arrived and when Delay_Req left, and whether it has locked. -/
structure PtpSt where
  seq : Nat
  t1 : Nat
  t2 : Nat
  t3 : Nat
  asked : Bool
  locked : Bool
  deriving DecidableEq, Repr

/-- A partition's replay (R497): how far it is (0 none, 1 stopping, 2 stopped and waiting for the grove, 3 its units acted on), the unit actions of R492 (0 spare core, 1 plot graft, 2 stack graft; site; slot or code), the grafts it needs, whether an input is lost (R502). -/
structure RpSt where
  stage : Nat
  acts : List (Nat × Nat × Nat)
  need : List (Nat × Nat)
  input : Bool
  deriving DecidableEq, Repr

/-- A site's temperatures (R461, R464, R465): its sensors' last readings, when its throttle last moved, when 0x8101 was last produced and since when it has been cool, each plus 1; its temperature at the ramp windows of the last second, oldest first. -/
structure ThSt where
  temps : List Nat
  moved : Nat
  told : Nat
  cool : Nat
  hist : List (Nat × Int)
  deriving DecidableEq, Repr

/-- The steward's watch over the coolant (R462, R463, R466, R467): failed reads in a row of the inlet, outlet and flow sensors and whether each has answered; reads in a row below 4 L/min and at or above 12 L/min; outlet readings of the last 250 ms; whether flow has been told low and below 12, since when it has been at or above 21, plus 1; whether the inlet is out of range; the median die temperature and input power of the last 250 ms, oldest first; the time of a declared loss plus 1. -/
structure TraySt where
  fails : List Nat
  seen : List Bool
  under : Nat
  back : Nat
  outlet : List (Nat × Int)
  toldLow : Bool
  toldShed : Bool
  overFor : Nat
  inletBad : Bool
  median : List (Nat × Int × Nat)
  lossAt : Nat
  deriving DecidableEq, Repr

/-- The sideband header (R480 to R487): PWR_EN, PANEL_RST_N and TRST_N as driven, PWR_GOOD, whether panel reset is held, why the regulators stay off (0 they do not, 1 the supply left its limits, 2 an emergency shed), which reference inputs are present (bit 0 A, bit 1 B), each die's JTAG instruction (0 IDCODE, 1 BYPASS, 2 SAMPLE/PRELOAD, 3 EXTEST) and boundary register. -/
structure PinSt where
  pwrEn : Bool
  rstN : Bool
  trstN : Bool
  pwrGood : Bool
  held : Bool
  lock : Nat
  refs : Nat
  ir : Tab Nat
  bsr : Tab Nat
  deriving DecidableEq, Repr

/-- Bring-up (R519 to R523, R533): the step in progress and the steward commanded, AUTO running, the step after whose failure only a reset follows, plots to be replaced by cold grafts, and the cold grafts being tested as plot and standby plot. -/
structure BrSt where
  run : Nat
  site : Nat
  auto : Bool
  failed : Nat
  lost : List Nat
  cold : List (Nat × Nat)
  deriving DecidableEq, Repr

/-- The security die (R549 to R559): the root public key kept, its measurement slots but for slot 0, the debug challenge with the port that asked and when it was drawn, whether steward firmware runs, what step 4 reported (0xB202, 0xB201). -/
structure SecSt where
  rootKey : List Byte
  slots : Tab (List Byte)
  challenge : List Byte
  port : Nat
  drawn : Nat
  running : Bool
  fallback : Bool
  torn : Bool
  deriving DecidableEq, Repr

end Sys2Proof.Machine
end

