-- ==== Sys2Proof/Machine/State.lean ====
section
/-! DEFINITION. The state of the panel: every register, memory, queue, buffer and mode spec/ gives it, as plain data, and the queue of waiting commands; State.reset is the panel right after panel reset (R482 step 5). -/

namespace Sys2Proof.Machine

/-- Reasons the machine stops. No command of this block stops: the constructor stands for a malformed state that no command makes, and nothing raises it (safe). -/
inductive Fault where
  | none
  deriving DecidableEq, Repr

/-- Reasons a command has no meaning. -/
inductive Refusal where
  /-- Raised by an arm of exec for a command that has no meaning yet (safe). -/
  | notModelled (mnemonic : String)
  deriving DecidableEq, Repr

/-- How a host request is answered (R348, R354): a completion with or without data, Completer Abort, Unsupported Request, MemData, MemData with Poison, Cmp, RspIHitI. -/
inductive HostAns where
  | data | done | abort | unsupported | memData | poison | cmp | rspIHitI
  deriving DecidableEq, Repr

/-- Messages in flight on the networks, and what the panel gives to the outside. -/
inductive Msg where
  | bulk (p : Pkt)
  | ctl (m : CtlMsg)
  | sync (m : SyncMsg)
  | errec (r : Rec)
  | regValue (site page off v : Nat)
  | hostWrite (port addr : Nat) (data : List Byte)
  | hostRead (port addr : Nat)
  | hostAnswer (port : Nat) (kind : HostAns) (data : List Byte)
  | doeAnswer (port : Nat) (words : List Nat)
  | mcast (site : Nat) (p : Pkt)
  | flit (site page bundle : Nat) (f : Flit)
  | linkCtl (site page bundle ctl arg : Nat)
  | guestOut (site : Nat) (p : Pkt)
  | guestCap (site code payload : Nat)
  | grove (site port sport : Nat) (dst : List Byte) (p : GPkt)
  | ptpOut (site port seq : Nat)
  | uartLine (bytes : List Byte)
  | jtag (site instr value : Nat)
  | localData (site slot store addr : Nat) (data : List Byte)
  deriving DecidableEq, Repr

/-- The state of the panel. -/
structure State where
  pending : List Instr
  nonce : Nat
  msgs : List Msg
  time : Nat
  drift : Tab Nat
  fld : Tab Nat
  bank : Tab Nat
  mem : Memory
  failing : List (Nat × Nat)
  lastDeny : Tab Nat
  cmem : Memory
  ework : Tab Nat
  dmem : Memory
  parBad : List (Nat × Nat)
  dmReread : List Reread
  regionPend : Tab Nat
  cores : Tab CoreSt
  waiters : Tab (List Waiter)
  xlt : Tab (List (Nat × Nat × Nat))
  cache : Tab CLine
  plru : Tab Nat
  pfs : Tab PfEntry
  stkRecs : Tab StkSt
  outst : List Req
  tagNext : Tab Nat
  accOut : Tab Nat
  mcGot : Tab Nat
  mcBad : Tab Nat
  mcFrom : Tab (List Nat)
  holds : List Hold
  eaUsed : Tab (Nat × Nat)
  active : Nat
  eqs : Tab EqSt
  msixTab : Memory
  msixPend : Tab Nat
  ramps : List RampN
  ctxs : Tab CtxSt
  queues : Tab QueueSt
  rr : Tab Nat
  held : Tab Nat
  flists : Tab (List (Nat × Nat × Nat))
  lifted : List Nat
  drains : List Drain
  rstRun : Option DrainKind
  admq : List CoreId
  substCore : Tab Nat
  substSite : List (Nat × Nat)
  substStack : List (Nat × Nat)
  rot : Tab Nat
  arrived : Tab (List (Nat × Nat × Nat))
  crds : List (Nat × Nat)
  crdWait : List (Nat × Nat)
  hostReqs : List HostReq
  hostNext : Nat
  ctlTag : Tab Nat
  bells : List HeldBell
  bellsOut : List HeldBell
  aer : List (Nat × Bool × Nat)
  hdm : Tab Nat
  d3 : List Nat
  cfg : CfgSpace
  doe : Tab (List Nat)
  store : Memory
  omap : Tab Nat
  jpend : List JRec
  jopen : List JRec
  jwant : Bool
  jseq : Nat
  jhead : Nat
  jtail : Nat
  jprev : List Byte
  jimg : Option (Nat × Nat)
  jtold : Bool
  jgen : Nat
  jbad : Nat × Nat
  ends : Tab LinkEnd
  lanes : Tab BundleEnd
  guestTold : Tab Nat
  conns : Tab ConnSt
  miss : Tab (List (Nat × GPkt))
  xchans : Tab XChan
  grove : GroveSt
  ticks : Nat
  pllLost : List Nat
  ladder : Tab Ladder
  ep : EpSt
  caps : Tab CapSt
  shed : Tab Nat
  offSites : List Nat
  cracked : List Nat
  ppLow : Nat
  ppOver : Nat
  ppFell : Nat
  ppRose : Nat
  ppMilli : Nat
  gf : GfSt
  regrow : List CoreId
  rp : Tab RpSt
  elog : List Rec
  intakeUntil : Nat
  intakeLost : Bool
  uart : List (List Byte)
  uartLost : Bool
  raEff : Tab Nat
  fatal : Bool
  ptp : PtpSt
  th : Tab ThSt
  tray : TraySt
  pins : PinSt
  br : BrSt
  fwbuf : Memory
  sec : SecSt
  logMark : Nat
  deriving DecidableEq, Repr

/-- The panel right after panel reset (R482 step 5): every register at its reset value, the standby domain powered, the I/O and guest dies and the plot field not (R482), memories empty, one reference input present. Values the spec does not give: log 2, 3, 4. -/
def State.reset : State :=
  { pending := [], nonce := 0, msgs := [], time := 0, drift := [], fld := [], bank := [], mem := [], failing := [], lastDeny := [],
    cmem := [], ework := [], dmem := [], parBad := [], dmReread := [], regionPend := [], cores := [], waiters := [], xlt := [],
    cache := [], plru := [], pfs := [], stkRecs := [], outst := [], tagNext := [], accOut := [], mcGot := [], mcBad := [], mcFrom := [], holds := [], eaUsed := [],
    active := 0, eqs := [], msixTab := [], msixPend := [], ramps := [], ctxs := [], queues := [], rr := [], held := [], flists := [],
    lifted := [], drains := [], admq := [], substCore := [], substSite := [], substStack := [], rot := [], arrived := [], crds := [], crdWait := [], rstRun := none,
    hostReqs := [], hostNext := 0, ctlTag := [], bells := [], bellsOut := [], aer := [], hdm := [], d3 := [], cfg := cfgReset, doe := [], store := [], omap := [], jpend := [],
    jopen := [], jwant := false, jseq := 0, jhead := 0, jtail := 0, jprev := [], jimg := none, jtold := false, jgen := 0, jbad := (0, 0),
    ends := [], lanes := [], guestTold := [], conns := [], miss := [], xchans := [],
    grove := { step := 0, arrived := [], heard := [], ctl := [], digests := [] },
    ticks := 0, pllLost := [], ladder := [], ep := { sites := [], wait := [], t2 := 0, result := 0, todo := [], saved := [] }, caps := [], shed := [],
    offSites := [288, 289, 290, 291, 292, 293, 294, 295, 296, 297, 298, 299, 300, 301, 302, 303, 320, 321, 322, 323],
    cracked := [], ppLow := 0, ppOver := 0, ppFell := 0, ppRose := 0, ppMilli := 0,
    gf := { todo := [], former := [], tried := false, stage := 0, ctxs := [] },
    regrow := [], rp := [], elog := [], intakeUntil := 0, intakeLost := false, uart := [], uartLost := false, raEff := [], fatal := false,
    ptp := { seq := 0, t1 := 0, t2 := 0, t3 := 0, asked := false, locked := false },
    th := [],
    tray := { fails := [0, 0, 0], seen := [false, false, false], under := 0, back := 0, outlet := [], toldLow := false, toldShed := false,
              overFor := 0, inletBad := false, median := [], lossAt := 0 },
    pins := { pwrEn := true, rstN := true, trstN := true, pwrGood := true, held := false, lock := 0, refs := 1, ir := [], bsr := [] },
    br := { run := 0, site := 306, auto := false, failed := 0, lost := [], cold := [] },
    fwbuf := [],
    sec := { rootKey := [], slots := [], challenge := [], port := 0, drawn := 0, running := false, fallback := false, torn := false },
    logMark := 0 }

end Sys2Proof.Machine
end

