-- ==== Sys2Proof/Machine/Ops.lean ====
section
/-! DEFINITION. The named operations over registers, cores, messages and free values that every command uses. -/

namespace Sys2Proof.Machine

/-- A register field at a place: its key in State.fld, width and reset value. -/
structure Loc where
  key : Key
  width : Nat
  rst : Nat
  deriving DecidableEq, Repr

/-- A field of a page of a site; `inst` is the page's distance from the first page of its run, `idx` the selected entry of an indirect register. -/
def Fld.at (f : Fld) (site : Nat) (inst : Nat := 0) (idx : Nat := 0) : Loc :=
  { key := [site, f.page + inst, f.bit, idx], width := f.width, rst := resetOf f.rst site (f.page + inst) idx }

/-- A field of a core's pages (R37: pages 0x40 + 4 × slot). -/
def Fld.core (f : Fld) (c : CoreId) : Loc := f.at c.site (4 * c.slot) 0

/-- A value kept as 0 when it is the reset value and as v + 1 otherwise, so that a register at reset is not listed. -/
def packField (rst v : Nat) : Nat := if v = rst then 0 else v + 1

/-- The value a kept number stands for. -/
def unpackField (rst : Nat) : Nat → Nat
  | 0 => rst
  | n + 1 => n

/-- Read a register field. -/
def State.rd (s : State) (l : Loc) : Nat := unpackField l.rst (tget 0 s.fld l.key)

/-- Write a register field; a value keeps the field's width. -/
def State.wr (s : State) (l : Loc) (v : Nat) : State :=
  { s with fld := tset 0 s.fld l.key (packField l.rst (v % 2 ^ l.width)) }

/-- Registers of some pages of a site back at their reset values, but for PG_HEALTH, which the steward maintains (R40). -/
def State.resetPages (s : State) (site : Nat) (pages : List Nat) : State :=
  { s with fld := tkeep s.fld (fun k => decide (¬ (k.headD 0 = site ∧ pages.contains (k.getD 1 0))) || decide (k.getD 2 0 / 32 = 14)) }

/-- Read a one-bit field. -/
def State.on (s : State) (l : Loc) : Bool := decide (s.rd l = 1)

/-- Add to a saturating counter. -/
def State.bump (s : State) (l : Loc) (n : Nat := 1) : State := s.wr l (satInc (s.rd l) l.width n)

/-- Add to a counter that wraps at its width. -/
def State.add (s : State) (l : Loc) (n : Nat) : State := s.wr l (s.rd l + n)

/-- A message sent: onto its network, or out of the panel. -/
def State.send (s : State) (m : Msg) : State := { s with msgs := s.msgs ++ [m] }

/-- A message that has arrived is in flight no longer. -/
def State.take (s : State) (m : Msg) : State := { s with msgs := s.msgs.erase m }

/-- A fresh free word (log 12) and the state whose counter has moved on. -/
def State.fresh (s : State) : Nat × State := ((Config.freeWord s.nonce).toNat, { s with nonce := s.nonce + 1 })

/-- Bytes of no stated value (log 12). -/
def State.freeBytes (s : State) (n : Nat) : List Byte × State :=
  loopN ((n + 3) / 4) (fun _ (a : List Byte × State) =>
    let w := a.2.fresh
    (a.1 ++ natLe w.1 4, w.2)) ([], s)

/-- An accumulation of terms by at most `k` additions, in an order and grouping that are free values (R72; log 64); with `b32` every sum is binary32. -/
def openSum (b32 : Bool) (nonce : Nat) : Nat → List Num → Num
  | 0, l => l.headD (.fin false 0 0)
  | k + 1, l => if l.length ≤ 1 then l.headD (.fin false 0 0) else openSum b32 nonce k (sumStep b32 (Config.freeOrder nonce k).toNat l)

/-- A sum of terms whose order and grouping the spec leaves open, rounded to binary32 at its end (R72 to R74; log 64). -/
def sumOpen (nonce : Nat) (terms : List Num) : Nat := toB32 (openSum false nonce terms.length terms)

/-- A sum formed in binary32, in an order the spec leaves open (R99, R170). -/
def sumBin32 (nonce : Nat) (terms : List Num) : Nat := toB32 (openSum true nonce terms.length terms)

/-- Panel time as a site's tick counter holds it (R421). -/
def State.now (s : State) (site : Nat) : Nat := (s.time + tget 0 s.drift [site]) % 2 ^ 64

/-- The site of the active steward (R522). -/
def State.steward (s : State) : Nat := if s.active = 0 then 306 else 307

/-- Its master ID (R302). -/
def State.stewardMaster (s : State) : Nat := if s.active = 0 then 1088 else 1089

/-- Is a master one of the stewards (R302). -/
def isSteward (m : Nat) : Bool := decide (m = 1088 ∨ m = 1089)

/-- An error is detected: its record, with the site's panel time, goes to the steward (R12, R266 ERREC). -/
def State.report (s : State) (r : Rec) : State :=
  s.send (.errec { r with time := s.now r.site })

/-- The matrix engine idle (R106). -/
def mxReset : Mx :=
  { active := false, id := 0, addr := 0, desc := 0, ix := [], trefs := [], tol := 10, check := true, segs := [], convs := [],
    frozen := [], blocks := [] }

/-- The vector engine idle (R175). -/
def vxReset : Vx :=
  { active := false, id := 0, addr := 0, desc := 0, ix := [], trefs := [], shadow := true, section_ := 3, pass := 0, band := 0,
    col := 0, pc := 0, icount := 0, rerun := [], preds := [], ckPreds := [], ins := [], snap := [], buf := [], ckBuf := [], wb := [], parts := [], outs := [], done3 := [] }

/-- An empty step restart record. -/
def stepRecReset : StepRec := { pc := 0, ix := [0, 0, 0, 0, 0, 0, 0], loops := [], calls := [], step := 0 }

/-- A core after core reset (R69: the generator is seeded with 0). -/
def coreReset : CoreSt :=
  { fence := 0, gen := genSeed 0, seedLo := 0, fetched := [], cand := none, ready := none, prevId := 0, nextId := 1,
    window := [], held := none, loops := [], calls := [], consumed := 0, stepRec := stepRecReset, stopReq := .none, sigs := [],
    slotAddr := [0, 0, 0, 0], mx := mxReset, vx := vxReset, queue := 0, ring := 0, notices := [], stage := 0, token := false,
    stretched := 0, clkGated := false, saving := 0, bufGen := 0, mcTransfer := 0, fillFor := 0, askedAt := 0 }

/-- A core's record. -/
def State.core (s : State) (c : CoreId) : CoreSt := tget coreReset s.cores [c.site, c.slot]

/-- A core's record replaced. -/
def State.setCore (s : State) (c : CoreId) (r : CoreSt) : State :=
  { s with cores := tset coreReset s.cores [c.site, c.slot] r }

/-- A core's record changed. -/
def State.onCore (s : State) (c : CoreId) (f : CoreSt → CoreSt) : State := s.setCore c (f (s.core c))

/-- CORE_STATE.STATE (R144). -/
def State.coreState (s : State) (c : CoreId) : Nat := s.rd (F.CORE_STATE_STATE.core c)

/-- CORE_STATE.STATE set; CORE_STOP clears when STATE leaves STOPPED (R144). -/
def State.setCoreState (s : State) (c : CoreId) (v : Nat) : State :=
  let s := s.wr (F.CORE_STATE_STATE.core c) v
  if v = 4 then s else s.wr (F.CORE_STOP_CODE.core c) 0

/-- The context bound to a core (R144 CORE_BIND). -/
def State.ctxOf (s : State) (c : CoreId) : Nat := s.rd (F.CORE_BIND_CTX.core c)

/-- CORE_BIND.BOUND. -/
def State.bound (s : State) (c : CoreId) : Bool := s.on (F.CORE_BIND_BOUND.core c)

/-- The site under whose number the registers of steward pages 0x21 to 0x25 are kept: they are the active steward's, whichever die that is (R38). -/
def stw : Nat := 306

/-- A 72-bit plot set of a partition (R336 PT_PLOTS0 to 2). -/
def State.plotSet (s : State) (p : Nat) : Nat :=
  let st := stw
  s.rd (F.PT_PLOTS0_PLOTS.at st 0 p) + (s.rd (F.PT_PLOTS1_PLOTS.at st 0 p)) <<< 32 + (s.rd (F.PT_PLOTS2_PLOTS.at st 0 p)) <<< 64

/-- Does a page take no new work: PG_CTL.QUIESCE (R40). -/
def State.quiesced (s : State) (site page : Nat) : Bool := s.on (F.PG_CTL_QUIESCE.at site page)

/-- SITE_STATE.STATE (R30). -/
def State.siteState (s : State) (site : Nat) : Nat := s.rd (F.SITE_STATE_STATE.at site)

/-- Is the site IN_SERVICE (R30). -/
def State.inService (s : State) (site : Nat) : Bool := decide (s.siteState site = 1)

/-- Does a stack serve requests: IN_SERVICE, or the source of a graft that has not been committed (R42, R231; DEDUCED, log 41). -/
def State.stackServes (s : State) (site : Nat) : Bool := s.inService site || (decide (s.siteState site = 4) && s.gf.former.contains (site, 1))

/-- Is the site's supply on: a plot site by its regulator group (R435, R456 RG_STAT.STATE), any other part unless it has tripped or is not turned on (R464, R520). -/
def State.powered (s : State) (site : Nat) : Bool :=
  if site < 288 then
    (if site % 4 = 3 then decide (s.rd (F.RG_STAT_STATE.at site 0 3) ≠ 3)
     else decide (s.rd (F.RG_STAT_STATE.at (4 * plotOf site + 3) 0 (site % 4)) = 1 ∨ s.rd (F.RG_STAT_STATE.at (4 * plotOf site + 3) 0 (site % 4)) = 2))
  else !(s.offSites.contains site)

/-- Is the site dark: a husk, powered down, or an unfitted guest site (R27). -/
def State.dark (s : State) (site : Nat) : Bool :=
  decide (s.siteState site = 3) || decide (partOf site = .noGuest) || !(s.powered site)

/-- Is a plot in service (R563): its regulator and both dies IN_SERVICE, and its memory served by its own stack or by the destination of a stack graft. -/
def State.plotInService (s : State) (subst : List (Nat × Nat)) (p : Nat) : Bool :=
  s.inService (4 * p) && s.inService (4 * p + 1) && s.inService (4 * p + 3) &&
    (s.inService (4 * p + 2) ||
      (subst.any (fun e => decide (e.1 = 4 * p + 2) && s.inService e.2)))

/-- Which physical copy of a table unit of a site is active (R44, R251). -/
def State.bankOf (s : State) (site unit : Nat) : Nat := tget 0 s.bank [site, unit]

/-- The copy of a table that a VIEW bit selects: 1 the pending table, 0 the active table. -/
def State.viewCopy (s : State) (site unit view : Nat) : Nat :=
  if view = 1 then 1 - s.bankOf site unit else s.bankOf site unit

/-- The copy in force. -/
def State.activeCopy (s : State) (site unit : Nat) : Nat := s.bankOf site unit

end Sys2Proof.Machine
end

