-- ==== Sys2Proof/Machine/Health.lean ====
section
/-! DEFINITION. Health scores (R504 to R506): charges, thresholds, and the record of a change of state. -/

namespace Sys2Proof.Machine

/-- Where a unit's score and state are kept: of a core in its CORE_CTL page, of a site in its SITE page, of a bundle in ML_BSTAT and beside it (R504). -/
inductive HUnit where
  | core (c : CoreId)
  | site (n : Nat)
  | bundle (site page b : Nat)
  deriving DecidableEq, Repr

/-- The score's register. -/
def HUnit.score : HUnit → Loc
  | .core c => F.PG_HEALTH_SCORE.at c.site (0x40 + 4 * c.slot)
  | .site n => F.PG_HEALTH_SCORE.at n
  | .bundle n page b => F.ML_BSTAT_SCORE.at n (page - 0x10) b

/-- The state's register; a bundle's is kept at its own index of the link's page. -/
def HUnit.state : HUnit → Loc
  | .core c => F.PG_HEALTH_STATE.at c.site (0x40 + 4 * c.slot)
  | .site n => F.PG_HEALTH_STATE.at n
  | .bundle n page b => F.PG_HEALTH_STATE.at n page (b + 1)

/-- The site of a unit. -/
def HUnit.at : HUnit → Nat
  | .core c => c.site
  | .site n => n
  | .bundle n _ _ => n

/-- The UNIT of a unit's record: the core slot, or 0xFF (R542). -/
def HUnit.unit : HUnit → Nat
  | .core c => c.slot
  | _ => 0xFF

/-- Is the unit in HUSK, and so without a score (R504). -/
def State.husked (s : State) (u : HUnit) : Bool :=
  match u with
  | .core c => (s.rd (F.SITE_HUSKCORES_HUSK.at c.site)).testBit c.slot || decide (s.siteState c.site = 3)
  | _ => decide (s.siteState u.at = 3)

/-- The next state of a score, 0 OK, 1 WATCH, 2 RETIRE (R506). -/
def State.healthNext (s : State) (st v : Nat) : Nat :=
  if st = 2 then 2
  else if v ≥ s.rd (F.HL_CFG_RETIRE.at stw) then 2
  else if st = 0 ∧ v ≥ s.rd (F.HL_CFG_WATCH.at stw) then 1
  else if st = 1 ∧ v < s.rd (F.HL_OK_OK.at stw) then 0
  else st

/-- A unit's score set, with the state that follows and its record 0xB305 (R506, R541). -/
def State.setScore (s : State) (u : HUnit) (v code : Nat) : State :=
  let st := s.rd u.state
  let nx := s.healthNext st v
  let s := s.wr u.score v
  if nx = st then s
  else (s.wr u.state nx).report { code := 0xB305, site := u.at, unit := u.unit, sev := 0, info0 := nx + v <<< 2, info1 := code }

/-- A charge of a weight (R504, R505). -/
def State.charge (s : State) (u : HUnit) (w code : Nat) : State :=
  if s.husked u then s else s.setScore u (min 0xFFFF (s.rd u.score + w)) code

/-- A second's decay of one score (R504). -/
def State.decay (s : State) (u : HUnit) : State :=
  let v := s.rd u.score
  if v = 0 then s else s.setScore u (v - max 1 (v >>> 6)) 0

end Sys2Proof.Machine
end

