-- ==== Sys2Proof/Machine/Memory.lean ====
section
/-! DEFINITION. Panel physical addresses (R42, R43), the access tables' checks (R327, R328, R331), and the operations on stack memory, core memory and die memory that every requester uses (R205 to R212, R223, R231). -/

namespace Sys2Proof.Machine

/-- Bytes of a stack: 96 GiB (R42). -/
def stackBytes : Nat := 0x1800000000

/-- The key of a stack byte in State.mem: the direct panel physical address (R42). -/
def stkAddr (p off : Nat) : Nat := p * 2 ^ 37 + off

/-- The channel of a stack offset (R205). -/
def chanOf (off : Nat) : Nat :=
  let l := off >>> 8
  (l ^^^ (l >>> 5) ^^^ (l >>> 10)) % 32

/-- The cache set of a line index (R205). -/
def setOf (l : Nat) : Nat := (l % 65536) ^^^ ((l >>> 16) % 65536)

/-- The cache tag of a line index (R205). -/
def tagOf (l : Nat) : Nat := l >>> 16

/-- A set of the active interleave table that holds A′ (R43): the lowest-numbered valid one. -/
def State.amFind (s : State) (site a : Nat) : Option Nat :=
  let cp := s.activeCopy site 0
  (List.range 64).find? (fun i =>
    let ix := 64 * cp + i
    let b := (s.rd (F.AM_BASE_BASE.at site 0 ix)) <<< 30
    let z := (s.rd (F.AM_SIZE_SIZE.at site 0 ix)) <<< 30
    s.on (F.AM_SET_VALID.at site 0 ix) && decide (b ≤ a ∧ a < b + z))

/-- The stack and offset of A′ in an interleave set (R43). -/
def State.amMap (s : State) (site i a : Nat) : Nat × Nat :=
  let ix := 64 * s.activeCopy site 0 + i
  let n := s.rd (F.AM_SET_N.at site 0 ix)
  let off := a - (s.rd (F.AM_BASE_BASE.at site 0 ix)) <<< 30
  let g := off >>> 12
  let p := s.rd (F.AM_LIST_P.at site 0 (64 * ix + g % n))
  (p, (s.rd (F.AM_START_START.at site 0 ix)) <<< 30 + (g / n) <<< 12 + off % 4096)

/-- Translation of a 48-bit panel physical address at a unit's site: the stack and offset, or the cause of 0x2202 (R42, R43, R207, R225). -/
def State.xlate (s : State) (site addr : Nat) : Except Nat (Nat × Nat) :=
  if addr.testBit 47 then
    match s.amFind site (addr % 2 ^ 47) with
    | some i => .ok (s.amMap site i (addr % 2 ^ 47))
    | none => .error 3
  else
    let p := bits addr 43 37
    let off := addr % 2 ^ 37
    if bits addr 46 44 ≠ 0 ∨ p > 71 ∨ off ≥ stackBytes then .error 1
    else if !(s.stackServes (4 * p + 2)) then .error 2
    else .ok (p, off)

/-- First address after the region of the panel space that holds an address (R118); none where the address is invalid. -/
def State.regionEnd (s : State) (site addr : Nat) : Option Nat :=
  match s.xlate site addr with
  | .error _ => none
  | .ok (p, _) =>
    if addr.testBit 47 then
      (s.amFind site (addr % 2 ^ 47)).map (fun i =>
        let ix := 64 * s.activeCopy site 0 + i
        2 ^ 47 + (s.rd (F.AM_BASE_BASE.at site 0 ix)) <<< 30 + (s.rd (F.AM_SIZE_SIZE.at site 0 ix)) <<< 30)
    else some (stkAddr p stackBytes)

/-- The index of a master's masks: register table 0, resource table 1 (R327). -/
def aclIdx (master table : Nat) : Nat := master + 4096 * table

/-- A master's right in a window of a table (R327). -/
def State.aclBit (s : State) (site table master w : Nat) (wr : Bool) : Bool :=
  decide (master ≤ 1111) &&
    (s.rd ((if wr then F.AC_WR else F.AC_RD).at site 0 (aclIdx master table))).testBit w

/-- A FENCE bit of a table (R332). -/
def State.fenceBit (s : State) (site table w : Nat) : Bool := (s.rd (F.AC_FENCE.at site 0 (4096 * table))).testBit w

/-- Stack window w holds all of the bytes (R327); an empty window holds none. -/
def State.winHolds (s : State) (site w off n : Nat) : Bool :=
  let b := s.rd (F.AC_WBASE_MIB.at site 0 w)
  let l := s.rd (F.AC_WLIMIT_MIB.at site 0 w)
  decide (b ≤ l ∧ b <<< 20 ≤ off ∧ off + n ≤ (l + 1) <<< 20)

/-- Stack window w holds some of the bytes (R332). -/
def State.winTouches (s : State) (site w off n : Nat) : Bool :=
  let b := s.rd (F.AC_WBASE_MIB.at site 0 w)
  let l := s.rd (F.AC_WLIMIT_MIB.at site 0 w)
  decide (b ≤ l ∧ b <<< 20 < off + n ∧ off < (l + 1) <<< 20)

/-- The check of a stack request (R208, R327, R328, R332): none to pass, else the code, cause and window. Traffic with master 0xFFF is not checked (R303). -/
def State.stkCheck (s : State) (site master : Nat) (wr : Bool) (off n : Nat) : Option (Nat × Nat × Nat) :=
  if master = 0xFFF then none
  else
    let fenced := (List.range 64).find? (fun w => s.fenceBit site 1 w && s.winTouches site w off n)
    match (if wr && !(isSteward master) then fenced else none) with
    | some w => some (0x5202, 0, w)
    | none =>
      if (List.range 64).any (fun w => s.winHolds site w off n && s.aclBit site 1 master w wr) then none
      else
        match (List.range 64).find? (fun w => s.winHolds site w off n) with
        | some w => some (0x5201, if wr then 2 else 1, w)
        | none => some (0x5201, 3, 0)

/-- A refusal is counted and latched, and recorded at most once per master in any 1 ms (R328, R335). -/
def State.deny (s : State) (site table master : Nat) (wr : Bool) (v : Nat × Nat × Nat) (type addr rsite rslot : Nat) : State :=
  let (code, cause, w) := v
  let s := s.bump (F.AC_DENY_COUNT.at site)
  let s := s.wr (F.AC_LAST_MASTER.at site) master
  let s := s.wr (F.AC_LAST_WINDOW.at site) w
  let s := s.wr (F.AC_LAST_TABLE.at site) table
  let s := s.wr (F.AC_LAST_WRITE.at site) (bnat wr)
  let s := s.wr (F.AC_LAST_FENCED.at site) (bnat (decide (code = 0x5202)))
  let seen := tget 0 s.lastDeny [site, master]
  if seen ≠ 0 ∧ s.now site < (seen - 1) + 1000000 then s
  else
    let s := { s with lastDeny := tset 0 s.lastDeny [site, master] (s.now site + 1) }
    s.report { code := code, site := site, unit := 0xFF, sev := 2, master := master,
               info0 := w + table * 64 + bnat wr * 128 + cause <<< 8 + type <<< 12,
               info1 := addr % 2 ^ 32, info2 := (addr >>> 32) % 65536 + rsite <<< 16 + rslot <<< 25 }

/-- A stack's own record. -/
def stkReset : StkSt :=
  { waitFill := [], waitWake := [], waitLine := [], rereads := [], accq := [], behind := [], cleanBad := [],
    gens := [], losses := [], failed := [], flushOp := 0, dg := (0, 0, 0), mgTo := 0, thermLevel := 0, capLevel := 0, refreshes := [] }

/-- Read a stack's record. -/
def State.stk (s : State) (p : Nat) : StkSt := tget stkReset s.stkRecs [p]

/-- Replace a stack's record. -/
def State.setStk (s : State) (p : Nat) (r : StkSt) : State := { s with stkRecs := tset stkReset s.stkRecs [p] r }

/-- A stochastic generator of a stack, as seeded at power-up: σ = (site << 8) | c (R219). -/
def State.stkGen (s : State) (p c : Nat) : Gen := tget (genSeed ((4 * p + 2) * 256 + c)) (s.stk p).gens [c]

/-- A stack's generator replaced. -/
def State.setStkGen (s : State) (p c : Nat) (g : Gen) : State :=
  s.setStk p { s.stk p with gens := tset (genSeed ((4 * p + 2) * 256 + c)) (s.stk p).gens [c] g }

/-- An invalid cache line. -/
def lineReset : CLine := { tag := 0, valid := 0, dirty := 0, pf := false }

/-- A line of the stack cache. -/
def State.cline (s : State) (p set way : Nat) : CLine := tget lineReset s.cache [p, set, way]

/-- A line of the stack cache replaced. -/
def State.setLine (s : State) (p set way : Nat) (l : CLine) : State := { s with cache := tset lineReset s.cache [p, set, way] l }

/-- The way that holds a line, if one does (R210). -/
def State.cacheWay (s : State) (p l : Nat) : Option Nat :=
  (List.range 16).find? (fun w => let c := s.cline p (setOf l) w; decide (c.valid ≠ 0 ∧ c.tag = tagOf l))

/-- The pseudo-LRU victim of a set's 15-bit tree (R210); the tree's form is PRESUMED, log 13. -/
def plruVictim (t : Nat) : Nat := loopN 4 (fun _ n => 2 * n + bnat (t.testBit (n - 1))) 1 - 16

/-- The tree after a touch of a way: every node on its path points away from it. -/
def plruTouch (t way : Nat) : Nat :=
  loopN 4 (fun k t =>
    let n := (16 + way) >>> (4 - k)
    let d := ((16 + way) >>> (3 - k)) % 2
    if d = 1 then clrBit t (n - 1) else setBit t (n - 1)) t

/-- A set's tree touched. -/
def State.plruUse (s : State) (p set way : Nat) : State :=
  { s with plru := tset 0 s.plru [p, set] (plruTouch (tget 0 s.plru [p, set]) way) }

/-- The way a new line takes: the way it is in, else an invalid way, else the pseudo-LRU victim (R210, R211). -/
def State.wayFor (s : State) (p l : Nat) : Nat :=
  match s.cacheWay p l with
  | some w => w
  | none =>
    match (List.range 16).find? (fun w => (s.cline p (setOf l) w).valid == 0) with
    | some w => w
    | none => plruVictim (tget 0 s.plru [p, setOf l])

/-- A line evicted: its dirty sectors go to DRAM, which State.mem already holds; a line still marked prefetched counts in PF_UNUSED (R211, R214). -/
def State.evict (s : State) (p set way : Nat) : State :=
  let c := s.cline p set way
  let s := if c.valid ≠ 0 ∧ c.pf then s.bump (F.PF_UNUSED_COUNT.at (4 * p + 2)) else s
  s.setLine p set way lineReset

/-- A line allocated with the given valid and dirty sectors; sectors already valid keep their state (R211). -/
def State.allocLine (s : State) (p l valid dirty : Nat) (pf : Bool) : State :=
  let set := setOf l
  let w := s.wayFor p l
  let s := if (s.cacheWay p l).isNone then s.evict p set w else s
  let c := s.cline p set w
  let keep := if c.valid = 0 then pf else c.pf && pf
  let l' : CLine := { tag := tagOf l, valid := c.valid ||| valid, dirty := c.dirty ||| dirty, pf := keep }
  (s.setLine p set w l').plruUse p set w

/-- Is a sector valid in the cache. -/
def State.cached (s : State) (p sec : Nat) : Bool :=
  match s.cacheWay p (sec >>> 2) with
  | some w => (s.cline p (setOf (sec >>> 2)) w).valid.testBit (sec % 4)
  | none => false

/-- A demand touch clears the prefetched mark and counts it used, and moves its stream's reach and idle time (R214). -/
def State.pfTouch (s : State) (p l : Nat) : State :=
  let site := 4 * p + 2
  let s :=
    match s.cacheWay p l with
    | some w =>
      let c := s.cline p (setOf l) w
      if c.pf then (s.bump (F.PF_USED_COUNT.at site)).setLine p (setOf l) w { c with pf := false } else s
    | none => s
  { s with pfs := s.pfs.map (fun e =>
      match e.1 with
      | [q, _] =>
        let v := e.2
        let inRun := decide (v.start ≤ l ∧ (v.stride = 0 ∨ (l - v.start) / v.stride < v.count) ∧
          (if v.stride = 0 then l - v.start else (l - v.start) % v.stride) < v.run)
        let pos := if v.stride = 0 then l - v.start else (l - v.start) / v.stride * v.run + (l - v.start) % v.stride
        if q = p ∧ v.used ∧ inRun then (e.1, { v with reached := max v.reached (pos + 1), last := s.now site }) else e
      | _ => e) }

/-- CRC-16 of bytes (R222): polynomial 0x8BB7, initial value 0. -/
def crc16 (l : List Byte) : Nat :=
  l.foldl (fun c b => loopN 8 (fun _ c => if c.testBit 15 then ((c <<< 1) ^^^ 0x8BB7) % 65536 else (c <<< 1) % 65536) (c ^^^ (b.toNat <<< 8))) 0

/-- The CRC-16 of a sector's contents (R222): its 64 data bytes, then its number, least significant byte first. -/
def State.sectorCrc (s : State) (p sec : Nat) : Nat := crc16 (mgetN s.mem (stkAddr p (64 * sec)) 64 ++ natLe sec 4)

/-- The CRC kept with a sector, in the channel's check bits and in the cache alike (R210, R222): that of its contents, or that inverted while the sector is left failing (R223; of one that is left as it was stored the spec gives no CRC, log 63). -/
def State.storedCrc (s : State) (p sec : Nat) : Nat :=
  if s.failing.any (fun e => e.1 == p * 2 ^ 31 + sec) then 65535 - s.sectorCrc p sec else s.sectorCrc p sec

/-- The cause for which a sector's reads fail: the CRC kept with it does not pass, since it was lost (R222, R223), or its channel is FAILED (R224). A sector lost with cause 2 or 3 keeps that cause for its later reads: "in the same way" (R223; DESIGN CHOICE, log 63). -/
def State.lostCause (s : State) (p sec : Nat) : Option Nat :=
  if (s.stk p).failed.contains (chanOf (sec <<< 6)) then some 4
  else (s.failing.find? (fun e => e.1 == p * 2 ^ 31 + sec)).bind (fun e => if s.storedCrc p sec = s.sectorCrc p sec then none else some e.2)

/-- The sectors of a line that a fill makes valid: all but those whose reads fail (R211, R223). -/
def State.fillMask (s : State) (p l : Nat) : Nat :=
  (List.range 4).foldl (fun v i => if (s.lostCause p (4 * l + i)).isSome then v else setBit v i) 0

/-- A sector is left failing (R223). -/
def State.setFailing (s : State) (p sec cause : Nat) : State :=
  let k := p * 2 ^ 31 + sec
  { s with failing := (k, cause) :: s.failing.filter (fun e => decide (e.1 ≠ k)) }

/-- A whole-sector write replaces a failing sector (R223). -/
def State.cureSector (s : State) (p sec : Nat) : State :=
  { s with failing := s.failing.filter (fun e => decide (e.1 ≠ p * 2 ^ 31 + sec)) }

/-- The record of 0x2205, whose requester is the steward that wrote the command, and of 0x2206 (R225, R226). -/
def State.nmeRecord (s : State) (site code cause op sec : Nat) : State :=
  s.report { code := code, site := site, unit := 0xFF, sev := 2, master := if code = 0x2205 then s.stewardMaster else 0xFFF, info0 := sec, info1 := cause + op <<< 4 }

/-- The destination of a stack's migration, as it stood at START (R231). -/
def State.mgDest (s : State) (site : Nat) : Nat := (s.stk (site / 4)).mgTo

/-- The copying and forwarding of a stack's migration stop, the destination is GRAFT_PENDING again, and the writes that waited for the line being copied are the next to go on (R231). -/
def State.mgDrop (s : State) (site : Nat) : State :=
  let k := s.stk (site / 4)
  let s := if k.waitLine.isEmpty then s else s.setStk (site / 4) { k with waitLine := [], behind := k.waitLine ++ k.behind }
  (s.wr (F.NM_STAT_MG_ACTIVE.at site) 0).wr (F.SITE_STATE_STATE.at (4 * s.mgDest site + 2)) 4

/-- The sources that copy or forward to a stack (R231). -/
def State.mgSources (s : State) (site : Nat) : List Nat :=
  allStacks.filter (fun x => s.on (F.NM_STAT_MG_ACTIVE.at x) && decide (4 * s.mgDest x + 2 = site))

/-- A stack fails as a destination: every migration to it ends with 0x2206 (R225, R231). -/
def State.mgFailTo (s : State) (site : Nat) : State :=
  each (s.mgSources site) (fun x s => (s.mgDrop x).nmeRecord x 0x2206 0 7 (4 * s.rd (F.MG_PTR.at x))) s

/-- The lines still to be read for a stream entry: line number n of the stream (R215). -/
def PfEntry.line (e : PfEntry) (n : Nat) : Nat := e.start + n / (max e.run 1) * e.stride + n % (max e.run 1)

/-- Lines of a stream, cut at the end of the stack (R215). -/
def PfEntry.total (e : PfEntry) : Nat := e.run * e.count

/-- A stream entry of a stack, or an unused one. -/
def pfReset : PfEntry := { used := false, start := 0, run := 0, stride := 0, count := 0, master := 0, next := 0, reached := 0, last := 0, inflight := [] }

/-- A stream entry. -/
def State.pfe (s : State) (p e : Nat) : PfEntry := tget pfReset s.pfs [p, e]

/-- A stream entry replaced; PF_ACTIVE follows (R233). -/
def State.setPfe (s : State) (p e : Nat) (v : PfEntry) : State :=
  let m := s.rd (F.PF_ACTIVE.at (4 * p + 2))
  ({ s with pfs := tset pfReset s.pfs [p, e] v }).wr (F.PF_ACTIVE.at (4 * p + 2)) (if v.used then setBit m e else clrBit m e)

/-- An entry issues line reads up to AHEAD beyond the highest line touched, and is freed when its stream is exhausted (R214). -/
def State.pfIssue (s : State) (p e : Nat) : State :=
  let site := 4 * p + 2
  let ahead := s.rd (F.PF_CFG_AHEAD.at site)
  let s := loopN 65 (fun _ s =>
    let v := s.pfe p e
    if !v.used ∨ v.next ≥ v.total ∨ v.next ≥ v.reached + ahead ∨ v.line v.next ≥ stackBytes / 256 then s
    else
      let l := v.line v.next
      if (s.cacheWay p l).isSome then s.setPfe p e { v with next := v.next + 1 }
      else (s.bump (F.PF_ISSUED_COUNT.at site)).setPfe p e { v with next := v.next + 1, inflight := v.inflight ++ [l] }) s
  let v := s.pfe p e
  if v.used ∧ (v.next ≥ v.total ∨ v.line v.next ≥ stackBytes / 256) ∧ v.inflight.isEmpty then s.setPfe p e pfReset else s

/-- Every entry of a stack goes on. -/
def State.pfGo (s : State) (p : Nat) : State :=
  if s.pfs.any (fun e => e.1.head? == some p) then loopN 64 (fun e s => if (s.pfe p e).used then s.pfIssue p e else s) s else s

/-- Is a line's prefetch in flight. -/
def State.pfInflight (s : State) (p l : Nat) : Bool := s.pfs.any (fun e => e.1.head? == some p && e.2.inflight.contains l)

/-- The re-reads a loss has had: those of R223, and none where the channel is FAILED (R224, R226). -/
def lossRereads (cause : Nat) : Nat := if cause = 4 then 0 else 2

/-- The record of a lost sector (R225, R226), its counters, and R224's count of distinct losses of cause 1 in 1 s. -/
def State.lossRecord (s : State) (p sec cause op rereads master : Nat) : State :=
  let site := 4 * p + 2
  let ch := chanOf (sec <<< 6)
  let s := s.bump (F.CH_CRC_LOST_COUNT.at site ch)
  let s := s.wr (F.CH_LAST_LOST_SECTOR.at site ch) sec
  let s := s.report { code := 0x2201, site := site, unit := ch, sev := 1, master := master, info0 := sec,
                      info1 := cause + op <<< 4 + rereads <<< 8 }
  if cause ≠ 1 then s
  else
    let k := s.stk p
    let t := s.now site
    let recent := k.losses.filter (fun e => decide (t < e.2.2 + 1000000000))
    if recent.any (fun e => e.1 == sec) then s
    else
      let ls := recent ++ [(sec, ch, t)]
      let n := (ls.filter (fun e => e.2.1 == ch)).length
      let s := s.setStk p { k with losses := ls }
      if n ≥ 16 ∧ ¬ (k.failed.contains ch) then
        let k := s.stk p
        let s := s.setStk p { k with failed := k.failed ++ [ch] }
        let s := s.wr (F.CH_STATE_STATE.at site ch) 4
        let s := s.wr (F.PG_HEALTH_STATE.at site) 2
        (s.report { code := 0x2204, site := site, unit := ch, sev := 2, info0 := sec }).mgFailTo site
      else s

/-- Who asks: the master ID the unit stamps, the site and unit, and the bulk TYPE of the request (R303, R335). -/
structure Asker where
  master : Nat
  site : Nat
  slot : Nat
  type : Nat
  op : Nat
  deriving DecidableEq, Repr

/-- The migration destination of a stack whose copying or forwarding is in progress, for a sector below MG_PTR (R231). -/
def State.mgTarget (s : State) (p off : Nat) : Option Nat :=
  let site := 4 * p + 2
  if s.on (F.NM_STAT_MG_ACTIVE.at site) && decide (off < (s.rd (F.MG_PTR.at site)) <<< 8) then
    some (s.mgDest site)
  else none

/-- Bytes put into a stack, and the resulting sector forwarded to a migration destination, where it enters the cache as a whole-sector write (R211, R231). -/
def State.secPut (s : State) (p off : Nat) (bs : List Byte) : State :=
  let s := { s with mem := msetN s.mem (stkAddr p off) bs }
  match s.mgTarget p off with
  | none => s
  | some d =>
    let sec := off >>> 6
    let s := ({ s with mem := msetN s.mem (stkAddr d (64 * sec)) (mgetN s.mem (stkAddr p (64 * sec)) 64) } : State).cureSector d sec
    s.allocLine d (sec >>> 2) (1 <<< (sec % 4)) (1 <<< (sec % 4)) false

/-- Write bytes inside one sector at its stack (R206, R208, R211, R223): a whole sector replaces it, a part merges and is refused on a failing sector. -/
def State.secWrite (s : State) (q : Asker) (p off : Nat) (bs : List Byte) : Except Nat Unit × State :=
  let site := 4 * p + 2
  match s.stkCheck site q.master true off bs.length with
  | some v => (.error v.1, s.deny site 1 q.master true v q.type off q.site q.slot)
  | none =>
    let sec := off >>> 6
    let whole := decide (bs.length = 64 ∧ off % 64 = 0)
    let chFail := (s.stk p).failed.contains (chanOf off)
    if chFail then (.error 0x2201, s.lossRecord p sec 4 q.op 0 q.master)
    else if !whole && (s.lostCause p sec).isSome then (.error 0x2201, s.lossRecord p sec 5 q.op 0 q.master)
    else
      let s := if whole then s.cureSector p sec else s
      let hit := s.cached p sec
      let s := if hit then s.add (F.SC_HIT.at site) 1 else if whole then s else s.add (F.SC_MISS.at site) 1
      let s := s.pfTouch p (sec >>> 2)
      let s := s.allocLine p (sec >>> 2) (if whole || hit then 1 <<< (sec % 4) else s.fillMask p (sec >>> 2)) (1 <<< (sec % 4)) false
      (.ok (), (s.secPut p off bs).pfGo p)

/-- Does a unit's node hold a valid route to a site (R250, R252); a site needs none to itself. -/
def State.routed (s : State) (src dest : Nat) : Bool :=
  decide (src = dest) || s.on (F.BK_RT_ENTRY_VALID.at src 0 (512 * s.activeCopy src 1 + dest))

/-- The record of a destination without a route (R273, R274). -/
def State.noRoute (s : State) (q : Asker) (addr dest : Nat) : State :=
  s.report { code := 0x3103, site := q.site, unit := if q.slot = 0x1F then 0xFF else q.slot, sev := 2, master := q.master, info0 := dest,
             info1 := addr % 2 ^ 32, info2 := (addr >>> 32) % 65536 }

/-- The record of an invalid panel address (R225, R226). -/
def State.badAddr (s : State) (q : Asker) (addr cause : Nat) : State :=
  s.report { code := 0x2202, site := q.site, unit := 0xFF, sev := 2, master := q.master, info0 := addr % 2 ^ 32,
             info1 := cause + q.op <<< 4, info2 := (addr >>> 32) % 65536 }

/-- The key of a core-memory byte (R178). -/
def coreAddr (c : CoreId) (a : Nat) : Nat := (c.site * 32 + c.slot) * 2 ^ 23 + a

/-- The key of a die-memory byte (R179). -/
def dieAddr (site a : Nat) : Nat := site * 2 ^ 26 + a

/-- A core-memory write, with CB_STAT.HWM (R199): the number of 64 KiB units up to the highest written. -/
def State.corePut (s : State) (c : CoreId) (a : Nat) (bs : List Byte) : State :=
  let s := { s with cmem := msetN s.cmem (coreAddr c a) bs,
                    parBad := s.parBad.filter (fun e => decide (¬ (e.1 = 0 ∧ coreAddr c a ≤ e.2 ∧ e.2 < coreAddr c a + bs.length))) }
  s.wr (F.CB_STAT_HWM.core c) (max (s.rd (F.CB_STAT_HWM.core c)) ((a + bs.length + 65535) / 65536))

/-- A die-memory write (R179); it also makes the parity of its words good again (R194). -/
def State.diePut (s : State) (site a : Nat) (bs : List Byte) : State :=
  { s with dmem := msetN s.dmem (dieAddr site a) bs,
           parBad := s.parBad.filter (fun e => decide (¬ (e.1 = 1 ∧ dieAddr site a ≤ e.2 ∧ e.2 < dieAddr site a + bs.length))) }

/-- A bad word of a store within a range of keys: its key (R194). -/
def State.badWord (s : State) (store key n : Nat) : Option Nat :=
  (s.parBad.find? (fun e => decide (e.1 = store ∧ key ≤ e.2 + 3 ∧ e.2 < key + n))).map (fun e => e.2)

/-- A word's parity is bad from now on (R195): the store (0 core memory, 1 die memory, 2 a word of an engine store) and the key of its first byte. -/
def State.setBad (s : State) (store key : Nat) : State := { s with parBad := (store, key) :: s.parBad.filter (fun e => decide (e ≠ (store, key))) }

/-- The store of a word of the operand buffers, the accumulators, the register file, the program store and the predicate latches, by its core-local address (R178, R179, R198); none outside them. -/
def engStore (a : Nat) : Option Nat :=
  if a < 0x400000 then none else if a < 0x430000 then some 2 else if a < 0x460000 then some 3 else if a < 0x4A0000 then some 4
  else if a < 0x4A2000 then some 5 else if a < 0x4A4000 then some 6 else if a < 0x4A8000 then some 7 else if a < 0x4B0000 then some 8
  else if a < 0x4B2000 then some 9 else if a < 0x4B2800 then some 5 else none

/-- A word of the engine stores of a core (R177, R178). -/
def State.eng (s : State) (c : CoreId) (a : Nat) : Nat := tget 0 s.ework [c.site, c.slot, a]

/-- A word of the engine stores written, with good parity (R194). -/
def State.engSet (s : State) (c : CoreId) (a v : Nat) : State :=
  { s with ework := tset 0 s.ework [c.site, c.slot, a] (v % 2 ^ 32),
           parBad := s.parBad.filter (fun e => decide (e ≠ (2, coreAddr c a))) }

/-- A word of an engine store has good parity again. -/
def State.engGood (s : State) (c : CoreId) (a : Nat) : State := { s with parBad := s.parBad.filter (fun e => decide (e ≠ (2, coreAddr c a))) }

/-- A range of the engine stores holds zeros (R149, R155, R310). -/
def State.engZero (s : State) (c : CoreId) (a n : Nat) : State :=
  { s with ework := tkeep s.ework (fun k => !(k.take 2 == [c.site, c.slot] && decide (a ≤ k.getD 2 0 ∧ k.getD 2 0 < a + n))),
           parBad := s.parBad.filter (fun e => decide (¬ (e.1 = 2 ∧ coreAddr c a ≤ e.2 ∧ e.2 < coreAddr c (a + n)))) }

/-- Bytes of an engine store from a word's address on. -/
def State.engBytes (s : State) (c : CoreId) (a n : Nat) : List Byte := (List.range (n / 4)).flatMap (fun i => natLe (s.eng c (a + 4 * i)) 4)

/-- Bytes put into an engine store, whole words. -/
def State.engPut (s : State) (c : CoreId) (a : Nat) (bs : List Byte) : State :=
  loopN (bs.length / 4) (fun i s => s.engSet c (a + 4 * i) (leNat ((bs.drop (4 * i)).take 4))) s

/-- A word of an engine store has failed and stands so until it is next written (R195). -/
def State.engFail (s : State) (c : CoreId) (a : Nat) : State := s.setBad 2 (coreAddr c (a / 4 * 4))

/-- A parity event's record (R195, R198): `store` and address of INFO0, with RESIDENT. -/
def State.parityRecord (s : State) (c : CoreId) (code sev store addr : Nat) (resident : Bool) (w : Who) : State :=
  s.report { code := code, site := c.site, unit := c.slot, sev := sev, master := if s.bound c then s.ctxOf c else 0xFFF,
             info0 := addr % 2 ^ 26 + store <<< 26 + bnat resident <<< 30,
             info1 := (w.daddr >>> 32) % 65536 + w.op <<< 16 + w.req <<< 24, info2 := w.daddr % 2 ^ 32 }

/-- Is a core-memory address in the resident part (R189). -/
def State.cmResident (s : State) (c : CoreId) (a : Nat) : Bool := decide (a < s.rd (F.CB_RES_RES.core c) * 65536)

/-- Is a die-memory address in a resident region (R189). -/
def State.dmResident (s : State) (site a : Nat) : Bool := s.on (F.DIEMEM_REGION_RESIDENT.at site 0 (a / 0x100000))

/-- A core-memory word is lost (R195). -/
def State.cmLost (s : State) (c : CoreId) (a : Nat) (w : Who) : State :=
  let res := s.cmResident c a
  let s := s.bump (F.CB_LOST_COUNT.core c)
  let s := if res then s.wr (F.CB_STAT_RES_LOST.core c) 1 else s
  s.parityRecord c 0x2101 1 0 a res w

/-- A die-memory word is lost (R195). -/
def State.dmLost (s : State) (c : CoreId) (a : Nat) (w : Who) : State :=
  let res := s.dmResident c.site a
  let s := s.bump (F.DIEMEM_LOST_COUNT.at c.site)
  let s := if res then s.wr (F.DIEMEM_REGION_RES_LOST.at c.site 0 (a / 0x100000)) 1 else s
  s.parityRecord c 0x2102 1 1 a res w

end Sys2Proof.Machine
end

