-- ==== Sys2Proof/Machine/Packet.lean ====
section
/-! DEFINITION. Packets of the bulk network (R240 to R243), requests and their tags (R254, R256), and the control messages the units send (R266, R326). -/

namespace Sys2Proof.Machine

/-- Header bytes 0 to 59 of a packet (R241). -/
def pktHeader (p : Pkt) : List Byte :=
  natLe p.type 1 ++ natLe (p.vc % 4 + (p.lane % 2) <<< 2) 1 ++ natLe (p.dest % 512 + (p.dunit % 32) <<< 9) 2 ++ natLe (p.src % 512 + (p.sunit % 32) <<< 9) 2 ++
    natLe (p.master % 4096) 2 ++ natLe p.addr 6 ++ natLe (p.len % 128) 1 ++
    natLe (p.space % 4 + (p.fmt % 16) <<< 2 + bnat p.rnd <<< 6 + bnat p.ovf <<< 7) 1 ++ natLe p.tag 2 ++ natLe p.fence 2 ++
    natLe (p.group % 4096) 2 ++ natLe p.xfer 2 ++ natLe p.count 2 ++ natLe p.bmask 8 ++ natLe p.status 2 ++
    (p.inl ++ List.replicate 24 0).take 24

/-- One byte into a reflected CRC-32 (R243). -/
def crcByte (crc : Nat) (b : Byte) : Nat :=
  loopN 8 (fun _ c => if c % 2 = 1 then (c / 2) ^^^ 0xEDB88320 else c / 2) (crc ^^^ b.toNat)

/-- The IEEE 802.3 CRC-32 of bytes (R243). -/
def crc32 (l : List Byte) : Nat := (l.foldl crcByte 0xFFFFFFFF) ^^^ 0xFFFFFFFF

/-- The CRC of a packet: over its header with byte 1 taken as zero, then its data flits (R243). -/
def pktCrc (p : Pkt) : Nat := crc32 (pktHeader { p with vc := 0, lane := 0 } ++ p.data)

/-- Flits of a packet: its header and its data flits (R240). LEN of a READ counts the data flits asked for (DEDUCED, log 15). -/
def pktFlits (p : Pkt) : Nat := 1 + (p.data.length + 63) / 64

/-- A packet with its CRC, as its source sends it. -/
def sealPkt (p : Pkt) : Pkt := { p with crc := pktCrc p }

/-- The fence tag of a requesting unit: a core's, or a site's own (R256). -/
def State.fenceOf (s : State) (site unit : Nat) : Nat :=
  if unit < 18 then (s.core ⟨site, unit⟩).fence else tget 0 s.tagNext [site, 64]

/-- The entry in force of a site's route table toward a site: port and DETOUR; `unit` 1 the bulk table, 3 the sync table (R250, R269). -/
def State.hop (s : State) (unit n d : Nat) : Option (Nat × Nat) :=
  let i := 512 * s.activeCopy n unit + d
  if unit = 1 then
    (if s.on (F.BK_RT_ENTRY_VALID.at n 0 i) then some (s.rd (F.BK_RT_ENTRY_PORT.at n 0 i), s.rd (F.BK_RT_ENTRY_DETOUR.at n 0 i)) else none)
  else (if s.on (F.SN_RT_ENTRY_VALID.at n 0 i) then some (s.rd (F.SN_RT_ENTRY_PORT.at n 0 i), s.rd (F.SN_RT_ENTRY_DETOUR.at n 0 i)) else none)

/-- The mesh node at which a message of a site enters the mesh toward a place: its own node, or the attachment that its own table names (R239, R250). -/
def State.entryNode (s : State) (unit src dest : Nat) : Option Nat :=
  if isNode src then some src else (s.hop unit src dest).bind (fun e => (attachNodes src)[e.1]?)

/-- The nodes of a message's route and the port each leaves by, with DETOUR, by the tables in force (R237, R250). -/
def State.routeFrom (s : State) (unit dest : Nat) : Nat → Nat → List (Nat × Nat × Nat)
  | 0, _ => []
  | k + 1, n =>
    if n = dest then []
    else
      match s.hop unit n dest with
      | none => []
      | some (port, det) =>
        (n, port, det) ::
          (match portPeer n port with
           | none => []
           | some m => if isNode m then s.routeFrom unit dest k m else [])

/-- The route of a message between two sites. -/
def State.route (s : State) (unit src dest : Nat) : List (Nat × Nat × Nat) :=
  match s.entryNode unit src dest with
  | none => []
  | some n => s.routeFrom unit dest 64 n

/-- Cycles of 64 network cycles, 32 ns each, between two times (R236, R263). -/
def eaCycles (a b : Nat) : Nat := (b - a) / 32

/-- The node and rind port that a rind die's packets enter the mesh by, where they pass an admission limiter: RSP is not limited (R238, R263). -/
def State.eaPort (s : State) (src dest vc : Nat) : Option (Nat × Nat) :=
  if isNode src ∨ vc = 1 then none
  else (s.entryNode 1 src dest).bind (fun n => ((rindAt n).zipIdx.find? (fun e => e.1 == src)).map (fun e => (n, 5 + e.2)))

/-- Tokens a port's flits have taken that the bucket has not got back, as time now stands: RATE comes in each 64 cycles, up to a full bucket (R263). The time kept is the last whole period. -/
def State.eaTaken (s : State) (n port : Nat) : Nat × Nat :=
  let was := tget (0, 0) s.eaUsed [n, port]
  let k := eaCycles was.2 (s.now n)
  (was.1 - s.rd (F.BK_EA_CFG_RATE.at n 0 port) * k, was.2 + 32 * k)

/-- Flits that wait at a port for tokens: what has been taken beyond BURST (R263). -/
def State.eaShort (s : State) (n port : Nat) : Nat :=
  if s.on (F.BK_EA_CFG_EN.at n 0 port) then (s.eaTaken n port).1 - s.rd (F.BK_EA_CFG_BURST.at n 0 port) else 0

/-- Cycles the port has waited for tokens since its bucket was last reckoned: until the flits then short had theirs, or until now (R263, R275). -/
def State.eaWaited (s : State) (n port : Nat) : Nat :=
  let was := tget (0, 0) s.eaUsed [n, port]
  let rate := s.rd (F.BK_EA_CFG_RATE.at n 0 port)
  let short := was.1 - s.rd (F.BK_EA_CFG_BURST.at n 0 port)
  let cycles := 64 * eaCycles was.2 (s.now n)
  if !(s.on (F.BK_EA_CFG_EN.at n 0 port)) ∨ short = 0 then 0 else if rate = 0 then cycles else min cycles ((64 * short + rate - 1) / rate)

/-- A port's bucket reckoned to now, its waiting counted (R263, R275). -/
def State.eaSettle (s : State) (n port : Nat) : State :=
  { s.bump (F.BK_EA_HELD_COUNT.at n 0 port) (s.eaWaited n port) with eaUsed := tset (0, 0) s.eaUsed [n, port] (s.eaTaken n port) }

/-- Flits that a rind die injects take their tokens; what the bucket does not hold they wait for (R263). -/
def State.eaSpend (s : State) (src dest vc flits : Nat) : State :=
  match s.eaPort src dest vc with
  | none => s
  | some (n, port) =>
    if !(s.on (F.BK_EA_CFG_EN.at n 0 port)) then s
    else
      let s := s.eaSettle n port
      { s with eaUsed := tset (0, 0) s.eaUsed [n, port] ((s.eaTaken n port).1 + flits, (s.eaTaken n port).2) }

/-- A packet injected: a hop on a rewritten entry puts it on lane 1 (R244, R250), and a rind die's passes the limiter (R263). -/
def State.inject (s : State) (p : Pkt) : State :=
  let lane := bnat ((s.route 1 p.src p.dest).any (fun e => decide (e.2.2 = 1)))
  (s.eaSpend p.src p.dest p.vc (pktFlits p)).send (.bulk { p with lane := lane })

/-- A request put on the bulk network with a fresh tag, and kept until it is answered (R241, R254). -/
def State.request (s : State) (p : Pkt) (why ref tries : Nat) : State :=
  let tag := tget 0 s.tagNext [p.src, p.sunit]
  let p := sealPkt { p with tag := tag, fence := s.fenceOf p.src p.sunit }
  let s := { s with tagNext := tset 0 s.tagNext [p.src, p.sunit] ((tag + 1) % 65536),
                    outst := s.outst ++ [({ site := p.src, unit := p.sunit, pkt := p, tries := tries, why := why, ref := ref } : Req)] }
  s.inject p

/-- A response to a request (R241): its tag and fence tag echoed. -/
def respond (q : Pkt) (type status : Nat) (data : List Byte) : Pkt :=
  let small := decide (data.length ≤ 4 ∧ 0 < data.length)
  sealPkt { type := type, vc := 1, dest := q.src, dunit := q.sunit, src := q.dest, sunit := q.dunit, master := q.master, addr := q.addr,
            len := if small then 0 else (data.length + 63) / 64, space := q.space, fmt := q.fmt, rnd := q.rnd, ovf := q.ovf, tag := q.tag,
            fence := q.fence, group := q.group, xfer := q.xfer, status := status, inl := if small then data else [],
            data := if small then [] else data }

/-- A packet has gone from a site to another: every router on its route has sent its flits (R240, R275 BK_TX). -/
def State.passed (s : State) (src dest flits : Nat) : State :=
  let s := each (s.route 1 src dest) (fun e s => s.add (F.BK_TX.at e.1 0 e.2.1) flits) s
  if isNode dest then s.add (F.BK_TX.at dest 0 4) flits else s

/-- A bulk packet has arrived: it is in flight no longer, and it has passed its route (R240). -/
def State.takeBulk (s : State) (p : Pkt) : State := (s.take (.bulk p)).passed p.src p.dest (pktFlits p)

/-- The active entry of a multicast group at a site. -/
def State.mcIx (s : State) (site g : Nat) : Nat := 4096 * s.activeCopy site 2 + g

/-- One packet of a transfer is over at a target die: after the last, the die acknowledges the transfer, unless a packet of it was dropped (R261, R262). -/
def State.mcCount (s : State) (site : Nat) (p : Pkt) : State :=
  let k : Key := [site, p.src, p.sunit, p.xfer]
  let n := tget 0 s.mcGot k + 1
  if n < p.count then { s with mcGot := tset 0 s.mcGot k n }
  else
    let code := tget 0 s.mcBad k
    let s := { s with mcGot := tset 0 s.mcGot k 0, mcBad := tset 0 s.mcBad k 0 }
    if code = 0x3301 then s else s.inject (sealPkt { respond p 0xB code [] with src := site, sunit := 0x1F })

/-- A copy leaves the hold slots of its router or its input buffer; the oldest copy that waits in the buffer takes a slot that frees (R260). -/
def State.unhold (s : State) (e : Hold) : State :=
  let l := s.holds.erase e
  let s := { s with holds := l }
  if !e.slot then s
  else
    match l.find? (fun x => x.site == e.site && !x.slot) with
    | some x => { s with holds := l.map (fun y => if y = x then { y with slot := true } else y) }
    | none => s.wr (F.BK_HOLD_USED.at e.site) (s.rd (F.BK_HOLD_USED.at e.site) - 1)

/-- A copy dropped at its router: 0x3301, and MCAST_DROP to the sending unit (R261, R274). -/
def State.mcLose (s : State) (e : Hold) : State :=
  let p := e.pkt
  let gi := s.mcIx e.site p.group
  let s := (s.unhold e).bump (F.BK_MC_DROPS_COUNT.at e.site)
  let s := s.report { code := 0x3301, site := e.site, unit := 0xFF, sev := 1, master := s.rd (F.BK_MC_ENTRY_OWNER.at e.site 0 gi), info0 := p.group,
                      info1 := s.rd (F.BK_MC_CORES_CORES.at e.site 0 gi), info2 := p.src + p.sunit <<< 9 + p.xfer <<< 16 }
  let s := s.inject (sealPkt { respond p 0xC 0x3301 [] with src := e.site, sunit := 0x1F })
  ({ s with mcBad := tset 0 s.mcBad [e.site, p.src, p.sunit, p.xfer] 0x3301 }).mcCount e.site p

/-- Held multicast copies dropped: without a record those of `own`, per R261 the others (R262, R535 step 2). -/
def State.dropHolds (s : State) (p own : Hold → Bool) : State :=
  each (s.holds.filter p) (fun e s => if own e then s.unhold e else
    match s.holds.find? (fun x => x.site == e.site && x.pkt == e.pkt) with
    | some x => s.mcLose x
    | none => s) s

/-- A packet in flight toward a site (R252). -/
def toward (n : Nat) : Msg → Bool
  | .bulk p => p.dest == n
  | .mcast t _ => t == n
  | _ => false

/-- Does the route between two sites have a hop between two others, in either direction. -/
def State.hops (s : State) (src dest a b : Nat) : Bool :=
  (s.route 1 src dest).any (fun e => (e.1 == a && portPeer e.1 e.2.1 == some b) || (e.1 == b && portPeer e.1 e.2.1 == some a)) ||
    (decide (src = a ∨ src = b) && !(isNode src) && s.entryNode 1 src dest == some (if src = a then b else a))

/-- Does a message in flight have a hop between two sites on its way: a bulk packet on its route, a multicast copy on the way to its root and from there, a packet toward a guest (R237, R258, R378). -/
def State.crosses (s : State) (a b : Nat) : Msg → Bool
  | .bulk p => s.hops p.src p.dest a b
  | .mcast t p => s.hops p.src p.dest a b || s.hops p.dest t a b
  | .guestOut t _ => t == b
  | _ => false

/-- A link between two sites comes up or goes down for good: packets that were on it are discarded (R248). Which of the packets in flight over it those are, the spec leaves to their places at that moment: one free bit each (log 63). -/
def State.loseCrossing (s : State) (a b : Nat) : State :=
  let r := s.msgs.foldl (fun (acc : List Msg × Nat) m =>
    if s.crosses a b m then (if (Config.freeWord acc.2).toNat % 2 = 1 then acc.1 else acc.1 ++ [m], acc.2 + 1) else (acc.1 ++ [m], acc.2)) ([], s.nonce)
  { s with msgs := r.1, nonce := r.2 }

/-- Sync messages in flight that a router's input queues hold, on their way to it or over it; a port buffers 8 of a channel (R269, R278; DESIGN CHOICE, log 63). -/
def State.syncQueued (s : State) (n : Nat) : Nat :=
  min 8 (s.msgs.filter (fun x => match x with | .sync y => y.dest == n || (s.route 3 y.src y.dest).any (fun e => e.1 == n) | _ => false)).length

/-- A sync message has arrived: every router on its route has forwarded it, its source's own among them and its destination's not, and SN_QMAX of each keeps the deepest queue seen (R269, R278; which routers count it as forwarded the spec does not say: DESIGN CHOICE, log 65). -/
def State.takeSync (s : State) (m : SyncMsg) : State :=
  let way := (s.route 3 m.src m.dest).map (fun e => e.1)
  let s := each ((way ++ [m.dest]).eraseDups) (fun n s => s.wr (F.SN_QMAX_DEPTH.at n) (max (s.rd (F.SN_QMAX_DEPTH.at n)) (s.syncQueued n))) s
  each way (fun n s => s.add (F.SN_MSG.at n) 1) (s.take (.sync m))

/-- The sites from a site up the control tree (R265). -/
def State.treePath (s : State) : Nat → Nat → List Nat
  | 0, n => [n]
  | k + 1, n =>
    let up := s.rd (F.CN_TREE_PARENT.at n)
    if n = s.steward ∨ up = 0x1FF ∨ up = n then [n] else n :: s.treePath k up

/-- A control message or an error record in flight, as its source and destination. -/
def State.ctlEnds (s : State) : Msg → Option (Nat × Nat)
  | .ctl y => some (y.src, y.dest)
  | .errec r => some (r.site, s.steward)
  | _ => none

/-- Messages queued toward a site's parent: those in flight that it sent or forwards up the tree; the active steward has no parent, and an output holds 4 (R265, R267, R277). -/
def State.upQueued (s : State) (n : Nat) : Nat :=
  if n = s.steward then 0
  else min 4 (s.msgs.filter (fun x => match s.ctlEnds x with
    | some (src, dest) => (s.treePath 16 src).contains n && !((s.treePath 16 dest).contains n)
    | none => false)).length

/-- A control message has arrived: it went up to where the paths meet and down the tree, each site between forwarding it (R265, R277); its source and its destination do not count it (the spec does not say which sites do: DESIGN CHOICE, log 65). -/
def State.takeCtl (s : State) (m : Msg) (src dest : Nat) : State :=
  let s := s.take m
  let up := s.treePath 16 src
  let down := s.treePath 16 dest
  let top := (up.find? (fun n => down.contains n)).toList
  each ((up.filter (fun n => !(down.contains n)) ++ top ++ down.filter (fun n => !(up.contains n))).filter (fun n => decide (n ≠ src ∧ n ≠ dest)))
    (fun n s => s.add (F.CN_MSG.at n) 1) s

/-- Do two messages travel in one order: control messages of one pair of sites, error records among them (R267); sync messages of one source unit to one site on one channel (R272); bulk packets of one source unit to one site on one VC, responses to different requests apart (R253). The second is a message in flight. -/
def sameFlow : Msg → Msg → Bool
  | .ctl a, .ctl b => a.src == b.src && a.dest == b.dest
  | .ctl a, .errec r => a.src == r.site && (a.dest == 306 || a.dest == 307)
  | .errec r, .ctl b => b.src == r.site && (b.dest == 306 || b.dest == 307)
  | .errec a, .errec b => a.site == b.site
  | .sync a, .sync b => a.src == b.src && a.dest == b.dest && decide (a.type < 5 ↔ b.type < 5) && (5 ≤ a.type || a.slot == b.slot)
  | .bulk a, .bulk b => a.vc != 1 && a.vc == b.vc && a.src == b.src && a.sunit == b.sunit && a.dest == b.dest
  | .mcast n a, .mcast m b => n == m && a.src == b.src && a.sunit == b.sunit
  | _, _ => false

/-- The packet of a message on the bulk network. -/
def Msg.pkt? : Msg → Option Pkt
  | .bulk p => some p
  | .mcast _ p => some p
  | _ => none

/-- Does a packet still wait at its rind port for tokens: those that wait are the last that entered it (R263). -/
def State.eaHolds (s : State) (p : Pkt) : Bool :=
  match s.eaPort p.src p.dest p.vc with
  | none => false
  | some e =>
    let later := ((s.msgs.filterMap Msg.pkt?).dropWhile (fun x => x != p)).filter (fun x => x != p && s.eaPort x.src x.dest x.vc == some e)
    decide (later.foldl (fun n x => n + pktFlits x) 0 < s.eaShort e.1 e.2)

/-- Is a link on the way between two sites in training: neither side sends flits on it (R248). -/
def State.wayTrains (s : State) (src dest : Nat) : Bool :=
  (s.route 1 src dest).any (fun e => (linkInfo e.1 e.2.1).isSome && decide (s.rd (F.ML_STAT_STATE.at e.1 e.2.1) = 1)) ||
    (!(isNode src) && (s.hop 1 src dest).any (fun e => decide (s.rd (F.ML_STAT_STATE.at src e.1) = 1)))

/-- Is a message held back on its way: a bulk packet at a link in training or at a rind port's limiter (R248, R263). -/
def State.heldUp (s : State) (m : Msg) : Bool :=
  match m with
  | .bulk p => s.wayTrains p.src p.dest || s.eaHolds p
  | .mcast t p => s.wayTrains p.src p.dest || s.wayTrains p.dest t || s.eaHolds p
  | _ => false

/-- May a message arrive now: none of its order that was sent earlier is still in flight (R253, R267, R272), and nothing holds it back (R248, R263). -/
def State.inTurn (s : State) (m : Msg) : Bool :=
  !(s.heldUp m) &&
  match s.msgs.find? (sameFlow m) with
  | some x => x == m
  | none => true

/-- A message arrives in its turn; a command that names it sooner does nothing. -/
def State.whenTurn (s : State) (m : Msg) (f : State → State) : State := if s.inTurn m then f s else s

/-- A NOTICE (R326). The tag carries the core slot (DESIGN CHOICE, log 15). -/
def noticeMsg (kind ctx vcore dest src slot : Nat) (words : List Nat) : CtlMsg :=
  { type := 7, dest := dest, src := src, tag := slot, words := (kind + ctx <<< 8 + vcore <<< 18) :: words }

/-- KIND of a NOTICE. -/
def noticeKind (m : CtlMsg) : Nat := m.words.headD 0 % 256
/-- Context of a NOTICE. -/
def noticeCtx (m : CtlMsg) : Nat := bits (m.words.headD 0) 17 8
/-- Virtual core of a NOTICE. -/
def noticeVcore (m : CtlMsg) : Nat := bits (m.words.headD 0) 28 18
/-- The core a NOTICE from the steward is for (log 15). -/
def noticeCore (m : CtlMsg) : CoreId := ⟨m.dest, m.tag⟩
/-- The core a NOTICE to the steward comes from (log 15). -/
def noticeFrom (m : CtlMsg) : CoreId := ⟨m.src, m.tag⟩

/-- A NOTICE from a core to the steward. -/
def State.tellSteward (s : State) (c : CoreId) (kind : Nat) (words : List Nat) : State :=
  s.send (.ctl (noticeMsg kind (s.ctxOf c) (s.rd (F.CORE_BIND_VCORE.core c)) s.steward c.site c.slot words))

/-- A NOTICE from the steward to a core. -/
def State.tellCore (s : State) (c : CoreId) (kind ctx vcore : Nat) (words : List Nat) : State :=
  s.send (.ctl (noticeMsg kind ctx vcore c.site s.steward c.slot words))

/-- A STEP message (R140, R266): word 1 as a NOTICE with 0 an arrival and 1 a release, word 2 STEP (DESIGN CHOICE, log 15). -/
def stepMsg (release : Bool) (ctx vcore dest src slot step : Nat) : CtlMsg :=
  { type := 8, dest := dest, src := src, tag := slot, words := [bnat release + ctx <<< 8 + vcore <<< 18, step] }

/-- A DOORBELL from a core or a port to the steward (R326): OP 0 TAIL, 1 RESERVE, 2 PUBLISH. -/
def doorbellMsg (queue op master dest src slot arg : Nat) : CtlMsg :=
  { type := 5, dest := dest, src := src, tag := slot, words := [queue + op <<< 12 + master <<< 14, arg] }

end Sys2Proof.Machine
end

