-- ==== Sys2Proof/Machine/Stack.lean ====
section
/-! DEFINITION. Stasan stacks (R203 to R235): requests as they arrive, line fills and re-reads, flush and self-refresh, prefetchers, the near-memory engine, DIGEST and migration. -/

namespace Sys2Proof.Machine

/-- The index p of a stack site. -/
def stkOf (site : Nat) : Nat := site / 4

/-- Does an endpoint take a packet in: its CRC good, its DEST this site, its TYPE on its VC (R242, R254)? -/
def takesIn (site type vc : Nat) (p : Pkt) : Bool := decide (p.crc = pktCrc p ∧ p.dest = site ∧ p.type = type ∧ p.vc = vc)

/-- A packet discarded by its endpoint is counted (R254); the health score of the site rises with it (R504). -/
def State.discard (s : State) (site : Nat) : State :=
  (s.bump (F.BK_CRC_DROP_COUNT.at site)).charge (.site site) 4 0

/-- A packet arrives in its turn (R253): counted on its way, discarded where its endpoint does not take it in, else handled. -/
def State.arrive (s : State) (site type vc : Nat) (p : Pkt) (f : State → State) : State :=
  s.whenTurn (.bulk p) (fun s =>
    let s := s.takeBulk p
    if takesIn site type vc p then f s else s.discard site)

/-- A response sent. -/
def State.reply (s : State) (q : Pkt) (type status : Nat) (data : List Byte) : State := s.inject (respond q type status data)

/-- Bytes a READ asks for: LEN flits, or one word when LEN is 0; a FETCH four descriptors (R126, R241; DESIGN CHOICE, log 15). -/
def readLen (p : Pkt) : Nat := if p.type = 4 then 256 else if p.len = 0 then 4 else 64 * p.len

/-- The stack offset of a packet (log 15). -/
def pktOff (p : Pkt) : Nat := p.addr % 2 ^ 37

/-- The asker of a packet's request; `op` as in R226. -/
def askerOf (p : Pkt) (op : Nat) : Asker := { master := p.master, site := p.src, slot := p.sunit, type := p.type, op := op }

/-- The code that refuses a request before it reaches the cache (R207, R208, R230). -/
def State.stkRefuse (s : State) (p : Nat) (q : Asker) (wr : Bool) (off n : Nat) : Option Nat × State :=
  let site := 4 * p + 2
  if off ≥ stackBytes then (some 0x2202, s.badAddr { q with site := site } (stkAddr p off) 1)
  else if !(s.stackServes site) then (some 0x2202, s.badAddr { q with site := site } (stkAddr p off) 2)
  else
    match s.stkCheck site q.master wr off n with
    | some v => (some v.1, s.deny site 1 q.master wr v q.type off q.site q.slot)
    | none => (none, s)

/-- The entry of a stack to self-refresh ends: it is ACTIVE, and a flush or invalidation that was in progress goes on (R213, R228). -/
def State.endEntry (s : State) (p : Nat) : State :=
  let site := 4 * p + 2
  ((s.wr (F.SC_STAT_PSTATE.at site) 0).wr (F.SC_STAT_FLUSHING.at site) (bnat (decide ((s.stk p).flushOp ≠ 0)))).wr (F.SC_CTL_SLEEP.at site) 0

/-- A request meets a stack that is not ACTIVE: the entry to self-refresh ends, or the stack wakes and the request waits (R228). The answer says whether it can be served now. -/
def State.stkReady (s : State) (p : Nat) (k : Pkt) : Bool × State :=
  let site := 4 * p + 2
  match s.rd (F.SC_STAT_PSTATE.at site) with
  | 0 => (true, s)
  | 1 => (true, s.endEntry p)
  | _ => (false, (s.wr (F.SC_STAT_PSTATE.at site) 3).setStk p { s.stk p with waitWake := (s.stk p).waitWake ++ [k] })

/-- The sectors of a range. -/
def secsOf (off n : Nat) : List Nat := (List.range ((off % 64 + n + 63) / 64)).map (fun i => off / 64 + i)

/-- Bytes that a contribution adds into, of its source and destination formats; INLINE byte 0 is the destination format (log 15). -/
def accBytes (k : Pkt) : Nat :=
  match fmtOf k.fmt, fmtOf (k.inl.headD 0).toNat with
  | some f, some g => (codesOf f k.data).length * fmtBits g / 8
  | _, _ => k.data.length

/-- The sectors of a packet's request (R206). -/
def pktSecs (k : Pkt) : List Nat :=
  match k.type with
  | 1 | 4 => secsOf (pktOff k) (readLen k)
  | 3 => [pktOff k >>> 6]
  | 6 => secsOf (pktOff k) (accBytes k)
  | _ => secsOf (pktOff k) k.data.length

/-- Does a request concern a sector of an earlier one (R206)? -/
def meets (l : List Pkt) (k : Pkt) : Bool := l.any (fun x => (pktSecs x).any (fun y => (pktSecs k).contains y))

/-- Requests that have arrived at a stack and are not performed yet: waiting for a line, for a migrated line, queued contributions, and those that stand behind them. -/
def StkSt.waiting (r : StkSt) : List Pkt := r.waitFill ++ r.waitLine ++ r.accq ++ r.behind

/-- The record of a cured CRC failure (R223, R226). -/
def State.crcFixed (s : State) (p sec op rereads master : Nat) : State :=
  let site := 4 * p + 2
  let ch := chanOf (sec <<< 6)
  (s.bump (F.CH_CRC_FIX_COUNT.at site ch)).report
    { code := 0x2203, site := site, unit := ch, sev := 0, master := master, info0 := sec, info1 := op <<< 4 + rereads <<< 8 }

/-- A sector of the cache made invalid. -/
def State.dropSector (s : State) (p sec : Nat) : State :=
  match s.cacheWay p (sec >>> 2) with
  | none => s
  | some w =>
    let c := s.cline p (setOf (sec >>> 2)) w
    s.setLine p (setOf (sec >>> 2)) w { c with valid := clrBit c.valid (sec % 4), dirty := clrBit c.dirty (sec % 4) }

/-- Is a sector dirty in the cache. -/
def State.dirtySec (s : State) (p sec : Nat) : Bool :=
  match s.cacheWay p (sec >>> 2) with
  | some w => (s.cline p (setOf (sec >>> 2)) w).dirty.testBit (sec % 4)
  | none => false

/-- What a read-out of the cache meets (R212, R223): both tag copies bad, so that dirty sectors of the line are lost and clean ones go; or CRC failures of the first sector, which a re-read of the array cures or which lose it where it is dirty, and which send its read to DRAM where it is clean. -/
def State.cacheFaults (s : State) (p sec op master : Nat) (ev : StkEvent) : State :=
  let s := if !ev.tagFails then s
    else (List.range 4).foldl (fun s i =>
      let x := sec / 4 * 4 + i
      if !(s.cached p x) then s
      else if s.dirtySec p x then ((s.setFailing p x 3).dropSector p x).lossRecord p x 3 op 0 master
      else s.dropSector p x) s
  if ev.crcFails = 0 ∨ !(s.cached p sec) then s
  else if s.dirtySec p sec then
    if ev.crcFails ≤ 2 then s.crcFixed p sec op ev.crcFails master
    else ((s.setFailing p sec 2).dropSector p sec).lossRecord p sec 2 op 2 master
  else
    let s := s.dropSector p sec
    s.setStk p { s.stk p with cleanBad := (s.stk p).cleanBad ++ [sec] }

/-- The first sector of a request that is read out of the cache; where none is, its first. -/
def State.readOut (s : State) (p : Nat) (secs : List Nat) : Nat := (secs.find? (fun x => s.cached p x)).getD (secs.headD 0)

/-- Was one of these sectors lost between two states: the loss has its record already (R223). -/
def lostSince (s t : State) (p : Nat) (l : List Nat) : Bool := l.any (fun x => (s.lostCause p x).isNone && (t.lostCause p x).isSome)

/-- Sectors of a request that are neither cached nor lost. -/
def State.missing (s : State) (p : Nat) (l : List Nat) : List Nat := l.filter (fun x => !(s.cached p x) && (s.lostCause p x).isNone)

/-- A read whose sectors are all present or lost is answered; lost ones report again, unless the loss has just been reported (R223). -/
def State.finishRead (s : State) (p : Nat) (k : Pkt) (reported : Bool) : State :=
  let off := pktOff k
  let secs := secsOf off (readLen k)
  match secs.find? (fun x => (s.lostCause p x).isSome) with
  | some x =>
    let cause := (s.lostCause p x).getD 1
    let s := if reported then s else s.lossRecord p x cause 0 (lossRereads cause) k.master
    s.reply k 8 0x2201 []
  | none =>
    let s := each ((secs.map (· >>> 2)).eraseDups) (fun l s => (s.pfTouch p l).plruUse p (setOf l) (s.wayFor p l)) s
    (s.reply k 8 0 (mgetN s.mem (stkAddr p off) (readLen k))).pfGo p

/-- The merge of a partial write into its sector, present in the cache (R211). -/
def State.finishPartial (s : State) (p : Nat) (k : Pkt) (reported : Bool) : State :=
  let off := pktOff k / 64 * 64
  let sec := off >>> 6
  match s.lostCause p sec with
  | some _ =>
    let s := if reported then s else s.lossRecord p sec (if (s.stk p).failed.contains (chanOf off) then 4 else 5) 9 0 k.master
    s.reply k 9 0x2201 []
  | none =>
    let old := mgetN s.mem (stkAddr p off) 64
    let bs := old.mapIdx (fun i b => if k.bmask.testBit i then k.data.getD i b else b)
    let s := (s.pfTouch p (sec >>> 2)).allocLine p (sec >>> 2) (1 <<< (sec % 4)) (1 <<< (sec % 4)) false
    ((s.secPut p off bs).pfGo p).reply k 9 0 []

/-- One sector's share of a contribution added as one operation (R218, R219): elements in increasing address order. -/
def State.accumSector (s : State) (p off : Nat) (srcFmt dstFmt : Fmt) (rnd : Bool) (codes : List Nat) : State :=
  let site := 4 * p + 2
  let sec := off >>> 6
  let n := codes.length * fmtBits dstFmt / 8
  let old := codesOf dstFmt (mgetN s.mem (stkAddr p off) n)
  let sums := codes.mapIdx (fun i x => addNum (decodeNum dstFmt (old.getD i 0)) (decodeNum srcFmt x))
  let (new, g) := convertList dstFmt rnd false sums (s.stkGen p (chanOf off))
  let s := s.setStkGen p (chanOf off) g
  let s := (s.pfTouch p (sec >>> 2)).allocLine p (sec >>> 2) (1 <<< (sec % 4)) (1 <<< (sec % 4)) false
  ((s.secPut p off (bytesOf dstFmt new)).add (F.NM_ACCUM.at site) 1).pfGo p

/-- A contribution whose sectors are all present is added sector by sector and acknowledged; with a failing sector among them it is refused and nothing of it applied (R218, R223). -/
def State.finishAccum (s : State) (p : Nat) (k : Pkt) (reported : Bool) : State :=
  let src := (fmtOf k.fmt).getD .b32
  let dst := (fmtOf (k.inl.headD 0).toNat).getD .b32
  let codes := codesOf src k.data
  let off := pktOff k
  let secs := pktSecs k
  match secs.find? (fun x => (s.lostCause p x).isSome) with
  | some x =>
    let s := if reported then s else s.lossRecord p x (if (s.stk p).failed.contains (chanOf (x <<< 6)) then 4 else 5) 2 0 k.master
    s.reply k 0xA 0x2201 []
  | none =>
    let per := 512 / fmtBits dst
    (each secs (fun x s =>
      let lo := max off (64 * x)
      let i := (lo - off) * 8 / fmtBits dst
      s.accumSector p lo src dst k.rnd ((codes.drop i).take (min (per - (lo % 64) * 8 / fmtBits dst) (codes.length - i)))) s).reply k 0xA 0 []

/-- A request waits for its line (R211). -/
def State.waitLineFill (s : State) (p : Nat) (k : Pkt) : State := s.setStk p { s.stk p with waitFill := (s.stk p).waitFill ++ [k] }

/-- Sectors served from the cache and sectors that read DRAM, counted; a sector whose line a prefetch already reads makes no read of its own (R214, R232). -/
def State.countHits (s : State) (p : Nat) (secs : List Nat) : State :=
  let n := (secs.filter (fun x => !(s.cached p x) && !(s.pfInflight p (x >>> 2)))).length
  (s.add (F.SC_HIT.at (4 * p + 2)) (secs.length - n)).add (F.SC_MISS.at (4 * p + 2)) n

/-- A READ or FETCH at a stack that can serve (R206, R208, R211). -/
def State.serveRead (s : State) (p : Nat) (k : Pkt) (ev : StkEvent) : State :=
  let off := pktOff k
  let r := s.stkRefuse p (askerOf k 0) false off (readLen k)
  match r.1 with
  | some code => r.2.reply k 8 code []
  | none =>
    let secs := pktSecs k
    let t := r.2.cacheFaults p (r.2.readOut p secs) 0 k.master ev
    let u := t.countHits p secs
    if (t.missing p secs).isEmpty ∨ lostSince s t p secs then u.finishRead p k (lostSince s t p secs) else u.waitLineFill p k

/-- Is a write to the line now being copied by a migration (R231). -/
def State.mgHolds (s : State) (p off : Nat) : Bool :=
  let site := 4 * p + 2
  s.on (F.NM_STAT_MG_ACTIVE.at site) && !(s.on (F.NM_STAT_MG_DONE.at site)) && decide (off / 256 = s.rd (F.MG_PTR.at site))

/-- Does a request reach the line now being copied by a migration (R231). -/
def State.mgMeets (s : State) (p : Nat) (k : Pkt) : Bool := (pktSecs k).any (fun x => s.mgHolds p (64 * x))

/-- A write waits until the line being copied is acknowledged (R231). -/
def State.waitCopy (s : State) (p : Nat) (k : Pkt) : State := s.setStk p { s.stk p with waitLine := (s.stk p).waitLine ++ [k] }

/-- A WRITE at a stack that can serve: whole sectors, one after another (R206, R211); during a migration it may wait for a line (R231). A GRAFT_PENDING stack takes migration writes only (R230). -/
def State.serveWrite (s : State) (p : Nat) (k : Pkt) : State :=
  let site := 4 * p + 2
  let off := pktOff k
  let migration := decide (s.siteState site = 4 ∧ isStack k.src = true ∧ k.master = 0xFFF)
  let r := if migration then (none, s) else s.stkRefuse p (askerOf k 1) true off k.data.length
  match r.1 with
  | some code => r.2.reply k 9 code []
  | none =>
    if s.mgMeets p k then r.2.waitCopy p k
    else
      let w := (pieces 64 k.data.length k.data).mapIdx (fun i b => (i, b))
      let q := w.foldl (fun (a : Except Nat Unit × State) e =>
        match a.1 with
        | .error code => (.error code, a.2)
        | .ok _ => a.2.secWrite (askerOf k 1) p (off + 64 * e.1) e.2) (.ok (), r.2)
      q.2.reply k 9 (match q.1 with | .error code => code | .ok _ => 0) []

/-- A WRITE_PARTIAL at a stack that can serve (R211). -/
def State.servePartial (s : State) (p : Nat) (k : Pkt) (ev : StkEvent) : State :=
  let off := pktOff k / 64 * 64
  let secs := pktSecs k
  let r := s.stkRefuse p (askerOf k 9) true off 64
  match r.1 with
  | some code => r.2.reply k 9 code []
  | none =>
    if s.mgMeets p k then r.2.waitCopy p k
    else
      let t := r.2.cacheFaults p (off >>> 6) 9 k.master ev
      let u := t.countHits p secs
      if (t.missing p secs).isEmpty then u.finishPartial p k (lostSince s t p secs) else u.waitLineFill p k

/-- The runs of lines of a stream program that lie within the stack (R215): first line and lines of each. -/
def streamRuns (start run stride count : Nat) : List (Nat × Nat) :=
  ((List.range count).map (fun i => (start + i * stride, min run (stackBytes / 256 - (start + i * stride))))).filter (fun e => decide (0 < e.2))

/-- A stream program arrives: an entry of its first line's channel group is allocated, or the one idle longest replaced (R214, R215); a program with a run that its master may not read is dropped without a record (R208, R327). One with RUN or COUNT 0, or a START beyond the stack, is dropped: R215 gives the ranges and not what a value outside them does (DESIGN CHOICE, log 63). -/
def State.servePrefetch (s : State) (p : Nat) (k : Pkt) : State :=
  let site := 4 * p + 2
  let n (a z : Nat) : Nat := leNat ((k.inl.drop a).take z)
  let start := n 0 4 % 2 ^ 29
  let run := n 4 2
  let stride := n 6 4
  let count := n 10 2
  let master := n 12 2 % 4096
  let refused := (streamRuns start run stride count).any (fun e => (s.stkCheck site master false (256 * e.1) (256 * e.2)).isSome)
  if !(s.on (F.SC_CTL_PF_EN.at site)) ∨ s.quiesced site 0x21 ∨ run = 0 ∨ count = 0 ∨ start ≥ stackBytes / 256 ∨ refused then s
  else
    let g := chanOf (start * 256) / 4
    let free := (List.range 8).find? (fun i => !(s.pfe p (8 * g + i)).used)
    let oldest := (List.range 8).foldl (fun b i => if (s.pfe p (8 * g + i)).last < (s.pfe p (8 * g + b)).last then i else b) 0
    let s := if free.isNone then s.bump (F.PF_REPLACED_COUNT.at site) else s
    let e := 8 * g + free.getD oldest
    (s.setPfe p e { used := true, start := start, run := run, stride := stride, count := count, master := master, next := 0, reached := 0,
                    last := s.now site, inflight := [] }).pfIssue p e

/-- A request performed by its type. -/
def State.perform (s : State) (p : Nat) (k : Pkt) (ev : StkEvent) : State :=
  match k.type with
  | 1 | 4 => s.serveRead p k ev
  | 2 => s.serveWrite p k
  | 3 => s.servePartial p k ev
  | 5 => s.servePrefetch p k
  | 6 => s.setStk p { s.stk p with accq := (s.stk p).accq ++ [k] }
  | _ => s

/-- Does a request stand behind an earlier one for a sector of its own (R206)? Contributions queue in order anyway. -/
def State.stands (s : State) (p : Nat) (k : Pkt) : Bool :=
  let r := s.stk p
  k.type != 5 && meets (if k.type = 6 then r.waitFill ++ r.waitLine ++ r.behind else r.waiting) k

/-- A request at its stack, when the stack is or becomes ACTIVE (R228), in its turn at its sectors (R206). -/
def State.serve (s : State) (p : Nat) (k : Pkt) (ev : StkEvent) : State :=
  let r := s.stkReady p k
  if !r.1 then r.2
  else if r.2.stands p k then r.2.setStk p { r.2.stk p with behind := (r.2.stk p).behind ++ [k] }
  else r.2.perform p k ev

/-- Requests that stood behind others go on in their order (R206). -/
def State.stkGo (s : State) (p : Nat) : State :=
  each (s.stk p).behind (fun k s => s.serve p k {}) (s.setStk p { s.stk p with behind := [] })

/-- A packet for a stack arrives (R206). -/
def State.stkPacket (s : State) (site type vc : Nat) (k : Pkt) (ev : StkEvent) : State :=
  s.arrive site type vc k (fun s => if isStack site then s.serve (stkOf site) k ev else s.discard site)

/-- READ (R206, R242). -/
def State.readPacket (s : State) (site : Nat) (k : Pkt) (ev : StkEvent) : State := s.stkPacket site 1 0 k ev
/-- WRITE (R206, R242). -/
def State.writePacket (s : State) (site : Nat) (k : Pkt) : State := s.stkPacket site 2 0 k {}
/-- WRITE_PARTIAL (R211, R242). -/
def State.partialPacket (s : State) (site : Nat) (k : Pkt) (ev : StkEvent) : State := s.stkPacket site 3 0 k ev
/-- FETCH (R126, R242). -/
def State.fetchPacket (s : State) (site : Nat) (k : Pkt) (ev : StkEvent) : State := s.stkPacket site 4 0 k ev
/-- PREFETCH (R215, R242); a program for a sleeping stack is not a request and is dropped with the powered-down prefetchers (R228, DEDUCED, log 22). -/
def State.prefetchPacket (s : State) (site : Nat) (k : Pkt) : State :=
  s.arrive site 5 0 k (fun s =>
    if isStack site ∧ s.rd (F.SC_STAT_PSTATE.at site) = 0 then s.servePrefetch (stkOf site) k else s)
/-- Data in a stack's inbound ACCUM queue: every contribution that is not yet applied, those that wait for a wake, a fill or a line among them (R257). -/
def State.accHeld (s : State) (p : Nat) : Nat :=
  (((s.stk p).waiting ++ (s.stk p).waitWake).filter (fun k => decide (k.type = 6))).foldl (fun n k => n + k.data.length) 0

/-- ACCUM_PACKET (R257): the contribution enters the inbound queue of 256 KiB; with no room there it stays on the ACCUM VC. -/
def State.accumPacket (s : State) (site : Nat) (k : Pkt) : State :=
  if isStack site ∧ 262144 < s.accHeld (stkOf site) + k.data.length then s else s.stkPacket site 6 3 k {}

/-- Requests that waited for a fill and now find every sector present or lost are performed, and those that stood behind them go on (R206, R211). -/
def State.serveWaiting (s : State) (p : Nat) (lostNow : Option Nat) : State :=
  ((s.stk p).waitFill.foldl (fun s k =>
    let secs := pktSecs k
    if (s.missing p secs).isEmpty ∨ secs.any (fun x => (s.lostCause p x).isSome) then
      let s := s.setStk p { s.stk p with waitFill := (s.stk p).waitFill.erase k }
      let told := match lostNow with | some x => secs.contains x | none => false
      if k.type = 3 then s.finishPartial p k told else if k.type = 6 then s.finishAccum p k told else s.finishRead p k told
    else s) s).stkGo p

/-- The sectors of a line that waiting requests need. -/
def State.wanted (s : State) (p l : Nat) : List Nat := ((s.stk p).waitFill.flatMap pktSecs).filter (fun x => decide (x / 4 = l))

/-- A sector whose clean cached copy failed its CRC is read well from DRAM: the failure is cured (R223). -/
def State.cleanCured (s : State) (p sec : Nat) : State :=
  if (s.stk p).cleanBad.contains sec then s.setStk p { s.stk p with cleanBad := (s.stk p).cleanBad.filter (fun x => decide (x ≠ sec)) } else s

/-- The operation and master of the request that waits for a sector (R226). -/
def State.waitingFor (s : State) (p sec : Nat) : Nat × Nat :=
  match (s.stk p).waitFill.find? (fun k => (pktSecs k).contains sec) with
  | some k => (if k.type = 3 then 9 else if k.type = 6 then 2 else 0, k.master)
  | none => (0, 0xFFF)

/-- LINE_FILL_DONE (R211, R223): the line read for waiting requests arrives; `bad` marks the sectors that fail their CRC. A line that a prefetch reads is not read a second time (R214). -/
def State.lineFill (s : State) (site l bad : Nat) : State :=
  let p := stkOf site
  let want := (s.wanted p l).filter (fun x => !(s.cached p x))
  if (s.wanted p l).isEmpty ∨ s.pfInflight p l then s
  else if want.isEmpty then s.serveWaiting p none
  else
    let isBad (i : Nat) : Bool := bad.testBit i || (s.lostCause p (4 * l + i)).isSome
    let valid := (List.range 4).foldl (fun v i => if isBad i then v else setBit v i) 0
    let s := if valid = 0 then s else s.allocLine p l valid 0 false
    let s := each ((List.range 4).filter (fun i => !(isBad i) && (s.stk p).cleanBad.contains (4 * l + i))) (fun i s =>
      (s.crcFixed p (4 * l + i) (s.waitingFor p (4 * l + i)).1 0 (s.waitingFor p (4 * l + i)).2).cleanCured p (4 * l + i)) s
    let re := ((List.range 4).filter (fun i => isBad i && want.contains (4 * l + i) && !((s.stk p).rereads.any (fun e => e.1 == 4 * l + i)))).map
      (fun i => (4 * l + i, 0))
    let s := s.setStk p { s.stk p with rereads := (s.stk p).rereads ++ re }
    s.serveWaiting p none

/-- CRC_REREAD_DONE (R223): the oldest re-read of a stack cures its sector or, the second time it fails, loses it. -/
def State.rereadDone (s : State) (site : Nat) (good : Bool) : State :=
  let p := stkOf site
  match (s.stk p).rereads with
  | [] => s
  | (sec, n) :: rest =>
    let (op, master) := s.waitingFor p sec
    if good ∧ (s.lostCause p sec).isNone then
      let s := (s.setStk p { s.stk p with rereads := rest }).cleanCured p sec
      let s := (s.allocLine p (sec >>> 2) (1 <<< (sec % 4)) 0 false).crcFixed p sec op (n + 1) master
      s.serveWaiting p none
    else if n + 1 < 2 then s.setStk p { s.stk p with rereads := rest ++ [(sec, n + 1)] }
    else
      let cause := (s.lostCause p sec).getD 1
      let s := (s.setStk p { s.stk p with rereads := rest }).cleanCured p sec
      let s := (s.setFailing p sec cause).lossRecord p sec cause op 2 master
      s.serveWaiting p (some sec)

/-- Every dirty sector of a stack written back: its lines stay valid and clean (R213). -/
def State.cleanAll (s : State) (p : Nat) : State :=
  { s with cache := (s.cache.map (fun e => if e.1.head? = some p then (e.1, { e.2 with dirty := 0 }) else e)).filter (fun e => decide (e.2 ≠ lineReset)) }

/-- A flush, 1, or an invalidation, 2, of a stack begins: while either runs the write has no effect (R213). -/
def State.flushStart (s : State) (site op : Nat) : State :=
  let p := stkOf site
  if (s.stk p).flushOp ≠ 0 then s
  else
    let s := (s.cleanAll p).wr (F.SC_STAT_FLUSHING.at site) 1
    s.setStk p { s.stk p with flushOp := op }

/-- SC_FLUSH (R213). -/
def State.scFlush (s : State) (site : Nat) : State := s.flushStart site 1

/-- SC_INVAL (R213). -/
def State.scInval (s : State) (site : Nat) : State := s.flushStart site 2

/-- Every line of a stack invalidated, but for sectors written since the operation passed (R213). -/
def State.invalidateClean (s : State) (p : Nat) : State :=
  let gone := s.cache.filter (fun e => decide (e.1.head? = some p ∧ e.2.dirty = 0))
  let s := s.bump (F.PF_UNUSED_COUNT.at (4 * p + 2)) ((gone.filter (fun e => decide (e.2.valid ≠ 0) && e.2.pf)).length)
  { s with cache := (s.cache.filter (fun e => !(decide (e.1.head? = some p ∧ e.2.dirty = 0)))).map (fun e =>
      if e.1.head? = some p then (e.1, { e.2 with valid := e.2.dirty }) else e) }

/-- FLUSH_DONE (R213): the flush or invalidation in progress ends. -/
def State.flushDone (s : State) (site : Nat) : State :=
  let p := stkOf site
  let op := (s.stk p).flushOp
  if op = 0 then s
  else
    let s := s.wr (F.SC_STAT_FLUSHING.at site) (bnat (decide (s.rd (F.SC_STAT_PSTATE.at site) = 1)))
    let s := if op = 2 then s.invalidateClean p else s
    s.setStk p { s.stk p with flushOp := 0 }

/-- The cache and prefetchers of a stack emptied (R228). -/
def State.emptyCache (s : State) (p : Nat) : State :=
  let s := (s.cleanAll p).invalidateClean p
  let s := { s with plru := s.plru.filter (fun e => decide (e.1.head? ≠ some p)), pfs := s.pfs.filter (fun e => decide (e.1.head? ≠ some p)) }
  s.wr (F.PF_ACTIVE.at (4 * p + 2)) 0

/-- SC_SLEEP_WRITE (R228). -/
def State.sleepWrite (s : State) (site : Nat) (v : Bool) : State :=
  let ps := s.rd (F.SC_STAT_PSTATE.at site)
  if v then
    if ps = 0 then ((s.wr (F.SC_CTL_SLEEP.at site) 1).wr (F.SC_STAT_PSTATE.at site) 1).wr (F.SC_STAT_FLUSHING.at site) 1 else s
  else
    let s := s.wr (F.SC_CTL_SLEEP.at site) 0
    if ps = 1 then s.endEntry (stkOf site)
    else if ps = 2 then s.wr (F.SC_STAT_PSTATE.at site) 3
    else s

/-- SELF_REFRESH_ENTERED (R228): once no request that arrived before the entry is still to be performed (DEDUCED, log 63). -/
def State.refreshEntered (s : State) (site : Nat) : State :=
  let p := stkOf site
  if s.rd (F.SC_STAT_PSTATE.at site) ≠ 1 ∨ (s.stk p).waiting ≠ [] then s
  else
    let s := ((s.emptyCache p).wr (F.SC_STAT_PSTATE.at site) 2).wr (F.SC_STAT_FLUSHING.at site) 0
    s.setStk p { s.stk p with flushOp := 0 }

/-- WAKE_DONE (R228): the stack is ACTIVE and serves what waited. -/
def State.wakeDone (s : State) (site : Nat) : State :=
  let p := stkOf site
  if s.rd (F.SC_STAT_PSTATE.at site) ≠ 3 then s
  else
    let l := (s.stk p).waitWake
    let s := ((s.wr (F.SC_STAT_PSTATE.at site) 0).wr (F.SC_CTL_SLEEP.at site) 0).bump (F.SC_WAKES_COUNT.at site)
    each l (fun k s => s.serve p k {}) (s.setStk p { s.stk p with waitWake := [] })

/-- Refreshes in one retention period of a channel: 32 banks of 49,152 rows, 8 rows each (R203, R227). -/
def refreshesPerPeriod : Nat := 196608

/-- REFRESH_TICK (R227): a channel refreshes 8 rows of one bank; which bank is the model's count (DESIGN CHOICE, log 23). -/
def State.refreshTick (s : State) (site ch : Nat) : State :=
  let p := stkOf site
  if s.rd (F.SC_STAT_PSTATE.at site) = 2 ∨ ch ≥ 32 then s
  else
    let n := tget 0 (s.stk p).refreshes [ch]
    s.setStk p { s.stk p with refreshes := tset 0 (s.stk p).refreshes [ch] ((n + 1) % refreshesPerPeriod) }

/-- PREFETCH_FILL_DONE (R214): a prefetch line read arrives; its good sectors are allocated, marked prefetched, and demand reads of the line go on. -/
def State.prefetchFill (s : State) (site l bad : Nat) : State :=
  let p := stkOf site
  match (List.range 64).find? (fun e => (s.pfe p e).inflight.contains l) with
  | none => s
  | some e =>
    let v := s.pfe p e
    let s := s.setPfe p e { v with inflight := v.inflight.erase l }
    let valid := (List.range 4).foldl (fun m i => if bad.testBit i ∨ (s.lostCause p (4 * l + i)).isSome then m else setBit m i) 0
    let s := if valid = 0 then s else s.allocLine p l valid 0 true
    (s.serveWaiting p none).pfIssue p e

/-- PF_IDLE_EXPIRE (R214). -/
def State.pfIdle (s : State) (site e : Nat) : State :=
  if (s.pfe (stkOf site) e).used ∧ s.rd (F.PF_CFG_IDLE.at site) ≠ 0 then s.setPfe (stkOf site) e pfReset else s

/-- NM_SEED_HI_WRITE (R219). -/
def State.nmSeedHi (s : State) (site v : Nat) : State :=
  let sigma := s.rd (F.NM_SEED.at site) % 2 ^ 32 + (v % 2 ^ 32) <<< 32
  let s := s.wr (F.NM_SEED.at site) sigma
  loopN 32 (fun c s => s.setStkGen (stkOf site) c (genSeed ((sigma + c) % 2 ^ 64))) s

/-- The record of a format code that the near-memory engine of a stack finds reserved in an ACCUM (R45, R76): the packet carries no descriptor address, so INFO1 and INFO2 are 0 (DESIGN CHOICE, log 63). -/
def State.fmtRecord (s : State) (p : Nat) (k : Pkt) (fmt : Nat) : State :=
  s.report { code := 0x1001, site := 4 * p + 2, unit := k.sunit, sev := 2, master := k.master, info0 := fmt }

/-- ACCUM_APPLIED (R218, R223, R257, R231): the oldest queued contribution is checked and added, or waits for the lines it needs. It waits while the line being copied by a migration is one of its own. -/
def State.accumApplied (s : State) (site : Nat) : State :=
  let p := stkOf site
  match (s.stk p).accq with
  | [] => s
  | k :: rest =>
    if 2 ≤ s.rd (F.SC_STAT_PSTATE.at site) ∨ meets (s.stk p).waitFill k ∨ s.mgMeets p k then s
    else
      let s := s.setStk p { s.stk p with accq := rest }
      let bad := if fmtOf k.fmt = none then k.fmt else (k.inl.headD 0).toNat
      if fmtOf bad = none then ((s.fmtRecord p k bad).reply k 0xA 0x1001 []).stkGo p
      else
        let secs := pktSecs k
        let r := s.stkRefuse p (askerOf k 2) true (pktOff k) (accBytes k)
        match r.1 with
        | some code => (r.2.reply k 0xA code []).stkGo p
        | none =>
          let u := r.2.countHits p secs
          if (r.2.missing p secs).isEmpty then (u.finishAccum p k false).stkGo p else u.waitLineFill p k

/-- DG_GO (R221, R225): the range and the format are those that stand at GO (DESIGN CHOICE, log 63: R221 does not say when they are taken). -/
def State.dgGo (s : State) (site : Nat) : State :=
  if s.on (F.NM_STAT_DG_BUSY.at site) ∨ s.quiesced site 0x22 then s
  else
    let s := s.wr (F.DG_RESULT_VALID.at site) 0
    let base := (s.rd (F.DG_BASE.at site)) <<< 6
    let len := (s.rd (F.DG_LEN.at site)) <<< 6
    if len = 0 ∨ base + len > stackBytes then (s.wr (F.DG_RESULT_CODE.at site) 0x2205).nmeRecord site 0x2205 1 6 (base >>> 6)
    else if s.rd (F.DG_CTL_FMT.at site) > 5 then (s.wr (F.DG_RESULT_CODE.at site) 0x2205).nmeRecord site 0x2205 2 6 (base >>> 6)
    else (s.wr (F.NM_STAT_DG_BUSY.at site) 1).setStk (stkOf site) { s.stk (stkOf site) with dg := (base, len, s.rd (F.DG_CTL_FMT.at site)) }

/-- One level of pairwise addition in binary32. -/
def pairAdd : List Num → List Num
  | a :: b :: r => ofB32 (toB32 (addNum a b)) :: pairAdd r
  | l => l

/-- The fixed pairwise tree over the elements of 4 KiB (R221); an element that takes no part stands as +0 (DESIGN CHOICE, log 24). -/
def treeSum (l : List Num) : Num := (loopN 13 (fun _ l => pairAdd l) l).headD (.fin false 0 0)

/-- What a DIGEST accumulates. -/
structure Digest where
  sum : Num
  sumsq : Num
  maxabs : Num
  count : Nat
  nonfin : Nat
  lost : List Nat
  deriving DecidableEq, Repr

/-- One 4 KiB piece of a DIGEST (R221). -/
def State.digestPiece (s : State) (p off n : Nat) (f : Fmt) (d : Digest) : Digest :=
  let secs := (List.range (n / 64)).map (fun i => off / 64 + i)
  let lost (x : Nat) : Bool := (s.lostCause p x).isSome
  let vals : List (Option Num) := secs.flatMap (fun x =>
    (codesOf f (mgetN s.mem (stkAddr p (64 * x)) 64)).map (fun c => if lost x then none else some (decodeNum f c)))
  let fin := vals.map (fun v => match v with | some y => if isFin y then y else .fin false 0 0 | none => .fin false 0 0)
  let add (a b : Num) : Num := ofB32 (toB32 (addNum a b))
  { sum := add d.sum (treeSum fin),
    sumsq := add d.sumsq (treeSum (fin.map (fun y => ofB32 (toB32 (mulNum y y))))),
    maxabs := fin.foldl largerFin d.maxabs,
    count := d.count + (vals.filter (fun v => match v with | some y => isFin y | none => false)).length,
    nonfin := satInc d.nonfin 32 ((vals.filter (fun v => match v with | some y => !(isFin y) | none => false)).length),
    lost := d.lost ++ secs.filter lost }

/-- The DIGEST of a range of a stack (R221); the addition of the 4 KiB results starts from +0, so that a range of −0 alone sums to +0 (DESIGN CHOICE, log 65). -/
def State.digest (s : State) (p base len : Nat) (f : Fmt) : Digest :=
  let z : Num := .fin false 0 0
  loopN ((len + 4095) / 4096) (fun i d => s.digestPiece p (base + 4096 * i) (min 4096 (len - 4096 * i)) f d) ⟨z, z, z, 0, 0, []⟩

/-- DIGEST_DONE (R221): each lost sector that the DIGEST met reports again, with operation 6 (R223, R226). -/
def State.digestDone (s : State) (site : Nat) : State :=
  if !(s.on (F.NM_STAT_DG_BUSY.at site)) then s
  else
    let p := stkOf site
    let (base, len, fmt) := (s.stk p).dg
    let d := s.digest p base len ((fmtOf fmt).getD .b32)
    let s := each d.lost (fun x s => s.lossRecord p x ((s.lostCause p x).getD 1) 6 (lossRereads ((s.lostCause p x).getD 1)) s.stewardMaster) s
    let s := (s.wr (F.DG_SUM_VALUE.at site) (toB32 d.sum)).wr (F.DG_SUMSQ_VALUE.at site) (toB32 d.sumsq)
    let s := (s.wr (F.DG_MAXABS_VALUE.at site) (toB32 d.maxabs)).wr (F.DG_COUNT.at site) d.count
    let s := (s.wr (F.DG_NONFIN_COUNT.at site) d.nonfin).wr (F.DG_RESULT_CODE.at site) (if d.lost ≠ [] then 0x2201 else 0)
    (s.wr (F.DG_RESULT_VALID.at site) 1).wr (F.NM_STAT_DG_BUSY.at site) 0

/-- MG_START (R231, R225). -/
def State.mgStart (s : State) (site : Nat) : State :=
  if s.on (F.NM_STAT_MG_ACTIVE.at site) ∨ s.quiesced site 0x22 then s
  else
    let d := s.rd (F.MG_CTL_DEST.at site)
    if d > 71 ∨ 4 * d + 2 = site ∨ s.siteState (4 * d + 2) ≠ 4 then s.nmeRecord site 0x2205 3 7 0
    else
      let s := ((s.wr (F.NM_STAT_MG_ACTIVE.at site) 1).wr (F.NM_STAT_MG_DONE.at site) 0).wr (F.MG_PTR.at site) 0
      (s.wr (F.MG_LOST_COUNT.at site) 0).setStk (stkOf site) { s.stk (stkOf site) with mgTo := d }

/-- Writes that waited for a line are performed, and what stood behind them (R206, R231). -/
def State.mgResume (s : State) (p : Nat) : State :=
  (each (s.stk p).waitLine (fun k s => s.perform p k {}) (s.setStk p { s.stk p with waitLine := [] })).stkGo p

/-- MG_LINE_COPY_ACK (R231): the line at MG_PTR is copied and acknowledged, written through the destination's cache (R210); a lost source sector reports again with operation 7, is left failing at the destination, whose own DRAM then fails its reads (cause 1), and counted (R223, R225, R226). -/
def State.mgLineAck (s : State) (site : Nat) : State :=
  let p := stkOf site
  if !(s.on (F.NM_STAT_MG_ACTIVE.at site)) ∨ s.on (F.NM_STAT_MG_DONE.at site) then s
  else
    let l := s.rd (F.MG_PTR.at site)
    let d := s.mgDest site
    let s := loopN 4 (fun i s =>
      let sec := 4 * l + i
      match s.lostCause p sec with
      | some c => (((s.lossRecord p sec c 7 (lossRereads c) 0xFFF).setFailing d sec 1).dropSector d sec).bump (F.MG_LOST_COUNT.at site)
      | none => (({ s with mem := msetN s.mem (stkAddr d (64 * sec)) (mgetN s.mem (stkAddr p (64 * sec)) 64) } : State).cureSector d sec).allocLine d l (1 <<< i) (1 <<< i) false) s
    let s := s.wr (F.MG_PTR.at site) (l + 1)
    let s := if l + 1 ≥ stackBytes / 256 then s.wr (F.NM_STAT_MG_DONE.at site) 1 else s
    s.mgResume p

/-- MG_ABORT (R231): copying and forwarding end without a record, and the destination returns to GRAFT_PENDING. -/
def State.mgAbort (s : State) (site : Nat) : State := if s.on (F.NM_STAT_MG_ACTIVE.at site) then (s.mgDrop site).mgResume (stkOf site) else s

/-- A stack fails as a destination, and the writes that waited at its sources go on (R231). -/
def State.mgLost (s : State) (site : Nat) : State :=
  let l := s.mgSources site
  each l (fun x s => s.mgResume (stkOf x)) (s.mgFailTo site)

/-- A site fenced: every page of it reads FENCED (R40, R537); bulk packets in flight toward it are discarded at its port, copies held for it are dropped, and migrations to it fail (R231, R252, R262). -/
def State.fenceSite (s : State) (n : Nat) (on : Bool) : State :=
  let s := each ((List.range 256).filter (fun pg => (blockOf n pg).isSome)) (fun pg s => s.wr (F.PG_STAT_FENCED.at n pg) (bnat on)) s
  if !on then s
  else
    let s : State := { s with msgs := s.msgs.filter (fun m => !(toward n m)) }
    let s := s.dropHolds (fun e => e.site == n) (fun _ => false)
    if isStack n then s.mgLost n else s

/-- CHANNEL_CONTACT_LOST (R224). No sector is concerned, and INFO0 of the record is 0 (DESIGN CHOICE, log 65). -/
def State.contactLost (s : State) (site ch : Nat) : State :=
  let p := stkOf site
  if ch ≥ 32 ∨ (s.stk p).failed.contains ch then s
  else
    let s := s.setStk p { s.stk p with failed := (s.stk p).failed ++ [ch] }
    let s := (s.wr (F.CH_STATE_STATE.at site ch) 4).wr (F.PG_HEALTH_STATE.at site) 2
    (s.report { code := 0x2204, site := site, unit := ch, sev := 2 }).mgLost site

/-- MG_RELEASE (R231): ignored while MG_DONE is 0; forwarding ends, and MG_DONE stands with MG_PTR at 96 GiB (R234). -/
def State.mgRelease (s : State) (site : Nat) : State :=
  if s.on (F.NM_STAT_MG_DONE.at site) then (s.wr (F.NM_STAT_MG_ACTIVE.at site) 0).mgResume (stkOf site) else s

end Sys2Proof.Machine
end

