-- ==== Sys2Proof/Machine/Panel.lean ====
section
/-! DEFINITION. Panel memory as the units reach it (R42, R206 to R212, R223, R252): reads and writes that a command makes whole (log 25), and the memory spaces of a core. -/

namespace Sys2Proof.Machine

/-- A request made whole within a command meets a stack that is not ACTIVE: the entry to self-refresh ends, or the stack wakes and serves what waited first (R228; log 25). -/
def State.wakeWhole (s : State) (p : Nat) : State :=
  let site := 4 * p + 2
  match s.rd (F.SC_STAT_PSTATE.at site) with
  | 0 => s
  | 1 => s.endEntry p
  | _ => (s.wr (F.SC_STAT_PSTATE.at site) 3).wakeDone site

/-- Read bytes inside one sector at its stack: check, cache, prefetched line, loss (R206, R208, R211, R214, R223). The result is the bytes or the code that refuses the request. -/
def State.secRead (s : State) (q : Asker) (p off n : Nat) : Except Nat (List Byte) × State :=
  let site := 4 * p + 2
  match s.stkCheck site q.master false off n with
  | some v => (.error v.1, s.deny site 1 q.master false v q.type off q.site q.slot)
  | none =>
    let s := s.wakeWhole p
    let sec := off >>> 6
    let s := if !(s.cached p sec) && s.pfInflight p (sec >>> 2) then s.prefetchFill site (sec >>> 2) 0 else s
    let hit := s.cached p sec
    let s := if hit then s.add (F.SC_HIT.at site) 1 else s.add (F.SC_MISS.at site) 1
    match s.lostCause p sec with
    | some c => (.error 0x2201, s.lossRecord p sec c q.op (lossRereads c) q.master)
    | none =>
      let s := s.pfTouch p (sec >>> 2)
      let s := if hit then s.plruUse p (setOf (sec >>> 2)) (s.wayFor p (sec >>> 2)) else s.allocLine p (sec >>> 2) (s.fillMask p (sec >>> 2)) 0 false
      (.ok (mgetN s.mem (stkAddr p off) n), s.pfGo p)

/-- A contribution of one format to bytes inside one sector at its stack, made whole: check, loss, the addition (R208, R218, R223). -/
def State.secAccum (s : State) (q : Asker) (p off : Nat) (f : Fmt) (rnd : Bool) (part : List Byte) : Except Nat Unit × State :=
  let r := s.stkRefuse p q true off part.length
  match r.1 with
  | some code => (.error code, r.2)
  | none =>
    let s := r.2.wakeWhole p
    let sec := off >>> 6
    let s := s.countHits p [sec]
    match s.lostCause p sec with
    | some _ => (.error 0x2201, s.lossRecord p sec (if (s.stk p).failed.contains (chanOf off) then 4 else 5) 2 0 q.master)
    | none =>
      let s := if s.cached p sec then s else s.allocLine p (sec >>> 2) (s.fillMask p (sec >>> 2)) 0 false
      (.ok (), s.accumSector p off f f rnd (codesOf f part))

/-- Read bytes inside one 64-byte sector of the panel space from a unit (R207, R252). -/
def State.panelSector (s : State) (q : Asker) (addr n : Nat) : Except Nat (List Byte) × State :=
  match s.xlate q.site addr with
  | .error c => (.error 0x2202, s.badAddr q addr c)
  | .ok (p, off) =>
    if !(s.routed q.site (4 * p + 2)) then (.error 0x3103, s.noRoute q addr (4 * p + 2))
    else s.secRead q p off n

/-- The pieces of a byte range in blocks of a size, lowest first. -/
def blockPieces (size addr n : Nat) : List (Nat × Nat) :=
  ((List.range ((addr % size + n + size - 1) / size)).map (fun i =>
    let a := if i = 0 then addr else addr - addr % size + size * i
    let e := min (addr + n) (addr - addr % size + size * (i + 1))
    (a, e - a))).filter (fun e => decide (0 < e.2))

/-- The sector pieces of a byte range, lowest first. -/
def sectorPieces (addr n : Nat) : List (Nat × Nat) := blockPieces 64 addr n

/-- The packets of an access made whole and their responses pass the bulk network: one of each for what lies in 4 KiB, a word without a data flit; a request that no address or route takes is not sent (R240, R241, R263, R275; log 25). -/
def State.trips (s : State) (q : Asker) (wr : Bool) (addr n : Nat) : State :=
  each (blockPieces 4096 addr n) (fun e s =>
    match s.xlate q.site e.1 with
    | .error _ => s
    | .ok (p, _) =>
      let stack := 4 * p + 2
      let flits := if e.2 ≤ 4 then 0 else (e.1 % 64 + e.2 + 63) / 64
      let go := 1 + (if wr then flits else 0)
      if !(s.routed q.site stack) then s
      else ((s.eaSpend q.site stack 0 go).passed q.site stack go).passed stack q.site (1 + flits - (if wr then flits else 0))) s

/-- Read a byte range of the panel space from a unit, sector by sector (R206, R240). -/
def State.panelRead (s : State) (q : Asker) (addr n : Nat) : Except Nat (List Byte) × State :=
  (sectorPieces addr n).foldl (fun (acc : Except Nat (List Byte) × State) e =>
    match acc.1 with
    | .error c => (.error c, acc.2)
    | .ok bs =>
      let r := acc.2.panelSector q e.1 e.2
      (match r.1 with | .error c => .error c | .ok b => .ok (bs ++ b), r.2)) (.ok [], s.trips q false addr n)

/-- Write a byte range of the panel space from a unit, sector by sector. -/
def State.panelWrite (s : State) (q : Asker) (addr : Nat) (bs : List Byte) : Except Nat Unit × State :=
  (sectorPieces addr bs.length).foldl (fun (acc : Except Nat Unit × State) e =>
    match acc.1 with
    | .error c => (.error c, acc.2)
    | .ok _ =>
      let s := acc.2
      let part := (bs.drop (e.1 - addr)).take e.2
      match s.xlate q.site e.1 with
      | .error c => (.error 0x2202, s.badAddr q e.1 c)
      | .ok (p, off) =>
        if !(s.routed q.site (4 * p + 2)) then (.error 0x3103, s.noRoute q e.1 (4 * p + 2))
        else (s.wakeWhole p).secWrite q p off part) (.ok (), s.trips q true addr bs.length)

/-- The panel addresses that name a byte of a stack for a unit: the direct one and those of the interleave sets in force (R42, R43). -/
def State.panelNames (s : State) (site p off : Nat) : List Nat :=
  stkAddr p off :: (List.range 64).filterMap (fun i =>
    let ix := 64 * s.activeCopy site 0 + i
    let n := s.rd (F.AM_SET_N.at site 0 ix)
    let from_ := (s.rd (F.AM_START_START.at site 0 ix)) <<< 30
    if !(s.on (F.AM_SET_VALID.at site 0 ix)) ∨ off < from_ then none
    else
      match (List.range n).find? (fun j => s.rd (F.AM_LIST_P.at site 0 (64 * ix + j)) == p) with
      | none => none
      | some j =>
        let a := ((off - from_) / 4096 * n + j) * 4096 + off % 4096
        if a < (s.rd (F.AM_SIZE_SIZE.at site 0 ix)) <<< 30 then some (2 ^ 47 + (s.rd (F.AM_BASE_BASE.at site 0 ix)) <<< 30 + a) else none)

/-- Does a request that has arrived at a stack and is not performed yet concern a sector of these panel ranges (R206)? -/
def State.panelHeld (s : State) (site : Nat) (l : List (Nat × Nat)) : Bool :=
  s.stkRecs.any (fun e =>
    let p := e.1.headD 0
    ((e.2.waitWake ++ e.2.waiting).flatMap pktSecs).any (fun x => (s.panelNames site p (64 * x)).any (fun a => l.any (fun r => decide (r.1 < a + 64 ∧ a < r.1 + r.2)))))

/-- Do panel ranges that are to be written hold a byte of a line that a migration is copying (R231)? -/
def State.lineHeld (s : State) (site : Nat) (l : List (Nat × Nat)) : Bool :=
  allStacks.any (fun x =>
    s.on (F.NM_STAT_MG_ACTIVE.at x) && !(s.on (F.NM_STAT_MG_DONE.at x)) &&
    (s.panelNames site (stkOf x) (256 * s.rd (F.MG_PTR.at x))).any (fun a => l.any (fun r => decide (r.1 < a + 256 ∧ a < r.1 + r.2))))

/-- The operation of a record for a descriptor's request (R226). -/
def stkOp (wr : Bool) (dop : Nat) : Nat := if dop = 0x22 then (if wr then 5 else 4) else if dop = 0x23 then 3 else bnat wr

/-- Read bytes of a tensor's space as a core sees it: panel physical, core memory, die memory (R117, R178, R179); a word whose parity fails twice is lost (R195). -/
def State.spaceRead (s : State) (c : CoreId) (w : Who) (space addr n : Nat) : Except Nat (List Byte) × State :=
  if space = 0 then s.panelRead { master := s.ctxOf c, site := c.site, slot := c.slot, type := 1, op := stkOp false w.op } addr n
  else if space = 1 then
    match s.badWord 0 (coreAddr c addr) n with
    | some k => (.error 0x2101, s.cmLost c (k - coreAddr c 0) w)
    | none => (.ok (mgetN s.cmem (coreAddr c addr) n), s)
  else
    match s.badWord 1 (dieAddr c.site addr) n with
    | some k => (.error 0x2102, s.dmLost c (k - dieAddr c.site 0) w)
    | none => (.ok (mgetN s.dmem (dieAddr c.site addr) n), s)

/-- Write bytes of a tensor's space as a core sees it. -/
def State.spaceWrite (s : State) (c : CoreId) (w : Who) (space addr : Nat) (bs : List Byte) : Except Nat Unit × State :=
  if space = 0 then s.panelWrite { master := s.ctxOf c, site := c.site, slot := c.slot, type := 2, op := stkOp true w.op } addr bs
  else if space = 1 then (.ok (), s.corePut c addr bs)
  else (.ok (), s.diePut c.site addr bs)

end Sys2Proof.Machine
end

