-- ==== Sys2Proof/Machine/Operands.lean ====
section
/-! DEFINITION. Operand forms: the fields of descriptors (R108 to R142), tensor references (R117 to R119), blocks, elements and scales of tensors (R57 to R59, R81, R83), and index lists (R132). A descriptor is the 512-bit number of its 64 bytes, little-endian. -/

namespace Sys2Proof.Machine

/-- Bits [msb:lsb] counted from bit 0 of a byte of a descriptor. -/
def df (d byte msb lsb : Nat) : Nat := bits d (8 * byte + msb) (8 * byte + lsb)

/-- OPCODE (R109, R110). -/
def dOp (d : Nat) : Nat := d % 256

/-- A FLAGS bit (R111). -/
def dFlag (d n : Nat) : Bool := (df d 1 7 0).testBit n

/-- CREC (R115). -/
def dCrec (d : Nat) : Nat := df d 4 15 0

/-- SIG.EN (R109). -/
def dSigEn (d : Nat) : Bool := d.testBit 31

/-- SIG.VID (R109). -/
def dSigVid (d : Nat) : Nat := df d 2 11 0

/-- The increment of the header signal: INC + 1 (R109, R114). -/
def dSigInc (d : Nat) : Nat := df d 2 14 12 + 1

/-- VID and THRESH of header wait entry e (R109). -/
def dWait (d e : Nat) : Nat × Nat := (df d 6 (20 * e + 11) (20 * e), df d 6 (20 * e + 19) (20 * e + 12))

/-- The used entries of a header wait set: index, VID, THRESH, consuming (R109, R111, R112). -/
def dWaitSet (d : Nat) : List (Nat × Nat × Nat × Bool) :=
  (List.range 4).filterMap (fun e =>
    let (v, t) := dWait d e
    if t = 0 then none else some (e, v, t, dFlag d e))

/-- Payload entries of SIGNAL and WAIT: index, VID, INC or THRESH (R134, R135). -/
def dEntries (d : Nat) : List (Nat × Nat × Nat) :=
  (List.range (df d 16 2 0)).map (fun e => (e, df d (24 + 8 * e) 11 0, df d (28 + 8 * e) 23 0))

/-- The bits that the map of an opcode names, as (byte, lowest bit, width) from byte 16 on (R127 to R142). -/
def opFields (op : Nat) : Option (List (Nat × Nat × Nat)) :=
  let entries := (List.range 4).flatMap (fun e => [(24 + 8 * e, 0, 12), (28 + 8 * e, 0, 24)])
  match op with
  | 0x01 | 0x02 | 0x07 | 0x09 => some []
  | 0x03 => some [(16, 0, 32)]
  | 0x04 => some [(16, 0, 2), (17, 0, 4), (18, 0, 16)]
  | 0x05 | 0x06 => some [(16, 0, 1), (20, 0, 32), (24, 0, 48)]
  | 0x08 => some [(16, 0, 24), (20, 0, 8), (22, 0, 12), (24, 0, 32), (28, 0, 32)]
  | 0x10 => some ((16, 0, 3) :: entries)
  | 0x11 => some ((16, 0, 3) :: (17, 0, 4) :: (18, 0, 24) :: entries)
  | 0x12 => some [(16, 0, 12), (20, 0, 24), (24, 0, 24)]
  | 0x18 => some [(16, 0, 12), (18, 0, 1), (20, 0, 24), (24, 0, 48)]
  | 0x20 | 0x21 | 0x22 | 0x23 | 0x24 | 0x25 | 0x26 | 0x27 =>
    some [(16, 0, 128), (32, 0, 5), (34, 0, 12), (38, 0, 12), (40, 0, 64), (48, 0, 48), (54, 0, 2)]
  | 0x30 | 0x31 => some [(16, 0, 3), (17, 0, 3), (17, 4, 2), (18, 0, 48), (24, 0, 16), (26, 0, 128), (42, 0, 6), (44, 0, 2), (48, 0, 128)]
  | 0x40 | 0x41 => some [(16, 0, 192), (40, 0, 18)]
  | 0x42 => some [(16, 0, 168), (37, 0, 6), (38, 0, 6), (40, 0, 9)]
  | _ => none

/-- The mask of a list of fields. -/
def fieldMask (l : List (Nat × Nat × Nat)) : Nat :=
  l.foldl (fun m f => m ||| ((2 ^ f.2.2 - 1) <<< (8 * f.1 + f.2.1))) 0

/-- Has the descriptor a nonzero bit that its map does not name (R108)? FLAGS [7] is reserved (R111). -/
def reservedSet (d : Nat) (l : List (Nat × Nat × Nat)) : Bool :=
  let named := fieldMask l ||| (2 ^ 128 - 1) - (1 <<< 15)
  decide (d % 2 ^ 512 &&& named ≠ d % 2 ^ 512)

/-- The byte offset of the first byte that holds a nonzero bit the map does not name (R143). -/
def reservedOff (d : Nat) (l : List (Nat × Nat × Nat)) : Nat :=
  let named := fieldMask l ||| (2 ^ 128 - 1) - (1 <<< 15)
  ((List.range 64).find? (fun b => df d b 7 0 &&& df named b 7 0 ≠ df d b 7 0)).getD 0

/-- The 24 bytes of a tensor reference (R117). -/
def trefOf (b : List Byte) : TRef :=
  let v := leNat b
  let sh := bits v 191 144
  { base := bits v 47 0, scale := bits v 95 48, freeze := bits v 143 96, fmt := bits sh 3 0, space := bits sh 5 4,
    brows := bits sh 18 6, bcols := bits sh 31 19, pitch := bits sh 47 32 }

/-- Block size in bytes for a format code; E8M0 and reserved codes never pass the format check. -/
def zOf (fmt : Nat) : Nat := match fmtOf fmt with | some f => blockBytes f | none => 1024

/-- The distance P between block rows (R118). -/
def TRef.rowBytes (t : TRef) : Nat := if t.pitch = 0 then t.bcols * zOf t.fmt else t.pitch * 512

/-- The address of block (i, j) (R118). -/
def TRef.block (t : TRef) (i j : Nat) : Nat := t.base + i * t.rowBytes + j * zOf t.fmt

/-- The element format of a checked reference. -/
def TRef.f (t : TRef) : Fmt := (fmtOf t.fmt).getD .b32

/-- Has the reference a scale plane (R117). -/
def TRef.scaled (t : TRef) : Bool := decide (t.scale ≠ 0)

/-- The address of the scale bytes of block (i, j) (R58). -/
def TRef.scales (t : TRef) (i j : Nat) : Nat := t.scale + 16 * (i * t.bcols + j)

/-- The ranges of a tensor's space that its reference names: elements, scale plane, freeze mask (R58, R97, R118). -/
def TRef.spans (t : TRef) : List (Nat × Nat) :=
  (t.base, t.brows * t.rowBytes) :: (if t.scaled then [(t.scale, 16 * t.brows * t.bcols)] else []) ++
    (if t.freeze = 0 then [] else [(t.freeze, (t.brows * t.bcols + 7) / 8)])

/-- The first address after the space that holds an address, as SPACE and R118 bound it; none where the address names no place. -/
def State.spaceEnd (s : State) (site space addr : Nat) : Option Nat :=
  if space = 0 then s.regionEnd site addr
  else if space = 1 then some 0x400000
  else if space = 2 then some 0x3000000
  else none

/-- The checks of a tensor reference in the order of R118: format and scale plane (R76), the reference itself, the freeze mask (R97). The answer is the code of the first failure. -/
def State.trefCheck (s : State) (site : Nat) (t : TRef) : Option Nat :=
  match fmtOf t.fmt with
  | none => some 0x1001
  | some f =>
    let z := blockBytes f
    let p := t.rowBytes
    if scaleRequired f && !t.scaled then some 0x1002
    else if t.scaled && !(scaleAllowed f) then some 0x1003
    else if t.scale % 16 ≠ 0 then some 0x1004
    else if t.base % 512 ≠ 0 ∨ t.brows = 0 ∨ t.bcols = 0 ∨ (t.pitch ≠ 0 ∧ p < t.bcols * z) ∨ t.space = 3 then some 0x5106
    else
      match s.spaceEnd site t.space t.base with
      | none => some 0x5106
      | some e =>
        if t.base + (t.brows - 1) * p + t.bcols * z > e then some 0x5106
        else
          let planeBad := t.scaled && (match s.spaceEnd site t.space t.scale with
            | none => true
            | some e => decide (t.scale + 16 * t.brows * t.bcols > e))
          if planeBad then some 0x5106
          else
            let maskBad := decide (t.freeze ≠ 0) && (match s.spaceEnd site t.space t.freeze with
              | none => true
              | some e => decide (t.freeze + (t.brows * t.bcols + 7) / 8 > e))
            if maskBad then some 0x1105 else none

/-- A tensor reference read from the running context's table at SQ_TREF (R117, R119): none where the table read fails, with its code. -/
def State.trefRead (s : State) (c : CoreId) (ix : Nat) : Except Nat TRef × State :=
  let base := (s.rd (F.SQ_TREF.core c)) <<< 5
  let r := s.panelRead { master := s.ctxOf c, site := c.site, slot := c.slot, type := 1, op := 0 } (base + 32 * ix) 24
  (match r.1 with | .error e => .error e | .ok b => .ok (trefOf b), r.2)

/-- IX[sel], 0 adding nothing (R128). -/
def ixSel (ixs : List Nat) (sel : Nat) : Nat := if sel = 0 then 0 else ixs.getD (sel - 1) 0

/-- An origin field with its index register added, modulo 2^16 (R128). -/
def origin (ixs : List Nat) (field sel : Nat) : Nat := (field + ixSel ixs sel) % 65536

/-- Storage index of an element of a block (R81). -/
def elemIndex (r c : Nat) : Nat := 32 * r + c

/-- The element codes of a block's bytes, in storage order (R55, R81). -/
def blockCodes (f : Fmt) (bs : List Byte) : List Nat := codesOf f bs

/-- The values of a block: each code with the scale byte of its 8 × 8 sub-block (R57, R58). -/
def blockValues (f : Fmt) (bs sc : List Byte) : List Num :=
  (blockCodes f bs).mapIdx (fun k code =>
    let r := k / 32
    let c := k % 32
    if sc.isEmpty then decodeNum f code
    else decodeScaled f code ((sc.getD (4 * (r / 8) + c / 8) 127).toNat))

/-- Read the element bytes and scale bytes of block (i, j) (R58, R118). -/
def State.readBlock (s : State) (c : CoreId) (w : Who) (t : TRef) (i j : Nat) : Except Nat (List Byte × List Byte) × State :=
  let r := s.spaceRead c w t.space (t.block i j) (zOf t.fmt)
  match r.1 with
  | .error e => (.error e, r.2)
  | .ok bs =>
    if t.scaled then
      let q := r.2.spaceRead c w t.space (t.scales i j) 16
      (match q.1 with | .error e => .error e | .ok sc => .ok (bs, sc), q.2)
    else (.ok (bs, []), r.2)

/-- Write the element bytes, and the scale bytes where the tensor has a plane, of block (i, j). -/
def State.writeBlock (s : State) (c : CoreId) (w : Who) (t : TRef) (i j : Nat) (bs sc : List Byte) : Except Nat Unit × State :=
  let r := s.spaceWrite c w t.space (t.block i j) bs
  match r.1 with
  | .error e => (.error e, r.2)
  | .ok _ => if t.scaled then r.2.spaceWrite c w t.space (t.scales i j) sc else (.ok (), r.2)

/-- The 16 scale bytes and the element codes of 1,024 values converted into a format, sub-blocks scaled per R60 and R61; elements take draws in storage order (R89). -/
def convertBlock (f : Fmt) (scaled sr ovf : Bool) (vals : List Num) (g : Gen) : List Byte × List Byte × Gen :=
  if scaled then
    let sub (u v : Nat) : List Num := (List.range 64).map (fun k => vals.getD (32 * (8 * u + k / 8) + 8 * v + k % 8) .nan)
    let info : List (Bool × Nat) := (List.range 16).map (fun n =>
      let xs := sub (n / 4) (n % 4)
      let nanIn := decide (f = .e2m1) && xs.any isNan
      (nanIn, if nanIn then 0xFF else scaleFor f xs))
    let pre := vals.mapIdx (fun k x => scaleNum x (127 - (((info.getD (4 * (k / 256) + k % 32 / 8) (false, 127)).2 : Nat) : Int)))
    let (cs, g') := convertList f sr ovf pre g
    let cs := cs.mapIdx (fun k c => if (info.getD (4 * (k / 256) + k % 32 / 8) (false, 127)).1 then 0 else c)
    (info.map (fun e => BitVec.ofNat 8 e.2), bytesOf f cs, g')
  else
    let (cs, g') := convertList f sr ovf vals g
    ([], bytesOf f cs, g')

/-- A block transposed, as values or as codes in storage order (R59). -/
def transpose {α : Type} (d : α) (l : List α) : List α := (List.range 1024).map (fun k => l.getD (32 * (k % 32) + k / 32) d)

/-- The 16 scale bytes transposed (R59). -/
def transposeScales (l : List Byte) : List Byte := (List.range 16).map (fun n => l.getD (4 * (n % 4) + n / 4) 0)

end Sys2Proof.Machine
end

