-- ==== Sys2Proof/Machine/Events.lean ====
section
/-! DEFINITION. Records as bytes (R12, R115) and their delivery to the host event queues and MSI-X (R351 to R353). -/

namespace Sys2Proof.Machine

/-- The 32 bytes of an error record (R12). -/
def recBytes (r : Rec) : List Byte :=
  natLe r.code 2 ++ natLe r.site 2 ++ natLe r.unit 1 ++ natLe (r.sev + 4 * bnat r.lost) 1 ++ natLe (r.master % 4096) 2 ++
    natLe r.time 8 ++ natLe r.info0 4 ++ natLe r.info1 4 ++ natLe r.info2 4 ++ natLe r.seq 4

/-- The 32 bytes of a completion record or a work record (R115, R324). -/
def doneBytes (status op : Nat) (signalled : Bool) (site slot time cnt0 cnt1 daddr : Nat) : List Byte :=
  natLe status 2 ++ natLe op 1 ++ natLe (1 + 2 * bnat signalled) 1 ++ natLe site 2 ++ natLe slot 1 ++ natLe 0 1 ++
    natLe time 8 ++ natLe cnt0 4 ++ natLe cnt1 4 ++ natLe daddr 6 ++ natLe 0 2

/-- An event queue's own record at its start. -/
def eqReset : EqSt := { until_ := 0, uncovered := false, dropped := 0, told := 0 }

/-- An event queue's own record. -/
def State.eq (s : State) (port e : Nat) : EqSt := tget eqReset s.eqs [port, e]

/-- An event queue's own record replaced. -/
def State.setEq (s : State) (port e : Nat) (r : EqSt) : State := { s with eqs := tset eqReset s.eqs [port, e] r }

/-- A byte of a port's MSI-X table: kept as it differs from reset, where every vector is masked (PRESUMED, log 6). -/
def State.msixByte (s : State) (port a : Nat) : Byte :=
  mget s.msixTab (port * 65536 + a) ^^^ (if a % 16 = 12 then 1 else 0)

/-- A little-endian number in a port's MSI-X table. -/
def State.msixNat (s : State) (port a n : Nat) : Nat := leNat ((List.range n).map (fun i => s.msixByte port (a + i)))

/-- An MSI-X message of a vector: sent when the vector is not masked, else pending (R343, R353). -/
def State.msixSend (s : State) (port vec : Nat) : State :=
  let a := 16 * vec
  if s.msixNat port (a + 12) 4 % 2 = 1 then { s with msixPend := tset 0 s.msixPend [port, vec] 1 }
  else s.send (.hostWrite port (s.msixNat port a 8) (natLe (s.msixNat port (a + 8) 4) 4))

/-- A message for an event queue: at once, or covered by the next when one was sent within IMOD (R353). -/
def State.eqNotify (s : State) (port e : Nat) : State :=
  let site := 304 + port
  let imod := s.rd (F.EQ_CFG_IMOD.at site 0 e)
  let k := s.eq port e
  if imod ≠ 0 ∧ s.now site < k.until_ then s.setEq port e { k with uncovered := true }
  else (s.msixSend port (s.rd (F.EQ_CFG_VECTOR.at site 0 e))).setEq port e
    { k with until_ := s.now site + imod * 1000, uncovered := false }

/-- A record posted to an event queue of a port (R351, R352, R353). -/
def State.eqPut (s : State) (port e kind : Nat) (rec : List Byte) : State :=
  let site := 304 + port
  if !(s.on (F.EQ_CFG_ENABLE.at site 0 e)) then s
  else
    let tail := s.rd (F.EQ_TAIL_TAIL.at site 0 e)
    let head := s.rd (F.EQ_HEAD_HEAD.at site 0 e)
    let lg := s.rd (F.EQ_CFG_LOG2SIZE.at site 0 e)
    if (tail + 2 ^ 32 - head) % 2 ^ 32 = 2 ^ lg then
      let k := s.eq port e
      let s := (s.bump (F.EQ_DROP_COUNT.at site 0 e)).wr (F.EQ_CFG_OVF.at site 0 e) 1
      let d := satInc k.dropped 32
      if k.told ≠ 0 ∧ s.now site < (k.told - 1) + 1000000 then s.setEq port e { k with dropped := d }
      else
        (s.report { code := 0xC105, site := site, unit := port, sev := 0, info0 := e, info1 := d }).setEq port e
          { k with dropped := 0, told := s.now site + 1 }
    else
      let addr := (s.rd (F.EQ_BASE.at site 0 e)) <<< 12 + 64 * (tail % 2 ^ lg)
      let entry := rec ++ natLe tail 4 ++ natLe kind 1 ++ natLe ((tail >>> lg + 1) % 2) 1 ++ natLe 0 26
      let s := s.send (.hostWrite port addr entry)
      let s := s.wr (F.EQ_TAIL_TAIL.at site 0 e) (tail + 1)
      s.eqNotify port e

/-- A record posted to the event queue that a QU_EVQ value names (R351): 0 to 511 at port 0, 512 to 1,023 at port 1, none above. -/
def State.evqPut (s : State) (evq kind : Nat) (rec : List Byte) : State :=
  if evq < 512 then s.eqPut 0 evq kind rec
  else if evq < 1024 then s.eqPut 1 (evq - 512) kind rec
  else s

end Sys2Proof.Machine
end

