-- ==== Sys2Proof/Machine/Check.lean ====
section
/-! DEFINITION. The checks a descriptor meets before it moves any data: R76, R104, R108 to R143, R173, R184, and the errors they give. -/

namespace Sys2Proof.Machine

/-- An error of R143: cause, byte offset of the field, tensor position, opcode. -/
def dErr (code cause off pos op : Nat) : Err :=
  { code := code, info0 := cause + off <<< 8 + pos <<< 16 + op <<< 24, form := 0 }

/-- An error of R104 (causes) or R173 (no instruction): cause and opcode. -/
def eErr (code cause op : Nat) : Err := { code := code, info0 := cause + op <<< 24, form := 0 }

/-- The first check that fails. -/
def firstErr (l : List (Bool × Err)) : Option Err := (l.find? (fun e => e.1)).map (fun e => e.2)

/-- The partition of the context bound to a core (R307). -/
def State.partOfCore (s : State) (c : CoreId) : Nat := s.rd (F.CX_CFG_PART.at stw 0 (s.ctxOf c))

/-- Is the core's partition marked production (R305). -/
def State.production (s : State) (c : CoreId) : Bool := s.on (F.PT_CFG_PRODUCTION.at stw 0 (s.partOfCore c))

/-- Does a list hold a value twice. -/
def hasDup : List Nat → Bool
  | [] => false
  | a :: r => r.contains a || hasDup r

/-- Index registers IX1 to IX7 (R146). -/
def State.ixRegs (s : State) (c : CoreId) : List Nat :=
  [s.rd (F.SQ_IX1_IX.core c), s.rd (F.SQ_IX2_IX.core c), s.rd (F.SQ_IX3_IX.core c), s.rd (F.SQ_IX4_IX.core c),
   s.rd (F.SQ_IX5_IX.core c), s.rd (F.SQ_IX6_IX.core c), s.rd (F.SQ_IX7_IX.core c)]

/-- One index register set. -/
def State.setIx (s : State) (c : CoreId) (n v : Nat) : State :=
  match n with
  | 1 => s.wr (F.SQ_IX1_IX.core c) v
  | 2 => s.wr (F.SQ_IX2_IX.core c) v
  | 3 => s.wr (F.SQ_IX3_IX.core c) v
  | 4 => s.wr (F.SQ_IX4_IX.core c) v
  | 5 => s.wr (F.SQ_IX5_IX.core c) v
  | 6 => s.wr (F.SQ_IX6_IX.core c) v
  | 7 => s.wr (F.SQ_IX7_IX.core c) v
  | _ => s

/-- All seven index registers set. -/
def State.setIxs (s : State) (c : CoreId) (l : List Nat) : State :=
  loopN 7 (fun i s => s.setIx c (i + 1) (l.getD i 0)) s

/-- ACC_IN and ACC_OUT of MM and MM_ACC (R127). -/
def mmIn (d : Nat) : Nat := df d 39 3 2
/-- ACC_OUT of MM and MM_ACC. -/
def mmOut (d : Nat) : Nat := df d 39 5 4
/-- TM and TN: 1, 2 or 4; 0 for the reserved code (R127). -/
def tileCode (v : Nat) : Nat := match v with | 0 => 1 | 1 => 2 | 2 => 4 | _ => 0
/-- ACC_IN of the two halves of PBP, dX then dW (R129). -/
def pbpIn (d half : Nat) : Nat := if half = 1 then df d 37 3 2 else df d 38 1 0
/-- ACC_OUT of the two halves of PBP. -/
def pbpOut (d half : Nat) : Nat := if half = 1 then df d 37 5 4 else df d 38 3 2

/-- The tensor indices of a descriptor: position, byte, index, whether it must name a tensor (R127, R129, R130, R133). -/
def tensorIxs (d : Nat) : List (Nat × Nat × Nat × Bool) :=
  let at' (b : Nat) : Nat := df d b 15 0
  match dOp d with
  | 0x20 | 0x21 | 0x22 | 0x24 | 0x25 | 0x26 | 0x27 => [(0, 16, at' 16, true), (1, 18, at' 18, true)]
  | 0x23 => [(0, 16, 0xFFFF, false), (1, 18, at' 18, true)]
  | 0x30 | 0x31 => [(0, 26, at' 26, false), (1, 28, at' 28, false), (2, 30, at' 30, false), (3, 32, at' 32, false)]
  | 0x40 | 0x41 =>
    [(0, 16, at' 16, true), (1, 18, at' 18, true), (2, 20, at' 20, decide (mmOut d ≠ 0)), (3, 22, at' 22, decide (mmIn d = 2))]
  | 0x42 =>
    [(0, 16, at' 16, true), (1, 18, at' 18, true), (2, 20, at' 20, true), (3, 22, at' 22, decide (pbpOut d 1 ≠ 0)),
     (4, 24, at' 24, decide (pbpOut d 2 ≠ 0)), (5, 26, at' 26, decide (pbpIn d 1 = 2)), (6, 28, at' 28, decide (pbpIn d 2 = 2))]
  | _ => []

/-- Does the opcode name tensors: is it executed by an engine or a channel (R120). -/
def isEngine (op : Nat) : Bool := decide (0x20 ≤ op)

/-- The agent that executes a descriptor (R110, R120, R130). -/
def agentOf (d : Nat) : Agent :=
  if 0x40 ≤ dOp d then .matrix else if 0x30 ≤ dOp d then .vector else if d.testBit (8 * 32) then .dma1 else .dma0

/-- Checks of the fields of one opcode that need no tensor (R127 to R143). -/
def opChecks (d : Nat) (prod : Bool) (lim loops calls : Nat) (endOfBody innermost : Bool) : List (Bool × Err) :=
  let op := dOp d
  let c1 (off : Nat) : Err := dErr 0x5102 1 off 0 op
  let idx : List (Bool × Err) := (tensorIxs d).flatMap (fun (p, off, ix, req) =>
    [(decide (ix = 0xFFFF) && req, dErr 0x5105 0 off p op), (decide (ix ≠ 0xFFFF ∧ ix ≥ lim), dErr 0x5105 0 off p op)])
  let nr := df d 28 15 0
  let nc := df d 30 15 0
  let cnt := df d 44 31 0
  let listed := decide (op = 0x26 ∨ op = 0x27)
  (match op with
  | 0x04 => [(decide (df d 16 1 0 ≥ 2), c1 16)]
  | 0x05 | 0x06 =>
    [(d.testBit 128 && decide (df d 24 47 0 % 64 ≠ 0), dErr 0x5103 0 24 0 op),
     (decide (op = 0x06 ∧ calls ≥ 8), dErr 0x5109 1 0 0 op)]
  | 0x07 => [(decide (calls = 0), dErr 0x5109 2 0 0 op)]
  | 0x08 =>
    [(decide (df d 20 7 0 = 0 ∨ df d 20 7 0 > 7), c1 20), (decide (df d 22 11 0 = 0), c1 22),
     (decide (df d 16 23 0 ≠ 0 ∧ loops ≥ 4), dErr 0x5108 1 0 0 op)]
  | 0x10 =>
    [(decide (df d 16 2 0 = 0 ∨ df d 16 2 0 > 4), c1 16)] ++
      (dEntries d).map (fun (e, _, k) => (decide (k = 0), c1 (28 + 8 * e)))
  | 0x11 =>
    [(decide (df d 16 2 0 = 0 ∨ df d 16 2 0 > 4), c1 16)] ++
      (dEntries d).map (fun (e, _, k) => (decide (k = 0), c1 (28 + 8 * e))) ++
      [(hasDup ((dEntries d).map (fun e => e.2.1)), dErr 0x5102 2 24 0 op), (prod && decide (df d 18 23 0 = 0), dErr 0x510B 0 18 0 op)]
  | 0x12 => [(decide (df d 20 23 0 = 0), c1 20), (prod && decide (df d 24 23 0 = 0), dErr 0x510B 0 24 0 op)]
  | 0x18 =>
    [(decide (df d 24 47 0 % 64 ≠ 0), c1 24),
     (prod && !(d.testBit 144) && decide (df d 20 23 0 = 0), dErr 0x510B 0 20 0 op)]
  | 0x20 | 0x21 | 0x22 | 0x23 | 0x24 | 0x25 | 0x26 | 0x27 =>
    [(decide (op = 0x23 ∧ df d 16 15 0 ≠ 0xFFFF), c1 16), (decide (op ≠ 0x25 ∧ df d 38 15 0 ≠ 0), c1 38),
     (decide (op ≠ 0x23 ∧ df d 40 31 0 ≠ 0), c1 40), (!listed && decide (cnt ≠ 0), c1 44), (!listed && decide (df d 48 47 0 ≠ 0), c1 48),
     (decide (df d 54 1 0 = 3), c1 54), (decide (op ≠ 0x27) && d.testBit 260, c1 32),
     (decide (nr = 0 ∨ nr > 8191), dErr 0x5107 2 28 0 op), (decide (nc = 0 ∨ nc > 8191), dErr 0x5107 2 30 0 op),
     (listed && decide (cnt = 0 ∨ cnt > 1048576), dErr 0x5107 2 44 0 op),
     (listed && (d.testBit 259 || decide (nr ≠ (cnt + 31) / 32)), dErr 0x5107 4 (if d.testBit 259 then 32 else 28) 0 op)] ++ idx
  | 0x30 | 0x31 =>
    let nr := df d 38 15 0
    let nc := df d 40 15 0
    let red := decide (op = 0x31)
    [(decide (op = 0x30 ∧ df d 17 7 0 ≠ 0), c1 17), (red && decide (df d 17 2 0 ≥ 4 ∨ df d 17 5 4 = 3), c1 17),
     (decide (nr = 0 ∨ nr > 8191), dErr 0x5107 2 38 0 op), (decide (nc = 0 ∨ nc > 8191), dErr 0x5107 2 40 0 op)] ++ idx ++
    [(decide (df d 30 15 0 = df d 32 15 0 ∧ df d 30 15 0 ≠ 0xFFFF), eErr 0x1205 2 op),
     (red && decide (df d 30 15 0 ≠ 0xFFFF ∨ df d 32 15 0 = 0xFFFF ∨ (df d 17 5 4 = 1 ∧ nc > 128)), eErr 0x1205 3 op)]
  | 0x40 | 0x41 =>
    let tm := tileCode (df d 38 1 0)
    let tn := tileCode (df d 38 3 2)
    [(decide (mmIn d = 3 ∨ mmOut d = 3), c1 39), (decide ((op = 0x40 ∧ mmIn d ≠ 0) ∨ (op = 0x41 ∧ mmIn d = 0)), dErr 0x5102 3 39 0 op),
     (decide (mmIn d ≠ 2 ∧ df d 22 15 0 ≠ 0xFFFF), c1 22)] ++ idx ++
    [(decide (tm = 0 ∨ tn = 0 ∨ df d 38 7 4 + tm * tn > 16), eErr 0x1104 1 op),
     (decide (df d 36 15 0 = 0 ∨ df d 36 15 0 > 2048), eErr 0x1104 3 op)]
  | 0x42 =>
    [(decide (pbpIn d 1 = 3 ∨ pbpOut d 1 = 3), c1 37), (decide (pbpIn d 2 = 3 ∨ pbpOut d 2 = 3), c1 38),
     (decide (pbpIn d 1 ≠ 2 ∧ df d 26 15 0 ≠ 0xFFFF), c1 26), (decide (pbpIn d 2 ≠ 2 ∧ df d 28 15 0 ≠ 0xFFFF), c1 28)] ++ idx ++
    [(decide (df d 36 7 0 = 0 ∨ df d 36 7 0 > 8), eErr 0x1104 4 op)]
  | _ => []) ++
  [(endOfBody && decide (op ≠ 0x09), dErr 0x5108 2 0 0 op), (decide (op = 0x09) && !(endOfBody && innermost), dErr 0x5108 2 0 0 op)]

/-- The checks a descriptor meets when the sequencer reaches it (R108, R110, R112, R113, R115, R143). -/
def State.reachCheck (s : State) (c : CoreId) (addr d : Nat) : Option Err :=
  let op := dOp d
  let k := s.core c
  match opFields op with
  | none => some (dErr 0x5101 0 0 0 op)
  | some fs =>
    let top := k.loops.getLast?
    let atEnd := match top with | some e => decide (addr = e.first + 64 * e.body) | none => false
    firstErr ([(reservedSet d fs, dErr 0x5102 1 (reservedOff d fs) 0 op),
      (hasDup ((dWaitSet d).map (fun e => e.2.1)), dErr 0x5102 2 6 0 op)] ++
      opChecks d (s.production c) (s.rd (F.SQ_TREF_LIM_LIMIT.core c)) k.loops.length k.calls.length atEnd top.isSome ++
      [(decide (dCrec d ≠ 0xFFFF ∧ dCrec d ≥ s.rd (F.SQ_CREC_LIM_LIMIT.core c)), dErr 0x510A 0 4 0 op),
       (s.production c && !(dWaitSet d).isEmpty && decide (s.rd (F.SQ_HDR_TMO_TMO.core c) = 0), dErr 0x510B 0 6 0 op)])

/-- A part of a tensor that a descriptor touches: block origin, block rows and columns. -/
structure Touch where
  t : TRef
  i : Nat
  j : Nat
  nr : Nat
  nc : Nat
  deriving DecidableEq, Repr

/-- Is a region inside its tensor's grid (R132, R128). -/
def Touch.inside (r : Touch) : Bool := decide (r.i + r.nr ≤ r.t.brows ∧ r.j + r.nc ≤ r.t.bcols)

/-- Are a region's block rows inside its tensor's grid. -/
def Touch.rowsIn (r : Touch) : Bool := decide (r.i + r.nr ≤ r.t.brows)

/-- The bytes of a tensor's freeze mask that the blocks of a region have their bits in, a block row at a time (R97). -/
def Touch.maskRanges (r : Touch) : List (Nat × Nat) :=
  if r.t.freeze = 0 ∨ r.nc = 0 then []
  else (List.range r.nr).map (fun k =>
    let a := ((r.i + k) * r.t.bcols + r.j) / 8
    (r.t.freeze + a, ((r.i + k) * r.t.bcols + r.j + r.nc - 1) / 8 - a + 1))

/-- The byte ranges of a region in its tensor's space: elements and scales, a block row at a time. -/
def Touch.ranges (r : Touch) : List (Nat × Nat) :=
  (List.range r.nr).flatMap (fun k =>
    (r.t.block (r.i + k) r.j, r.nc * zOf r.t.fmt) ::
      (if r.t.scaled then [(r.t.scales (r.i + k) r.j, 16 * r.nc)] else []))

/-- The first address of a list of die-memory ranges that lies in a region the context may not reach (R184). -/
def State.dieRefused (s : State) (site ctx : Nat) (l : List (Nat × Nat)) : Option Nat :=
  (l.flatMap (fun (a, n) => if n = 0 then [] else
      (List.range ((a + n - 1) / 0x100000 - a / 0x100000 + 1)).map (fun k => max a ((a / 0x100000 + k) * 0x100000)))).find? (fun a =>
    let g := a / 0x100000
    !(decide (g < 48) && s.on (F.DIEMEM_REGION_VALID.at site 0 g) && decide (s.rd (F.DIEMEM_REGION_OWNER.at site 0 g) = ctx)))

/-- A requester's code in the records of R198. -/
def requesterOf : Agent → Nat
  | .dma0 => 0 | .dma1 => 1 | .matrix => 2 | .vector => 3

/-- The region of a data descriptor at its source and destination (R130, R132). -/
def dataTouch (d : Nat) (ix : List Nat) (ts td : Option TRef) : List Touch :=
  let si := origin ix (df d 20 15 0) (df d 34 2 0)
  let sj := origin ix (df d 22 15 0) (df d 34 5 3)
  let di := origin ix (df d 24 15 0) (df d 34 8 6)
  let dj := origin ix (df d 26 15 0) (df d 34 11 9)
  let nr := df d 28 15 0
  let nc := df d 30 15 0
  let tr := d.testBit 259
  let src := match ts with
    | none => []
    | some t => if dOp d = 0x26 then [⟨t, 0, sj, t.brows, nc⟩] else [⟨t, si, sj, nr, nc⟩]
  let dst := match td with
    | none => []
    | some t =>
      if dOp d = 0x27 then [⟨t, 0, dj, t.brows, nc⟩] else if tr then [⟨t, di, dj, nc, nr⟩] else [⟨t, di, dj, nr, nc⟩]
  src ++ dst

/-- The 16-bit formats and binary32, which ACCUM and LOAD of a tile take (R87, R88, R131). -/
def wide : Fmt → Bool
  | .b32 => true | .e8m7 => true | .e9m6 => true | _ => false

/-- The 16-bit formats (R85). -/
def sixteen : Fmt → Bool
  | .e8m7 => true | .e9m6 => true | _ => false

/-- The format and space rules of R131 for a data descriptor. The offending field is the index of the tensor that breaks the rule; where two tensors differ, the destination's (DESIGN CHOICE, log 65). -/
def dataRules (d : Nat) (ts td : Option TRef) : List (Bool × Err) :=
  let op := dOp d
  let fmtS : Err := dErr 0x510C 0 16 0 op
  let fmtD : Err := dErr 0x510C 0 18 0 op
  let spS : Err := dErr 0x510E 0 16 0 op
  let spD : Err := dErr 0x510E 0 18 0 op
  match ts, td with
  | some a, some b =>
    (match op with
    | 0x20 => [(decide (b.space = 0), spD)]
    | 0x21 => [(decide (a.space = 0), spS), (decide (b.space ≠ 0), spD)]
    | 0x22 => [(decide (a.space ≠ b.space), spD), (decide (a.fmt ≠ b.fmt), fmtD), (a.scaled && !b.scaled, fmtD)]
    | 0x24 => [(decide (b.space ≠ 0), spD), (!(wide a.f), fmtS), (!(wide b.f), fmtD)]
    | 0x25 => [(decide (b.space = 0), spD)]
    | 0x26 => [(a.scaled, fmtS), (decide (a.fmt ≠ b.fmt) || b.scaled, fmtD)]
    | 0x27 =>
      [(a.scaled, fmtS), (decide (a.fmt ≠ b.fmt) || b.scaled, fmtD), (d.testBit 260 && decide (b.space ≠ 0), spD),
       (d.testBit 260 && !(wide b.f), fmtD)]
    | _ => [])
  | _, _ => []

/-- A matrix operand as presented: its tensor and whether its grid is presented transposed (R83). -/
structure Opnd where
  t : TRef
  tr : Bool
  deriving DecidableEq, Repr

/-- Rows of the presented grid. -/
def Opnd.rows (o : Opnd) : Nat := if o.tr then o.t.bcols else o.t.brows
/-- Columns of the presented grid. -/
def Opnd.cols (o : Opnd) : Nat := if o.tr then o.t.brows else o.t.bcols
/-- The part of the stored tensor that presented blocks lie in. -/
def Opnd.touch (o : Opnd) (i j nr nc : Nat) : Touch := if o.tr then ⟨o.t, j, i, nc, nr⟩ else ⟨o.t, i, j, nr, nc⟩

/-- Block counts of a tile group that lie inside the destination grid (R85): all of them where there is none. -/
def liveCount (n origin grid : Nat) : Nat := min n (grid - origin)

/-- MM and MM_ACC: the checks of R79, R85, R87, R88, R104, R128, and the parts of tensors touched. -/
def mmChecks (d : Nat) (ix : List Nat) (ta tb : TRef) (td tl : Option TRef) : List (Bool × Err) × List Touch :=
  let op := dOp d
  let a : Opnd := ⟨ta, d.testBit 312⟩
  let b : Opnd := ⟨tb, d.testBit 313⟩
  let tm := tileCode (df d 38 1 0)
  let tn := tileCode (df d 38 3 2)
  let di := origin ix (df d 24 15 0) (df d 40 2 0)
  let dj := origin ix (df d 26 15 0) (df d 40 5 3)
  let ai := origin ix (df d 28 15 0) (df d 40 8 6)
  let bn := origin ix (df d 30 15 0) (df d 40 11 9)
  let ka := origin ix (df d 32 15 0) (df d 40 14 12)
  let kb := origin ix (df d 34 15 0) (df d 40 17 15)
  let kn := df d 36 15 0
  let mr := match td with | some t => liveCount (2 * tm) di t.brows | none => 2 * tm
  let mc := match td with | some t => liveCount (2 * tn) dj t.bcols | none => 2 * tn
  let out := match td with | some t => !(decide (di < t.brows ∧ dj < t.bcols)) | none => false
  let ldBad := match tl with | some t => !(Touch.inside ⟨t, di, dj, mr, mc⟩) | none => false
  ([(decide (ta.f = .b32 ∨ tb.f = .b32), eErr 0x1103 1 op),
    (decide (mmOut d = 2) && (match td with | some t => !(wide t.f) | none => false), eErr 0x1103 2 op),
    (match tl with | some t => !(wide t.f) | none => false, eErr 0x1103 3 op),
    (decide (mmOut d = 2) && (match td with | some t => decide (t.space ≠ 0) | none => false), eErr 0x1103 4 op),
    ((sixteen ta.f && decide (tm > 2)) || (sixteen tb.f && decide (tn > 2)), eErr 0x1104 2 op),
    (out || decide (a.cols ≠ b.rows) || decide (ka + kn > a.cols ∨ kb + kn > b.rows ∨ ai + mr > a.rows ∨ bn + mc > b.cols) || ldBad,
     eErr 0x1104 5 op)],
   [a.touch ai ka mr kn, b.touch kb bn kn mc] ++
     (match td with | some t => [⟨t, di, dj, mr, mc⟩] | none => []) ++
     (match tl with | some t => [⟨t, di, dj, mr, mc⟩] | none => []))

/-- PBP: the checks of R79, R87, R88, R93, R95, R104, R129, and the parts of tensors touched. A dY tile half outside its grid is taken as zero operands, as R85 takes a destination edge (DEDUCED, log 14). -/
def pbpChecks (d : Nat) (ix : List Nat) (ty tw tx : TRef) (tdx tdw tlx tlw : Option TRef) : List (Bool × Err) × List Touch :=
  let op := dOp d
  let w : Opnd := ⟨tw, !(d.testBit 296)⟩
  let x : Opnd := ⟨tx, !(d.testBit 297)⟩
  let yi := origin ix (df d 30 15 0) (df d 40 2 0)
  let yj := origin ix (df d 32 15 0) (df d 40 5 3)
  let ko := origin ix (df d 34 15 0) (df d 40 8 6)
  let kt := df d 36 7 0
  let mr := liveCount 2 yi ty.brows
  let mc := liveCount 2 yj ty.bcols
  let dx (t : TRef) : Touch := ⟨t, yi, ko, mr, 2 * kt⟩
  let dw (t : TRef) : Touch := ⟨t, ko, yj, 2 * kt, mc⟩
  let bad (o : Option TRef) (f : TRef → Bool) : Bool := match o with | some t => f t | none => false
  ([(decide (ty.f = .b32 ∨ tw.f = .b32 ∨ tx.f = .b32), eErr 0x1103 1 op),
    ((decide (pbpOut d 1 = 2) && bad tdx (fun t => !(wide t.f))) || (decide (pbpOut d 2 = 2) && bad tdw (fun t => !(wide t.f))), eErr 0x1103 2 op),
    (bad tlx (fun t => !(wide t.f)) || bad tlw (fun t => !(wide t.f)), eErr 0x1103 3 op),
    ((decide (pbpOut d 1 = 2) && bad tdx (fun t => decide (t.space ≠ 0))) || (decide (pbpOut d 2 = 2) && bad tdw (fun t => decide (t.space ≠ 0))), eErr 0x1103 4 op),
    (decide (ko % 2 = 1 ∨ ko + 2 * kt > w.cols), eErr 0x1104 4 op),
    (decide (yi ≥ ty.brows ∨ yj ≥ ty.bcols ∨ w.cols ≠ x.rows ∨ ko + 2 * kt > x.rows ∨ yi + mr > x.cols ∨ yj + mc > w.rows) ||
      (decide (pbpOut d 1 ≠ 0) && bad tdx (fun t => !(dx t).inside)) || (decide (pbpOut d 2 ≠ 0) && bad tdw (fun t => !(dw t).inside)) || bad tlx (fun t => !(dx t).inside) || bad tlw (fun t => !(dw t).inside),
     eErr 0x1104 5 op)],
   [⟨ty, yi, yj, mr, mc⟩, w.touch yj ko mc (2 * kt), x.touch ko yi (2 * kt) mr] ++
     (if pbpOut d 1 = 0 then [] else tdx.toList.map dx) ++ (if pbpOut d 2 = 0 then [] else tdw.toList.map dw) ++ (tlx.toList.map dx) ++ (tlw.toList.map dw))

/-- The part of TOUT1 that a VREDUCE writes (R170). -/
def reduceTouch (d bi bj nr nc : Nat) (t : TRef) : Touch :=
  match df d 17 5 4 with
  | 0 => ⟨t, bi, bj, nr, 1⟩
  | 1 => ⟨t, bi, bj, 1, nc⟩
  | _ => ⟨t, bi, bj, 1, 1⟩

/-- VRUN and VREDUCE: region and stream rules that need no program (R133, R156, R170), and the parts of tensors touched. -/
def vecChecks (d : Nat) (ix : List Nat) (l : List (Option TRef)) : List (Bool × Err) × List Touch :=
  let op := dOp d
  let bi := origin ix (df d 34 15 0) (df d 42 2 0)
  let bj := origin ix (df d 36 15 0) (df d 42 5 3)
  let nr := df d 38 15 0
  let nc := df d 40 15 0
  let ts := (List.range 4).filterMap (fun p => (l.getD p none).map (fun t =>
    if op = 0x31 ∧ p = 3 then reduceTouch d bi bj nr nc t else (⟨t, bi, bj, nr, nc⟩ : Touch)))
  let red1 := match l.getD 3 none with | some t => decide (op = 0x31 ∧ t.f ≠ .b32) | none => false
  ([(red1, eErr 0x1205 3 op), (ts.any (fun t => !t.rowsIn), dErr 0x5107 1 34 0 op), (ts.any (fun t => !t.inside), dErr 0x5107 1 36 0 op)], ts)

/-- The tensor references of a descriptor, read from the table in position order, each checked before the next (R117 to R119). -/
def State.readTrefs (s : State) (c : CoreId) (op : Nat) : List (Nat × Nat × Nat × Bool) → Except Err (List (Option TRef)) × State
  | [] => (.ok [], s)
  | (p, off, ix, _) :: r =>
    if ix = 0xFFFF then
      let q := s.readTrefs c op r
      (match q.1 with | .error e => .error e | .ok l => .ok (none :: l), q.2)
    else
      let a := s.trefRead c ix
      match a.1 with
      | .error code => (.error { code := code, info0 := 0, form := 2 }, a.2)
      | .ok t =>
        match a.2.trefCheck c.site t with
        | some code =>
          (.error (if code < 0x1100 then { code := code, info0 := t.fmt + p <<< 4, form := 0 }
                   else if code = 0x1105 then eErr code 0 op else dErr code 0 off p op), a.2)
        | none =>
          let q := a.2.readTrefs c op r
          (match q.1 with | .error e => .error e | .ok l => .ok (some t :: l), q.2)

/-- The destinations that a matrix descriptor writes: their tensors and the blocks in their grids (R88, R95). -/
def mxDests (d : Nat) (ix : List Nat) (l : List (Option TRef)) : List Touch :=
  let t (p : Nat) : Option TRef := l.getD p none
  if dOp d = 0x42 then
    match t 0, t 1, t 2 with
    | some y, some w, some x =>
      (pbpChecks d ix y w x (if pbpOut d 1 = 0 then none else t 3) (if pbpOut d 2 = 0 then none else t 4) none none).2.drop 3
    | _, _, _ => []
  else if mmOut d = 0 then []
  else match t 0, t 1 with
    | some a, some b => (mmChecks d ix a b (t 2) none).2.drop 2
    | _, _ => []

/-- The region errors of R132: a source or destination block row or column outside its grid, with the field that puts it there. -/
def regionErrs (d : Nat) (ix : List Nat) (ts td : Option TRef) : List (Bool × Err) :=
  let side (l : List Touch) (row col : Nat) : List (Bool × Err) :=
    [(l.any (fun u => !u.rowsIn), dErr 0x5107 1 row 0 (dOp d)), (l.any (fun u => !u.inside), dErr 0x5107 1 col 0 (dOp d))]
  side (dataTouch d ix ts none) 20 22 ++ side (dataTouch d ix none td) 24 26

/-- The list of a GATHER or SCATTER: its bytes in its space (R132). -/
def listRange (d : Nat) : Nat × Nat := (df d 48 47 0, 4 * df d 44 31 0)

/-- The checks made when an engine descriptor starts, before any data moves (R104, R118, R128, R131, R132, R184, R262): the references, or the error. -/
def State.startCheck (s : State) (c : CoreId) (d : Nat) (ix : List Nat) : Except Err (List (Option TRef)) × State :=
  let op := dOp d
  let r := s.readTrefs c op (tensorIxs d)
  match r.1 with
  | .error e => (.error e, r.2)
  | .ok l =>
    let s := r.2
    let t (p : Nat) : Option TRef := l.getD p none
    let (la, ln) := listRange d
    let listed := decide (op = 0x26 ∨ op = 0x27)
    let lsp := df d 54 1 0
    let (checks, touch) : List (Bool × Err) × List Touch :=
      if op < 0x30 then
        let ts := dataTouch d ix (t 0) (t 1)
        (dataRules d (t 0) (t 1) ++ regionErrs d ix (t 0) (t 1) ++ [
          (listed && (match s.spaceEnd c.site lsp la with | none => true | some e => decide (la + ln > e)), dErr 0x5107 5 48 0 op)], ts)
      else if op < 0x40 then vecChecks d ix l
      else if op < 0x42 then
        (match t 0, t 1 with | some a, some b => mmChecks d ix a b (t 2) (t 3) | _, _ => ([], []))
      else (match t 0, t 1, t 2 with | some y, some w, some x => pbpChecks d ix y w x (t 3) (t 4) (t 5) (t 6) | _, _, _ => ([], []))
    match firstErr checks with
    | some e => (.error e, s)
    | none =>
      let die := ((if op = 0x25 then dataTouch d ix (t 0) none else touch).filter (fun u => u.t.space == 2)).flatMap Touch.ranges ++
        (if listed && decide (lsp = 2) then [(la, ln)] else []) ++
        (if op < 0x40 then [] else ((mxDests d ix l).filter (fun u => u.t.space == 2)).flatMap Touch.maskRanges)
      match s.dieRefused c.site (s.ctxOf c) die with
      | some a => (.error { code := 0x2103, info0 := a + 1 <<< 26 + s.rd (F.DIEMEM_REGION_RESIDENT.at c.site 0 (a / 0x100000)) <<< 30, form := 1 }, s)
      | none =>
        if op = 0x25 then
          let g := 4096 * s.activeCopy c.site 2 + df d 38 11 0
          let valid := s.on (F.BK_MC_ENTRY_VALID.at c.site 0 g)
          if !valid || decide (s.rd (F.BK_MC_ENTRY_OWNER.at c.site 0 g) ≠ s.ctxOf c) then
            (.error { code := 0x3302, info0 := df d 38 11 0 + (bnat (!valid)) <<< 12, form := 3 }, s)
          else (.ok l, s)
        else (.ok l, s)

end Sys2Proof.Machine
end

