-- ==== Sys2Proof/Machine/Sequencer.lean ====
section
/-! DEFINITION. The sequencer (R108 to R147): fetching, wait sets, issue, completion, failure, stopping at a boundary, and the descriptors it executes itself. -/

namespace Sys2Proof.Machine

/-- SQ_PC as an address (R146). -/
def State.pc (s : State) (c : CoreId) : Nat := (s.rd (F.SQ_PC.core c)) <<< 6

/-- SQ_PC set. -/
def State.setPc (s : State) (c : CoreId) (a : Nat) : State := s.wr (F.SQ_PC.core c) (a >>> 6)

/-- The core goes to STOPPED with a code; a later report changes neither (R124). -/
def State.stopCore (s : State) (c : CoreId) (code : Nat) : State :=
  if s.coreState c = 4 then s
  else ((s.wr (F.CORE_STATE_STATE.core c) 4).wr (F.CORE_STOP_CODE.core c) code).onCore c (fun k =>
    { k with stopReq := if k.stopReq = .one ∨ k.stopReq = .halt then .none else k.stopReq })

/-- The record of an error a unit of the core found (R76, R105, R143, R174, R198, R274). -/
def State.reportErr (s : State) (c : CoreId) (addr : Nat) (e : Err) (op req : Nat) (hi2 : Nat := 0) (sev : Nat := 2) : State :=
  let hi := (addr >>> 32) % 65536
  let lo := addr % 2 ^ 32
  match e.form with
  | 0 => s.report { code := e.code, site := c.site, unit := c.slot, sev := sev, master := s.ctxOf c, info0 := e.info0, info1 := lo,
                    info2 := hi + hi2 <<< 16 }
  | 1 => s.report { code := e.code, site := c.site, unit := c.slot, sev := sev, master := s.ctxOf c, info0 := e.info0,
                    info1 := hi + op <<< 16 + req <<< 24, info2 := lo }
  | 3 => s.report { code := e.code, site := c.site, unit := c.slot, sev := sev, master := s.ctxOf c, info0 := e.info0 }
  | _ => s

/-- A completion record's write (R115, R116): refused where CREC names no record of the context. -/
def State.writeDone (s : State) (c : CoreId) (d : Nat) (bytes : List Byte) : Except Nat Unit × State :=
  if dCrec d = 0xFFFF ∨ dCrec d ≥ s.rd (F.SQ_CREC_LIM_LIMIT.core c) then (.ok (), s)
  else s.panelWrite { master := s.ctxOf c, site := c.site, slot := c.slot, type := 2, op := 1 }
        ((s.rd (F.SQ_CREC.core c)) <<< 5 + 32 * dCrec d) bytes

/-- A NOTIFY copy to the event queue of the dispatching queue (R111, R324); sent with or without a record in memory (DEDUCED, log 16). -/
def State.notifyCopy (s : State) (c : CoreId) (d : Nat) (bytes : List Byte) : State :=
  if dFlag d 6 then s.evqPut (s.rd (F.QU_EVQ_EVQ.at stw 0 (s.core c).queue)) 3 bytes else s

/-- A sync message from a core. -/
def State.sendSync (s : State) (c : CoreId) (type site cell value : Nat) (cons : Bool) : State :=
  s.send (.sync { type := type, dest := site, cell := cell, value := value, src := c.site, slot := c.slot, cons := cons })

/-- A SIGNAL sent and awaited (R114, R134, R282). -/
def State.sendSignal (s : State) (c : CoreId) (vid site cell inc addr : Nat) : State :=
  let s := s.sendSync c 1 site cell inc false
  s.onCore c (fun k => { k with sigs := k.sigs ++ [⟨vid, site, cell, inc, addr⟩] })

/-- A descriptor completes: its record, its header signal, its NOTIFY copy (R114, R115, R123); a record write that fails stops the core (R124). -/
def State.finishDesc (s : State) (c : CoreId) (addr d sigSite sigCell status cnt0 cnt1 : Nat) : State :=
  let bytes := doneBytes status (dOp d) (dSigEn d) c.site c.slot (s.now c.site) cnt0 cnt1 addr
  let r := s.writeDone c d bytes
  match r.1 with
  | .error code => r.2.stopCore c code
  | .ok _ =>
    let s := r.2.add (F.CORE_DONE.core c) 1
    let s := if dSigEn d then s.sendSignal c (dSigVid d) sigSite sigCell (dSigInc d) addr else s
    s.notifyCopy c d bytes

/-- A descriptor fails: its record with STATUS and its counts and no signal, the core STOPPED (R115, R124). -/
def State.failDesc (s : State) (c : CoreId) (addr d code : Nat) (cnt0 : Nat := 0) (cnt1 : Nat := 0) : State :=
  let bytes := doneBytes code (dOp d) false c.site c.slot (s.now c.site) cnt0 cnt1 addr
  let r := s.writeDone c d bytes
  let s := r.2.stopCore c code
  match r.1 with
  | .error _ => s
  | .ok _ => s.notifyCopy c d bytes

/-- A descriptor that the sequencer itself refuses: record of the error, then failure. -/
def State.seqFail (s : State) (c : CoreId) (addr d : Nat) (e : Err) (cnt0 : Nat := 0) : State :=
  let s := s.reportErr c addr e (dOp d) (requesterOf (agentOf d))
  let s := s.onCore c (fun k => { k with cand := none, ready := none, held := none })
  s.failDesc c addr d e.code cnt0

/-- The mask of consumed entries of a list (R125, R289). -/
def consumedMask (l : List WEntry) : Nat :=
  l.foldl (fun m e => if e.st = .satisfied ∧ e.cons then setBit m e.ix else m) 0

/-- No answer of these entries is outstanding. -/
def allAnswered (l : List WEntry) : Bool := l.all (fun e => decide (e.st = .satisfied ∨ e.st = .cancelled))

/-- The core becomes ready to be saved, or halts, at a boundary (R125, R145, R315); `saving` keeps the flags of R312: 1, plus 2 when HALTED, plus 4 at a step boundary. -/
def State.enterBoundary (s : State) (c : CoreId) (stepb : Bool := false) : State :=
  let st := s.coreState c
  match (s.core c).stopReq with
  | .halt | .one | .none => (s.onCore c (fun k => { k with stopReq := .none })).setCoreState c 5
  | .preempt | .preemptStep =>
    let halted := decide (st = 5) || (s.on (F.CORE_CTL_HALT.core c) && decide (2 ≤ st))
    (s.onCore c (fun k => { k with stopReq := .none, saving := 1 + 2 * bnat halted + 4 * bnat stepb })).setCoreState c 6
  | .stop => s

/-- Is the core to stop at the next descriptor boundary: a pre-emption there, the end of a STEP, or CORE_CTL.HALT = 1 while no STEP is to issue its descriptor (R125, R144, R145). -/
def State.stopWanted (s : State) (c : CoreId) : Bool :=
  match (s.core c).stopReq with
  | .preempt | .halt => true
  | .none | .preemptStep => s.on (F.CORE_CTL_HALT.core c)
  | .one | .stop => false

/-- Entries cancelled: a CANCEL for each not yet answered; an entry that waits to be sent again is registered nowhere (R288). -/
def State.cancelEnts (s : State) (c : CoreId) (l : List WEntry) : List WEntry × State :=
  (l.map (fun e => if e.st = .noroom ∨ e.st = .unsent then { e with st := .cancelled } else e),
   each (l.filter (fun e => decide (e.st = .sent))) (fun e s => s.sendSync c 3 e.site e.cell 0 false) s)

/-- A stop at a descriptor boundary proceeds: the pending wait set or WAIT is withdrawn, and with nothing issued and nothing unanswered the core stops (R125, R289). -/
def State.tryStop (s : State) (c : CoreId) (stepb : Bool := false) : State :=
  let k := s.core c
  if !(s.stopWanted c) ∨ s.coreState c = 4 ∨ k.ready.isSome then s
  else
    match k.held with
    | some h =>
      if h.op ≠ 0x11 ∨ h.withdrawn ∨ h.expired then s
      else
        let (l, s) := s.cancelEnts c h.ents
        if allAnswered l then
          let m := (ones (df h.desc 1 3 0) 4).foldl (fun m e => if (dWait h.desc e).2 ≠ 0 then setBit m e else m) 0
          let s := (s.onCore c (fun k => { k with held := none, consumed := m + ((k.consumed / 16) ||| consumedMask l) <<< 4 })).setPc c h.addr
          if (s.core c).window.isEmpty then s.enterBoundary c else s
        else s.onCore c (fun k => { k with held := some { h with ents := l, withdrawn := true } })
    | none =>
      match k.cand with
      | some cd =>
        if cd.withdrawn ∨ cd.expired then s
        else
          let (l, s) := s.cancelEnts c cd.ents
          if allAnswered l then
            let s := s.onCore c (fun k => { k with cand := none, consumed := k.consumed ||| consumedMask l })
            if (s.core c).window.isEmpty then s.enterBoundary c else s
          else s.onCore c (fun k => { k with cand := some { cd with ents := l, withdrawn := true } })
      | none => if k.window.isEmpty then s.enterBoundary c stepb else s

/-- The core goes on in RUN or WAIT, unless a failed descriptor has stopped it (R124, R145). -/
def State.runState (s : State) (c : CoreId) (n : Nat) : State := if s.coreState c = 4 then s else s.setCoreState c n

/-- Translation of a virtual sync ID by the die's cache or the context's table (R280, R281). -/
def State.translate (s : State) (c : CoreId) (vid : Nat) : Except Err (Nat × Nat) × State :=
  let ctx := s.ctxOf c
  let l := tget [] s.xlt [c.site]
  let answer (e : Nat) : Except Err (Nat × Nat) :=
    if e.testBit 31 then .ok (bits e 8 0, bits e 19 9) else .error { code := 0x4101, info0 := vid, form := 0 }
  match l.find? (fun e => decide (e.1 = ctx ∧ e.2.1 = vid)) with
  | some e => (answer e.2.2, s)
  | none =>
    let r := s.panelRead { master := s.stewardMaster, site := c.site, slot := c.slot, type := 1, op := 0 } (s.rd (F.CX_SXLT.at stw 0 ctx) + 4 * vid) 4
    match r.1 with
    | .error code => (.error { code := code, info0 := 0, form := 2 }, r.2)
    | .ok b =>
      let e := leNat b
      (answer e, { r.2 with xlt := tset [] r.2.xlt [c.site] ((l ++ [(ctx, vid, e)]).drop (l.length - 511)) })

/-- The virtual IDs of a descriptor: wait set, header signal, payload (R281). -/
def dVids (d : Nat) : List Nat :=
  (dWaitSet d).map (fun e => e.2.1) ++ (if dSigEn d then [dSigVid d] else []) ++
    (if dOp d = 0x10 ∨ dOp d = 0x11 then (dEntries d).map (fun e => e.2.1) else []) ++
    (if dOp d = 0x12 then [df d 16 11 0] else [])

/-- All IDs of a list translated, in order. -/
def State.translateAll (s : State) (c : CoreId) : List Nat → Except Err (List (Nat × Nat × Nat)) × State
  | [] => (.ok [], s)
  | v :: r =>
    let a := s.translate c v
    match a.1 with
    | .error e => (.error e, a.2)
    | .ok p =>
      let q := a.2.translateAll c r
      (match q.1 with | .error e => .error e | .ok l => .ok ((v, p) :: l), q.2)

/-- The cell of a translated ID. -/
def cellOf (m : List (Nat × Nat × Nat)) (vid : Nat) : Nat × Nat :=
  match m.find? (fun e => e.1 == vid) with | some e => e.2 | none => (0, 0)

/-- WAIT messages for entries not yet sent, in order (R286). -/
def State.sendWaits (s : State) (c : CoreId) (l : List WEntry) : State :=
  each (l.filter (fun e => decide (e.st = .unsent))) (fun e s => s.sendSync c 2 e.site e.cell e.thresh e.cons) s

/-- Entries as sent. -/
def sentEnts (l : List WEntry) : List WEntry := l.map (fun e => if e.st = .unsent then { e with st := .sent } else e)

/-- The stack a unit's request to the panel space goes to, or the code and cause that refuse it at the unit (R207, R252). -/
def State.findStack (s : State) (site addr : Nat) : Except (Nat × Nat) (Nat × Nat) :=
  match s.xlate site addr with
  | .error c => .error (0x2202, c)
  | .ok (p, off) => if s.routed site (4 * p + 2) then .ok (p, off) else .error (0x3103, 4 * p + 2)

/-- A fetch of the aligned group of four descriptors that holds the pc (R126). -/
def State.fetchGroup (s : State) (c : CoreId) (addr : Nat) : State :=
  let a := addr - addr % 256
  if s.outst.any (fun r => r.site == c.site && r.unit == c.slot && r.why == 1) then s
  else
    match s.findStack c.site a with
    | .error (code, x) =>
      if code = 0x2202 then
        (s.badAddr { master := s.ctxOf c, site := c.site, slot := c.slot, type := 4, op := 0 } a x).seqFail c addr 0xFFFF00000000 (dErr 0x5104 1 0 0 0)
      else
        (s.noRoute { master := s.ctxOf c, site := c.site, slot := c.slot, type := 4, op := 0 } a x).seqFail c addr 0xFFFF00000000 { code := 0x3103, info0 := 0, form := 2 }
    | .ok (p, off) =>
      s.request { type := 4, dest := 4 * p + 2, src := c.site, sunit := c.slot, master := s.ctxOf c, addr := stkAddr p off } 1 a 0

/-- Does a descriptor carry an implicit fence (R121). -/
def implicitFence (op : Nat) : Bool := decide (op = 0x10 ∨ op = 0x12 ∨ op = 0x18 ∨ op = 0x03 ∨ op = 0x02)

/-- The AFTER_PREV, FENCE and window conditions of issue (R111, R121, R285). -/
def mayIssue (k : CoreSt) (d : Nat) : Bool :=
  let op := dOp d
  (!(dFlag d 4) || !(k.window.any (fun e => e.id == k.prevId))) &&
  (!(dFlag d 5 || implicitFence op) || k.window.isEmpty) &&
  (!(isEngine op) || decide (k.window.length < 8)) &&
  (!(decide (op = 0x03)) || k.sigs.isEmpty)

/-- The reached descriptor issues: its tensor references are read here, where the descriptor takes its place in the window, and no later when its engine begins it (what R119's "starts" means: DESIGN CHOICE, log 65). An engine descriptor is checked and takes a window entry, any other is made ready for the sequencer (R121, R128, R137). -/
def State.issueNow (s : State) (c : CoreId) (cd : Cand) : State :=
  let k := s.core c
  let e : Issued :=
    { id := k.nextId, addr := cd.addr, desc := cd.desc, agent := agentOf cd.desc, phase := .waiting, ix := s.ixRegs c, trefs := [],
      sigSite := cd.sigSite, sigCell := cd.sigCell, acks := 0, bad := 0, cur := 0, cnt0 := 0, cnt1 := 0, cells := cd.cells }
  let keep (k : CoreSt) : CoreSt :=
    { k with cand := none, prevId := k.nextId, nextId := k.nextId + 1,
             consumed := if dOp cd.desc = 0x11 then k.consumed / 16 * 16 else 0,
             stopReq := if k.stopReq = .one then .halt else k.stopReq }
  if isEngine (dOp cd.desc) then
    let r := s.startCheck c cd.desc e.ix
    match r.1 with
    | .error x => (r.2.onCore c keep).seqFail c cd.addr cd.desc x
    | .ok l =>
      ((r.2.onCore c (fun k => { keep k with window := k.window ++ [{ e with trefs := l }] })).setPc c (cd.addr + 64)).setCoreState c 2
  else (s.onCore c (fun k => { keep k with ready := some e })).setCoreState c 2

/-- The sequencer goes on with the descriptor it has reached: issue when its wait set and conditions hold, else wait (R112, R121). -/
def State.advanceCand (s : State) (c : CoreId) : State :=
  match (s.core c).cand with
  | none => s
  | some cd =>
    if cd.ents.all (fun e => decide (e.st = .satisfied)) then
      if mayIssue (s.core c) cd.desc then s.issueNow c cd else s.setCoreState c 2
    else s.setCoreState c 3

/-- WAIT_SET_EVAL: the sequencer reaches a descriptor, evaluates its wait set, and issues it once its conditions hold (R112, R121, R126). -/
def State.waitSetEval (s : State) (c : CoreId) : State :=
  let k := s.core c
  let st := s.coreState c
  if !(s.bound c) ∨ ¬ (st = 2 ∨ st = 3) ∨ k.ready.isSome ∨ k.held.isSome ∨ k.stopReq = .stop then s
  else if s.stopWanted c then s.tryStop c
  else
    match k.cand with
    | some cd => if cd.withdrawn ∨ cd.expired then s else s.advanceCand c
    | none =>
      let addr := s.pc c
      match k.fetched.find? (fun e => e.1 == addr) with
      | none => s.fetchGroup c addr
      | some (_, d) =>
        if s.on (F.CORE_CTL_BKPT_EN.core c) ∧ s.rd (F.CORE_BKPT.core c) = addr >>> 6 ∧ k.stopReq ≠ .one then
          (s.wr (F.CORE_CTL_HALT.core c) 1).tryStop c
        else
          match s.reachCheck c addr d with
          | some e => s.seqFail c addr d e
          | none =>
            let r := s.translateAll c (dVids d)
            match r.1 with
            | .error e => r.2.seqFail c addr d e
            | .ok m =>
              let s := r.2
              let ents := ((dWaitSet d).filter (fun w => !(k.consumed.testBit w.1))).map (fun w =>
                ({ ix := w.1, vid := w.2.1, thresh := w.2.2.1, cons := w.2.2.2, site := (cellOf m w.2.1).1, cell := (cellOf m w.2.1).2, st := .unsent } : WEntry))
              let sg := cellOf m (dSigVid d)
              let s := s.sendWaits c ents
              let s := s.onCore c (fun k => { k with cand := some {
                addr := addr, desc := d, ents := sentEnts ents, sigSite := sg.1, sigCell := sg.2, expired := false, withdrawn := false, since := s.now c.site, cells := m } })
              s.advanceCand c

/-- The record of 0x4103, 0x4201 and 0x4301 (R301): kind 0 wait-set entry, 1 WAIT, 2 BARRIER, 3 SIGNAL. -/
def State.syncRecord (s : State) (c : CoreId) (code vid site cell value : Nat) (cons : Bool) (kind addr : Nat) : State :=
  s.report { code := code, site := c.site, unit := c.slot, sev := 2, master := s.ctxOf c, info0 := vid + site <<< 12 + cell <<< 21,
             info1 := value + bnat cons <<< 24 + kind <<< 25, info2 := addr % 2 ^ 32 }

/-- A wait failed by its timeout: 0x4201 names the lowest cancelled entry (R288). -/
def State.timeoutFail (s : State) (c : CoreId) (addr d kind : Nat) (l : List WEntry) (us : Nat := 0) : State :=
  match l.find? (fun e => decide (e.st = .cancelled)) with
  | some e => (s.syncRecord c 0x4201 e.vid e.site e.cell e.thresh e.cons kind addr).seqFail c addr d { code := 0x4201, info0 := 0, form := 2 } us
  | none => s

/-- A held WAIT, BARRIER, ENQ or STEP_END completes; the sequencer goes on behind it, or stops there: behind a STEP_END is the step boundary that a pre-emption may wait for (R140). -/
def State.finishHeld (s : State) (c : CoreId) (h : Held) (status cnt0 : Nat) : State :=
  let s := (s.onCore c (fun k => { k with held := none, consumed := 0 })).setPc c (h.addr + 64)
  let s := if s.coreState c = 3 then s.setCoreState c 2 else s
  let s := s.finishDesc c h.addr h.desc h.sigSite h.sigCell status cnt0 0
  if h.op = 0x03 ∧ (s.core c).stopReq = .preemptStep ∧ s.coreState c ≠ 4 then s.enterBoundary c true else s.tryStop c (decide (h.op = 0x03))

/-- Microseconds since a WAIT or BARRIER was issued, saturating (R115). -/
def State.waited (s : State) (c : CoreId) (h : Held) : Nat := min ((s.now c.site - h.since) / 1000) (2 ^ 32 - 1)

/-- The KIND of 0x4201 for a held descriptor. -/
def heldKind (op : Nat) : Nat := if op = 0x12 then 2 else 1

/-- The entries of a withdrawn wait whose stop is asked for no longer, as they are sent again: all but those recorded as consumed (R289). -/
def resumedEnts (l : List WEntry) : List WEntry := l.map (fun e => if e.st = .satisfied ∧ e.cons then e else { e with st := .unsent })

/-- What follows when an answer to a wait has arrived: timeouts are decided, withdrawals finished, satisfied waits go on (R286 to R289). -/
def State.afterAnswer (s : State) (c : CoreId) : State :=
  let k := s.core c
  match k.held with
  | some h =>
    if !(allAnswered h.ents) then s
    else if h.ents.all (fun e => decide (e.st = .satisfied)) then s.finishHeld c h 0 (s.waited c h)
    else if h.expired then s.timeoutFail c h.addr h.desc (heldKind h.op) h.ents (s.waited c h)
    else if h.withdrawn then
      if s.stopWanted c then (s.onCore c (fun k => { k with held := some { h with withdrawn := false } })).tryStop c
      else (s.sendWaits c (resumedEnts h.ents)).onCore c (fun k => { k with held := some { h with withdrawn := false, ents := sentEnts (resumedEnts h.ents) } })
    else s
  | none =>
    match k.cand with
    | none => s
    | some cd =>
      if !(allAnswered cd.ents) then s
      else if cd.expired then
        if cd.ents.any (fun e => decide (e.st = .cancelled)) then s.timeoutFail c cd.addr cd.desc 0 cd.ents
        else (s.onCore c (fun k => { k with cand := some { cd with expired := false } }))
      else if cd.withdrawn then
        if s.stopWanted c then (s.onCore c (fun k => { k with cand := some { cd with withdrawn := false } })).tryStop c
        else (s.sendWaits c (resumedEnts cd.ents)).onCore c (fun k =>
          { k with cand := some { cd with withdrawn := false, since := s.now c.site, ents := sentEnts (resumedEnts cd.ents) } })
      else s

/-- WAIT_SET_TIMEOUT: SQ_HDR_TMO expires (R113, R288). -/
def State.waitSetTimeout (s : State) (c : CoreId) : State :=
  match (s.core c).cand with
  | none => s
  | some cd =>
    if cd.expired ∨ cd.withdrawn ∨ cd.ents.all (fun e => decide (e.st = .satisfied)) ∨ s.rd (F.SQ_HDR_TMO_TMO.core c) = 0 then s
    else
      let (l, s) := s.cancelEnts c cd.ents
      (s.onCore c (fun k => { k with cand := some { cd with ents := l, expired := true } })).afterAnswer c

/-- TMO of a WAIT or BARRIER (R135, R136). -/
def heldTmo (d : Nat) : Nat := if dOp d = 0x12 then df d 24 23 0 else df d 18 23 0

/-- WAIT_TIMEOUT: the TMO of a WAIT or BARRIER expires (R288). -/
def State.waitTimeout (s : State) (c : CoreId) : State :=
  match (s.core c).held with
  | none => s
  | some h =>
    if h.expired ∨ h.withdrawn ∨ ¬ (h.op = 0x11 ∨ h.op = 0x12) ∨ heldTmo h.desc = 0 then s
    else
      let (l, s) := s.cancelEnts c h.ents
      (s.onCore c (fun k => { k with held := some { h with ents := l, expired := true } })).afterAnswer c

/-- A descriptor the sequencer executes itself, when it is the one that has issued. -/
def State.withReady (s : State) (c : CoreId) (op : Nat) (f : Issued → State) : State :=
  match (s.core c).ready with
  | some e => if dOp e.desc = op then f e else s
  | none => s

/-- A sequencer descriptor completes at once and the sequencer continues at an address. -/
def State.seqDone (s : State) (c : CoreId) (e : Issued) (next : Nat) : State :=
  let s := (s.onCore c (fun k => { k with ready := none })).setPc c next
  (s.finishDesc c e.addr e.desc e.sigSite e.sigCell 0 0 0).tryStop c

/-- A sequencer descriptor is held until an answer arrives. -/
def State.holdDesc (s : State) (c : CoreId) (e : Issued) (ents : List WEntry) (stage : Nat) : State :=
  s.onCore c (fun k => { k with ready := none, held := some {
      id := e.id, op := dOp e.desc, addr := e.addr, desc := e.desc, ents := ents, sigSite := e.sigSite, sigCell := e.sigCell, since := s.now c.site, slot := 0, stage := stage, expired := false, withdrawn := false, bad := 0 } })

/-- NOP (R139). -/
def State.seqNop (s : State) (c : CoreId) : State := s.withReady c 0x01 (fun e => s.seqDone c e (e.addr + 64))

/-- A ramp notice reaches the core's CORE group, unless HINT_EN is 0 (R443). -/
def State.rampNotice (s : State) (c : CoreId) (down : Bool) (level delay : Nat) : State :=
  if s.on (F.PW_CFG_HINT_EN.at c.site) then
    { s with ramps := s.ramps ++ [{ site := c.site, slot := c.slot, down := down, level := level, due := s.now c.site + delay, applied := false }] }
  else s

/-- HINT (R141). -/
def State.seqHint (s : State) (c : CoreId) : State :=
  s.withReady c 0x04 (fun e =>
    (s.rampNotice c (decide (df e.desc 16 1 0 = 1)) (df e.desc 17 3 0) (df e.desc 18 15 0)).seqDone c e (e.addr + 64))

/-- The target of JUMP and CALL (R138). -/
def jumpTarget (addr d : Nat) : Nat :=
  if d.testBit 128 then df d 24 47 0 else (((addr : Int) + 64 * sext (df d 20 31 0) 32) % 2 ^ 48).toNat

/-- Is an address in a loop's body. -/
def LoopEnt.holds (l : LoopEnt) (a : Nat) : Bool := decide (l.first ≤ a ∧ a < l.first + 64 * l.body)

/-- JUMP (R138, R126). -/
def State.seqJump (s : State) (c : CoreId) : State :=
  s.withReady c 0x05 (fun e =>
    let t := jumpTarget e.addr e.desc
    (s.onCore c (fun k => { k with loops := k.loops.filter (fun l => l.holds t), fetched := [] })).seqDone c e t)

/-- CALL (R138, R126). -/
def State.seqCall (s : State) (c : CoreId) : State :=
  s.withReady c 0x06 (fun e =>
    (s.onCore c (fun k => { k with calls := k.calls ++ [e.addr + 64], fetched := [] })).seqDone c e (jumpTarget e.addr e.desc))

/-- RET (R138, R126). -/
def State.seqRet (s : State) (c : CoreId) : State :=
  s.withReady c 0x07 (fun e =>
    match (s.core c).calls.getLast? with
    | none => s
    | some a =>
      (s.onCore c (fun k => { k with loops := k.loops.filter (fun l => decide (l.depth < k.calls.length)), calls := k.calls.dropLast,
                                     fetched := [] })).seqDone c e a)

/-- LOOP (R137). -/
def State.seqLoop (s : State) (c : CoreId) : State :=
  s.withReady c 0x08 (fun e =>
    let d := e.desc
    let s := s.setIx c (df d 20 7 0) (df d 24 31 0)
    if df d 16 23 0 = 0 then s.seqDone c e (e.addr + 64 * (df d 22 11 0 + 2))
    else
      (s.onCore c (fun k => { k with loops := k.loops ++ [⟨e.addr + 64, df d 22 11 0, df d 20 7 0, df d 16 23 0, k.calls.length, df d 28 31 0⟩] })).seqDone c e (e.addr + 64))

/-- ENDLOOP (R137). -/
def State.seqEndloop (s : State) (c : CoreId) : State :=
  s.withReady c 0x09 (fun e =>
    match (s.core c).loops.getLast? with
    | none => s
    | some l =>
      let s := s.setIx c l.ix ((s.ixRegs c).getD (l.ix - 1) 0 + l.stride)
      if l.left ≤ 1 then (s.onCore c (fun k => { k with loops := k.loops.dropLast })).seqDone c e (e.addr + 64)
      else (s.onCore c (fun k => { k with loops := k.loops.dropLast ++ [{ l with left := l.left - 1 }] })).seqDone c e l.first)

/-- SIGNAL (R134): its increments in order, then the header signal; the cells are those translated when the descriptor reached issue (R281). -/
def State.seqSignal (s : State) (c : CoreId) : State :=
  s.withReady c 0x10 (fun e =>
    let m := e.cells
    let s := each (dEntries e.desc) (fun x s => s.sendSignal c x.2.1 (cellOf m x.2.1).1 (cellOf m x.2.1).2 x.2.2 e.addr) s
    s.seqDone c e (e.addr + 64))

/-- WAIT (R135, R286). -/
def State.seqWait (s : State) (c : CoreId) : State :=
  s.withReady c 0x11 (fun e =>
    let d := e.desc
    let m := e.cells
    let mask := (s.core c).consumed / 16
    let ents := ((dEntries d).filter (fun x => !(mask.testBit x.1))).map (fun x =>
      ({ ix := x.1, vid := x.2.1, thresh := x.2.2, cons := (df d 17 3 0).testBit x.1, site := (cellOf m x.2.1).1,
         cell := (cellOf m x.2.1).2, st := .unsent } : WEntry))
    (((s.sendWaits c ents).holdDesc c e (sentEnts ents) 0).runState c 3).afterAnswer c)

/-- BARRIER (R136, R290): its arrival. -/
def State.seqBarrier (s : State) (c : CoreId) : State :=
  s.withReady c 0x12 (fun e =>
    let d := e.desc
    let p := cellOf e.cells (df d 16 11 0)
    let ent : WEntry := { ix := 0, vid := df d 16 11 0, thresh := df d 20 23 0, cons := false, site := p.1, cell := p.2, st := .sent }
    ((s.sendSync c 4 p.1 p.2 (df d 20 23 0) false).holdDesc c e [ent] 0).runState c 3)

/-- A loop-stack entry as 16 bytes (R564). -/
def loopBytes (l : LoopEnt) : List Byte :=
  natLe l.first 6 ++ natLe (l.body + l.ix <<< 12) 2 ++ natLe l.left 3 ++ natLe l.depth 1 ++ natLe l.stride 4

/-- A list of bytes padded with zeros to a length. -/
def padTo (n : Nat) (l : List Byte) : List Byte := (l ++ List.replicate n 0).take n

/-- The 256 bytes of a restart copy, or with a mask of the sequencer state of R125 (R495). -/
def seqBytes (r : StepRec) (mask : Nat) : List Byte :=
  natLe r.pc 8 ++ padTo 28 (r.ix.flatMap (fun v => natLe v 4)) ++ natLe r.loops.length 1 ++ natLe r.calls.length 1 ++ natLe mask 1 ++
    natLe 0 1 ++ natLe r.step 4 ++ natLe 0 4 ++ padTo 64 (r.loops.flatMap loopBytes) ++
    padTo 64 (r.calls.flatMap (fun a => natLe a 8)) ++ List.replicate 80 0

/-- The step restart record is written, with its copy in panel memory where the context has a restart area (R494, R495): the copy's code when its write fails. -/
def State.restartPoint (s : State) (c : CoreId) (r : StepRec) : Except Nat Unit × State :=
  let s := (s.onCore c (fun k => { k with stepRec := r })).wr (F.SQ_STEP_PC.core c) (r.pc >>> 6)
  let base := s.rd (F.RA_BASE.at stw 0 (s.ctxOf c))
  let s : State := { s with raEff := tset 0 s.raEff [s.ctxOf c] base }
  if base = 0 then (.ok (), s)
  else s.panelWrite { master := s.stewardMaster, site := c.site, slot := c.slot, type := 2, op := 1 }
        (base <<< 8 + 256 * s.rd (F.CORE_BIND_VCORE.core c)) (seqBytes r 0)

/-- STEP_END (R140): restart record, SQ_STEP_NUM, arrival at the steward. -/
def State.seqStepEnd (s : State) (c : CoreId) : State :=
  s.withReady c 0x03 (fun e =>
    let k := s.core c
    let step := df e.desc 16 31 0
    let r := s.restartPoint c { pc := e.addr + 64, ix := s.ixRegs c, loops := k.loops, calls := k.calls, step := step }
    match r.1 with
    | .error code => r.2.seqFail c e.addr e.desc { code := code, info0 := 0, form := 2 }
    | .ok _ =>
      let s := r.2.wr (F.SQ_STEP_NUM_STEP.core c) step
      let s := s.send (.ctl (stepMsg false (s.ctxOf c) (s.rd (F.CORE_BIND_VCORE.core c)) s.steward c.site c.slot step))
      (s.holdDesc c e [] 0).onCore c (fun k => { k with fetched := [] }))

/-- The working part of core memory is zeroed: its fill is in progress until CORE_ZERO_FILL_DONE (R190, R192). -/
def State.zeroCoreMem (s : State) (c : CoreId) (start : Nat) : State :=
  { s.wr (F.CB_STAT_ZEROING.core c) 1 with cmem := mzero s.cmem (coreAddr c start) (0x400000 - start),
                                           parBad := s.parBad.filter (fun e => decide (¬ (e.1 = 0 ∧ coreAddr c start ≤ e.2 ∧ e.2 < coreAddr c 0x400000))) }

/-- HALT (R139): the dispatch ends; the work item is reported complete. -/
def State.seqHalt (s : State) (c : CoreId) : State :=
  s.withReady c 0x02 (fun e =>
    let s := (s.onCore c (fun k => { k with ready := none })).setPc c (e.addr + 64)
    let s := s.finishDesc c e.addr e.desc e.sigSite e.sigCell 0 0 0
    if s.coreState c = 4 then s
    else
      let s := (s.setIxs c []).onCore c (fun k => { k with loops := [], calls := [], fetched := [], consumed := 0 })
      let s := s.tellSteward c 6 []
      let s := (s.zeroCoreMem c (s.rd (F.CB_RES_RES.core c) * 65536)).setCoreState c 1
      match (s.core c).stopReq with
      | .preempt | .preemptStep => s.enterBoundary c true
      | .none | .halt | .one | .stop => s.onCore c (fun k => { k with stopReq := .none }))

/-- A RESERVE doorbell of an ENQ (R320). -/
def State.enqReserve (s : State) (c : CoreId) (d : Nat) : State :=
  s.send (.ctl (doorbellMsg (df d 16 11 0) 1 (s.ctxOf c) s.steward c.site c.slot 0))

/-- ENQ (R142, R320): reserves a slot; while it waits for space after a FULL it asks again (DESIGN CHOICE, log 17). -/
def State.seqEnq (s : State) (c : CoreId) : State :=
  match (s.core c).held with
  | some h =>
    if h.op = 0x18 ∧ h.stage = 2 then
      (s.enqReserve c h.desc).onCore c (fun k => { k with held := some { h with stage := 1 } })
    else s
  | none => s.withReady c 0x18 (fun e => (s.enqReserve c e.desc).holdDesc c e [] 1)

/-- The queue block grants a slot: the entry is read, written into the ring, and published (R142, R320). The ring of a queue whose LOC names host memory is written at its base as a panel physical address: the spec gives ENQ no path to a host, and no refusal (DESIGN CHOICE, log 63). -/
def State.enqGrant (s : State) (c : CoreId) (slot : Nat) : State :=
  match (s.core c).held with
  | some h =>
    if h.op ≠ 0x18 ∨ h.stage ≠ 1 then s
    else
      let q := df h.desc 16 11 0
      let k : Asker := { master := s.ctxOf c, site := c.site, slot := c.slot, type := 1, op := 0 }
      let r := s.panelRead k (df h.desc 24 47 0) 64
      match r.1 with
      | .error code => r.2.seqFail c h.addr h.desc { code := code, info0 := 0, form := 2 }
      | .ok b =>
        let s := r.2
        let lg := s.rd (F.QU_CFG_LOG2SIZE.at stw 0 q)
        let w := s.panelWrite { k with type := 2, op := 1 } ((s.rd (F.QU_RING.at stw 0 q)) <<< 12 % 2 ^ 48 + 64 * (slot % 2 ^ lg)) b
        match w.1 with
        | .error code => w.2.seqFail c h.addr h.desc { code := code, info0 := 0, form := 2 }
        | .ok _ =>
          let s := w.2.send (.ctl (doorbellMsg q 2 (s.ctxOf c) s.steward c.site c.slot slot))
          s.onCore c (fun k => { k with held := some { h with stage := 4, slot := slot } })
  | none => s

/-- The ring is full: at once STATUS 0x510D with FAIL_FULL, else the ENQ waits (R142). -/
def State.enqFull (s : State) (c : CoreId) : State :=
  match (s.core c).held with
  | some h =>
    if h.op ≠ 0x18 ∨ h.stage ≠ 1 then s
    else if h.desc.testBit 144 then s.finishHeld c h 0x510D 0
    else s.onCore c (fun k => { k with held := some { h with stage := 2 } })
  | none => s

/-- The queue block has accepted the doorbell: the ENQ completes with the ring index written (R115, R142). -/
def State.enqDone (s : State) (c : CoreId) : State :=
  match (s.core c).held with
  | some h =>
    if h.op ≠ 0x18 ∨ h.stage ≠ 4 then s
    else s.finishHeld c h 0 (h.slot % 2 ^ s.rd (F.QU_CFG_LOG2SIZE.at stw 0 (df h.desc 16 11 0)))
  | none => s

/-- ENQ_FULL_TIMEOUT (R142): no space within TMO. -/
def State.enqTimeout (s : State) (c : CoreId) : State :=
  match (s.core c).held with
  | some h =>
    if h.op = 0x18 ∧ (h.stage = 2 ∨ h.stage = 1) ∧ !(h.desc.testBit 144) ∧ df h.desc 20 23 0 ≠ 0 then
      s.seqFail c h.addr h.desc (dErr 0x510D 0 16 0 0x18)
    else s
  | none => s

/-- A window entry changed. -/
def State.onIssued (s : State) (c : CoreId) (id : Nat) (f : Issued → Issued) : State :=
  s.onCore c (fun k => { k with window := k.window.map (fun e => if e.id = id then f e else e) })

/-- An engine reports an error against a descriptor: the core stops with the first code that reaches it, which the descriptor keeps until its other requests have answered (R124). -/
def State.badIssued (s : State) (c : CoreId) (id code : Nat) : State :=
  (s.onIssued c id (fun e => { e with phase := .done, bad := if e.bad = 0 then code else e.bad })).stopCore c code

/-- An answer to one of a descriptor's requests has come, with the code of its failure or 0 (R123, R124); `all`: no further answer is awaited. -/
def State.issuedAnswer (s : State) (c : CoreId) (id code : Nat) (all : Bool) : State :=
  let here := (s.core c).window.any (fun e => e.id == id)
  let s := s.onIssued c id (fun e => { e with acks := if all then 0 else e.acks - 1, bad := if e.bad = 0 then code else e.bad })
  if code = 0 ∨ here = false then s else s.stopCore c code

/-- DESC_COMPLETE: the oldest issued descriptor whose work and answers are all in completes (R123, R114). -/
def State.descComplete (s : State) (c : CoreId) : State :=
  match (s.core c).window.find? (fun e => decide (e.phase = .done ∧ e.acks = 0 ∧ e.bad = 0)) with
  | none => s
  | some e =>
    let s := s.onCore c (fun k => { k with window := k.window.filter (fun x => decide (x.id ≠ e.id)) })
    (s.finishDesc c e.addr e.desc e.sigSite e.sigCell 0 e.cnt0 e.cnt1).tryStop c

/-- DESC_FAIL: the oldest descriptor with a reported error and no answer outstanding fails; descriptors issued on other agents run to completion, those waiting behind it on its own agent do not (R124, DEDUCED, log 19). -/
def State.descFail (s : State) (c : CoreId) : State :=
  match (s.core c).window.find? (fun e => decide (e.phase = .done ∧ e.acks = 0 ∧ e.bad ≠ 0)) with
  | some e =>
    let s := s.onCore c (fun k =>
      { k with window := k.window.filter (fun x => decide (x.id ≠ e.id ∧ ¬ (x.agent = e.agent ∧ e.id < x.id ∧ x.phase = .waiting))) })
    s.failDesc c e.addr e.desc e.bad e.cnt0 e.cnt1
  | none =>
    match (s.core c).held with
    | some h =>
      if h.bad ≠ 0 then
        (s.onCore c (fun k => { k with held := none })).failDesc c h.addr h.desc h.bad (if h.op = 0x11 ∨ h.op = 0x12 then s.waited c h else 0)
      else s
    | none => s

/-- CORE_HALT: a write of CORE_CTL.HALT (R144, R145). An idle core halts at the first boundary of its next dispatch (DEDUCED, log 18). -/
def State.coreHalt (s : State) (c : CoreId) (v : Bool) : State :=
  let s := s.wr (F.CORE_CTL_HALT.core c) (bnat v)
  let st := s.coreState c
  if v then (if st = 2 ∨ st = 3 then s.tryStop c else s)
  else if st = 5 then s.setCoreState c 2
  else if (s.core c).stopReq = .halt then s.onCore c (fun k => { k with stopReq := .none })
  else s

/-- CORE_STEP: a write of CORE_CTL.STEP while HALTED (R144, R145). -/
def State.coreStep (s : State) (c : CoreId) : State :=
  if s.coreState c = 5 then (s.onCore c (fun k => { k with stopReq := .one })).setCoreState c 2 else s

/-- SQ_SEED_HI_WRITE (R147, R69). -/
def State.seedHi (s : State) (c : CoreId) (v : Nat) : State :=
  if s.coreState c = 5 then s.onCore c (fun k => { k with gen := genSeed (k.seedLo + (v % 2 ^ 32) <<< 32) }) else s

/-- Descriptors arrive in the fetch buffer, at most 32 (R126); a matrix descriptor announces itself to the regulator while the array is idle (R443). -/
def State.fetchFill (s : State) (c : CoreId) (addr : Nat) (bytes : List Byte) : State :=
  let l := (pieces 64 4 bytes).mapIdx (fun i b => (addr + 64 * i, leNat b))
  let auto := s.on (F.PW_CFG_AUTO_NOTICE.at c.site) && l.any (fun e => decide (0x40 ≤ dOp e.2 ∧ dOp e.2 ≤ 0x42)) && !(s.core c).mx.active
  let s := if auto then s.rampNotice c false 15 0 else s
  s.onCore c (fun k =>
    let keep := k.fetched.filter (fun e => !(l.any (fun x => x.1 == e.1))) ++ l
    { k with fetched := keep.drop (keep.length - 32) })

end Sys2Proof.Machine
end

