-- ==== Sys2Proof/Machine/Sync.lean ====
section
/-! DEFINITION. Synchronisation (R279 to R301): the cells of a compute die, their messages and answers, the SYNC page's commands, and what a core does with an answer. -/

namespace Sys2Proof.Machine

/-- The waiter list of a cell, in registration order (R279). -/
def State.cellWaiters (s : State) (site cell : Nat) : List Waiter := tget [] s.waiters [site, cell]

/-- The waiter list of a cell replaced; BAR_N is 0 whenever no BARRIER waiter remains (R291). -/
def State.setWaiters (s : State) (site cell : Nat) (l : List Waiter) : State :=
  let s := { s with waiters := tset [] s.waiters [site, cell] l }
  if l.any (fun w => w.barrier) then s else s.wr (F.SY_BARN_N.at site 0 cell) 0

/-- Pool entries of a die in use (R279). -/
def State.poolUsed (s : State) (site : Nat) : Nat :=
  s.waiters.foldl (fun n e => if e.1.headD 0 = site then n + (e.2.filter (fun w => w.pool)).length else n) 0

/-- Where a new waiter of a cell goes: inline, the pool, or nowhere (R279, R287). -/
def State.waiterPlace (s : State) (site cell : Nat) : Option Bool :=
  if ((s.cellWaiters site cell).filter (fun w => !w.pool)).length < 8 then some false
  else if s.poolUsed site < 4096 then some true
  else none

/-- VALUE of a cell. -/
def State.cellValue (s : State) (site cell : Nat) : Nat := s.rd (F.SY_VALUE_VALUE.at site 0 cell)

/-- VALID of a cell. -/
def State.cellValid (s : State) (site cell : Nat) : Bool := s.on (F.SY_OWNER_VALID.at site 0 cell)

/-- A WAKE with a status (R282). The answer's SLOT names the core it is for (DESIGN CHOICE, log 15). -/
def State.wake (s : State) (site cell dest slot status : Nat) : State :=
  s.send (.sync { type := 5, dest := dest, cell := cell, value := status, src := site, slot := slot })

/-- A NOROOM answer (R287). -/
def State.noRoom (s : State) (site cell dest slot : Nat) : State :=
  (s.bump (F.SY_NOROOM_COUNT.at site)).wake site cell dest slot 2

/-- The WAIT waiters of a list evaluated in order: the value left, the waiters left, those answered (R287). -/
def evalWaiters : Nat → List Waiter → Nat × List Waiter × List Waiter
  | v, [] => (v, [], [])
  | v, w :: r =>
    if !w.barrier ∧ w.thresh ≤ v then
      let q := evalWaiters (if w.cons then v - w.thresh else v) r
      (q.1, q.2.1, w :: q.2.2)
    else
      let q := evalWaiters v r
      (q.1, w :: q.2.1, q.2.2)

/-- The evaluation after a change of VALUE (R287). -/
def State.evalCell (s : State) (site cell : Nat) : State :=
  let q := evalWaiters (s.cellValue site cell) (s.cellWaiters site cell)
  let s := each q.2.2 (fun w s => s.wake site cell w.site w.slot 0) s
  (s.setWaiters site cell q.2.1).wr (F.SY_VALUE_VALUE.at site 0 cell) q.1

/-- VALUE and BAR_N become 0 and every BARRIER waiter is answered SATISFIED (R290). -/
def State.releaseBarrier (s : State) (site cell : Nat) : State :=
  let l := s.cellWaiters site cell
  let s := each (l.filter (fun w => w.barrier)) (fun w s => s.wake site cell w.site w.slot 0) s
  (s.setWaiters site cell (l.filter (fun w => !w.barrier))).wr (F.SY_VALUE_VALUE.at site 0 cell) 0

/-- An addition to a cell under R284: VALUE, the LAST fields, and 0x4102 when it saturates. -/
def State.addCell (s : State) (site cell k lsite lslot : Nat) : State :=
  let sum := s.cellValue site cell + k
  let s := s.wr (F.SY_VALUE_VALUE.at site 0 cell) (min sum (2 ^ 24 - 1))
  let s := s.wr (F.SY_LAST_SITE.at site 0 cell) lsite
  let s := s.wr (F.SY_LAST_SLOT.at site 0 cell) lslot
  let s := s.wr (F.SY_LAST_TIME.at site 0 cell) (s.now site)
  if sum < 2 ^ 24 then s
  else
    (s.bump (F.SY_SATCNT_COUNT.at site)).report {
      code := 0x4102, site := site, unit := 0xFF, sev := 1, master := s.rd (F.SY_OWNER_OWNER.at site 0 cell), info0 := cell,
      info1 := lsite + lslot <<< 9, info2 := min (sum - (2 ^ 24 - 1)) (2 ^ 24 - 1) }

/-- A signal to a VALID cell: the addition, then a release or the evaluation (R284, R287, R291). -/
def State.signalCell (s : State) (site cell k lsite lslot : Nat) : State :=
  let s := s.addCell site cell k lsite lslot
  let n := s.rd (F.SY_BARN_N.at site 0 cell)
  if n ≠ 0 ∧ n ≤ s.cellValue site cell then s.releaseBarrier site cell else s.evalCell site cell

/-- Does a sync unit take a message in: a compute die that is not dark, and the type of the row (R279, R283). -/
def State.syncTakes (s : State) (type : Nat) (m : SyncMsg) : Bool :=
  isDie m.dest && !(s.dark m.dest) && decide (m.type = type ∧ m.cell < 2048)

/-- SYNC_SIGNAL (R284). -/
def State.syncSignal (s : State) (m : SyncMsg) : State :=
  if !(s.syncTakes 1 m) then s
  else
    let s := s.takeSync m
    if !(s.cellValid m.dest m.cell) then s.wake m.dest m.cell m.src m.slot 5
    else
      let sat := decide (2 ^ 24 ≤ s.cellValue m.dest m.cell + m.value)
      let s := s.signalCell m.dest m.cell m.value m.src m.slot
      s.wake m.dest m.cell m.src m.slot (if sat then 4 else 3)

/-- SYNC_WAIT (R287). -/
def State.syncWait (s : State) (m : SyncMsg) : State :=
  if !(s.syncTakes 2 m) then s
  else
    let s := s.takeSync m
    let v := s.cellValue m.dest m.cell
    if !(s.cellValid m.dest m.cell) then s.wake m.dest m.cell m.src m.slot 5
    else if m.value ≤ v then
      (if m.cons then s.wr (F.SY_VALUE_VALUE.at m.dest 0 m.cell) (v - m.value) else s).wake m.dest m.cell m.src m.slot 0
    else
      match s.waiterPlace m.dest m.cell with
      | some pool =>
        s.setWaiters m.dest m.cell (s.cellWaiters m.dest m.cell ++ [⟨m.src, m.slot, false, m.value, m.cons, pool⟩])
      | none => s.noRoom m.dest m.cell m.src m.slot

/-- SYNC_CANCEL (R288): the core's waiter is withdrawn, of several the first registered (DESIGN CHOICE, log 65); with none the message is ignored. -/
def State.syncCancel (s : State) (m : SyncMsg) : State :=
  if !(s.syncTakes 3 m) then s
  else
    let s := s.takeSync m
    let l := s.cellWaiters m.dest m.cell
    match l.find? (fun w => decide (w.site = m.src ∧ w.slot = m.slot)) with
    | some w => (s.setWaiters m.dest m.cell (l.erase w)).wake m.dest m.cell m.src m.slot 1
    | none => s

/-- SYNC_ARRIVE (R290). -/
def State.syncArrive (s : State) (m : SyncMsg) : State :=
  if !(s.syncTakes 4 m) then s
  else
    let s := s.takeSync m
    if !(s.cellValid m.dest m.cell) then s.wake m.dest m.cell m.src m.slot 5
    else if m.value ≤ min (s.cellValue m.dest m.cell + 1) (2 ^ 24 - 1) then
      let s := (s.addCell m.dest m.cell 1 m.src m.slot).wr (F.SY_BARN_N.at m.dest 0 m.cell) m.value
      (s.releaseBarrier m.dest m.cell).wake m.dest m.cell m.src m.slot 0
    else
      match s.waiterPlace m.dest m.cell with
      | none => s.noRoom m.dest m.cell m.src m.slot
      | some pool =>
        let s := (s.addCell m.dest m.cell 1 m.src m.slot).wr (F.SY_BARN_N.at m.dest 0 m.cell) m.value
        (s.setWaiters m.dest m.cell (s.cellWaiters m.dest m.cell ++ [⟨m.src, m.slot, true, m.value, false, pool⟩])).evalCell m.dest m.cell

/-- BREAK of one cell (R299): every waiter answered BROKEN with OWNER and removed. -/
def State.breakCell (s : State) (site cell : Nat) : State :=
  let owner := s.rd (F.SY_OWNER_OWNER.at site 0 cell)
  let s := each (s.cellWaiters site cell) (fun w s =>
    s.send (.sync { type := 6, dest := w.site, cell := cell, value := owner, src := site, slot := w.slot })) s
  s.setWaiters site cell []

/-- CLEAR of one cell (R299). -/
def State.clearCell (s : State) (site cell : Nat) : State :=
  let s := s.setWaiters site cell []
  let s := ((s.wr (F.SY_VALUE_VALUE.at site 0 cell) 0).wr (F.SY_STEPVAL_VALUE.at site 0 cell) 0).wr (F.SY_BARN_N.at site 0 cell) 0
  ((s.wr (F.SY_LAST_SITE.at site 0 cell) 0x1FF).wr (F.SY_LAST_SLOT.at site 0 cell) 0x1F).wr (F.SY_LAST_TIME.at site 0 cell) 0

/-- PURGE on one die: every waiter of one core removed without answer (R299). -/
def State.purgeDie (s : State) (site : Nat) (c : CoreId) : State :=
  each ((s.waiters.filter (fun e => decide (e.1.headD 0 = site))).map (fun e => e.1.getD 1 0)) (fun cell s =>
    s.setWaiters site cell ((s.cellWaiters site cell).filter (fun w => decide (¬ (w.site = c.site ∧ w.slot = c.slot))))) s

/-- The VALID cells of a die, in increasing order (R299). -/
def State.validCells (s : State) (site : Nat) : List Nat := (List.range 2048).filter (fun i => s.cellValid site i)

/-- SNAPSHOT on one die (R293). -/
def State.snapshotDie (s : State) (site : Nat) : State :=
  each (s.validCells site) (fun i s => s.wr (F.SY_STEPVAL_VALUE.at site 0 i) (s.cellValue site i)) s

/-- RESTORE on one die (R294). -/
def State.restoreDie (s : State) (site : Nat) : State :=
  each (s.validCells site) (fun i s =>
    (s.setWaiters site i []).wr (F.SY_VALUE_VALUE.at site 0 i) (s.rd (F.SY_STEPVAL_VALUE.at site 0 i))) s

/-- A write of SY_CMD at a die that is not dark: discarded while CMD_BUSY = 1; a die-wide command keeps CMD_BUSY set until it is done (R299). -/
def State.syCmd (s : State) (site : Nat) (wide : Bool) (f : State → State) : State :=
  if !(isDie site) ∨ s.dark site ∨ s.on (F.SY_STAT_CMD_BUSY.at site) then s
  else if wide then (f s).wr (F.SY_STAT_CMD_BUSY.at site) 1
  else f s

/-- The cell SY_SEL selects. -/
def State.sySel (s : State) (site : Nat) : Nat := s.rd (F.SY_SEL_CELL.at site)

/-- SY_CMD_SIGNAL (R299): `src` is the writing steward's site or the host die of the port. -/
def State.syCmdSignal (s : State) (site src : Nat) : State :=
  s.syCmd site false (fun s =>
    let k := s.rd (F.SY_CMD_ARG_ARG.at site)
    if k = 0 ∨ !(s.cellValid site (s.sySel site)) then s else s.signalCell site (s.sySel site) k src 0x1F)

/-- SY_CMD_BREAK (R299). -/
def State.syCmdBreak (s : State) (site : Nat) : State := s.syCmd site false (fun s => s.breakCell site (s.sySel site))

/-- SY_CMD_PURGE (R299). -/
def State.syCmdPurge (s : State) (site : Nat) : State :=
  s.syCmd site true (fun s =>
    let a := s.rd (F.SY_CMD_ARG_ARG.at site)
    s.purgeDie site ⟨bits a 8 0, bits a 13 9⟩)

/-- SY_CMD_SNAPSHOT (R293, R299). -/
def State.syCmdSnapshot (s : State) (site : Nat) : State := s.syCmd site true (fun s => s.snapshotDie site)

/-- SY_CMD_RESTORE (R294, R299). -/
def State.syCmdRestore (s : State) (site : Nat) : State := s.syCmd site true (fun s => s.restoreDie site)

/-- SY_CMD_CLEAR (R299). -/
def State.syCmdClear (s : State) (site : Nat) : State := s.syCmd site false (fun s => s.clearCell site (s.sySel site))

/-- SY_CMD_DONE (R299). -/
def State.syCmdDone (s : State) (site : Nat) : State := s.wr (F.SY_STAT_CMD_BUSY.at site) 0

/-- SY_VALUE_WRITE (R298). -/
def State.syValueWrite (s : State) (site v : Nat) : State :=
  if !(isDie site) ∨ s.dark site then s
  else (s.wr (F.SY_VALUE_VALUE.at site 0 (s.sySel site)) v).evalCell site (s.sySel site)

/-- SY_OWNER_WRITE (R298). -/
def State.syOwnerWrite (s : State) (site v : Nat) : State :=
  let i := s.sySel site
  if !(isDie site) ∨ s.dark site then s
  else if s.cellValid site i ∧ bits v 9 0 ≠ s.rd (F.SY_OWNER_OWNER.at site 0 i) then s
  else
    let s := if s.cellValid site i ∧ bits v 16 16 = 0 then s.breakCell site i else s
    ((s.wr (F.SY_OWNER_OWNER.at site 0 i) (bits v 9 0)).wr (F.SY_OWNER_VALID.at site 0 i) (bits v 16 16)).wr (F.SY_OWNER_SHARED.at site 0 i) (bits v 17 17)

/-- SY_XLT_INV (R281). -/
def State.xltInv (s : State) (site : Nat) : State := { s with xlt := tset [] s.xlt [site] [] }

/-- The first entry of a wait that waits for an answer of a cell: R270's answer names the cell alone, so where two entries name one cell it is the first sent (DESIGN CHOICE, log 65). -/
def awaiting (l : List WEntry) (site cell : Nat) : Option WEntry :=
  l.find? (fun e => decide (e.st = .sent ∧ e.site = site ∧ e.cell = cell))

/-- One entry of a list in another state. -/
def answerEnt (l : List WEntry) (e : WEntry) (st : EntrySt) : List WEntry :=
  l.map (fun x => if x = e then { x with st := st } else x)

/-- The wait a core holds: its entries, the descriptor's address and word, the kind of R301, whether it is expired or withdrawn. -/
def heldWait (k : CoreSt) : Option (List WEntry × Nat × Nat × Nat × Bool) :=
  match k.held with
  | some h => if h.op = 0x11 ∨ h.op = 0x12 then some (h.ents, h.addr, h.desc, heldKind h.op, h.expired || h.withdrawn) else none
  | none =>
    match k.cand with
    | some cd => some (cd.ents, cd.addr, cd.desc, 0, cd.expired || cd.withdrawn)
    | none => none

/-- The entries of the wait a core holds replaced. -/
def setHeldWait (k : CoreSt) (l : List WEntry) : CoreSt :=
  match k.held with
  | some h => { k with held := some { h with ents := l } }
  | none => match k.cand with | some cd => { k with cand := some { cd with ents := l } } | none => k

/-- A wait of a core fails with an answer's code (R283, R296). -/
def State.waitFail (s : State) (c : CoreId) (e : WEntry) (addr d kind code value : Nat) : State :=
  (s.syncRecord c code e.vid e.site e.cell value e.cons kind addr).seqFail c addr d { code := code, info0 := 0, form := 2 }

/-- A WAKE reaches a core: it answers the oldest SIGNAL to the cell when it carries ACK, ACK_SAT, or REFUSED with a SIGNAL outstanding there, else the wait's first unanswered entry at the cell (R282 to R288; which of the two a REFUSED answers, DESIGN CHOICE, log 15). A NOROOM that comes after the entry's CANCEL was sent counts as CANCELLED (DESIGN CHOICE, log 65). -/
def State.coreWake (s : State) (c : CoreId) (m : SyncMsg) : State :=
  let k := s.core c
  let sig := k.sigs.find? (fun g => decide (g.site = m.src ∧ g.cell = m.cell))
  if m.value = 3 ∨ m.value = 4 ∨ (m.value = 5 ∧ sig.isSome) then
    match sig with
    | none => s
    | some g =>
      let s := s.onCore c (fun k => { k with sigs := k.sigs.erase g })
      if m.value = 5 then (s.syncRecord c 0x4103 g.vid g.site g.cell g.inc false 3 g.addr).stopCore c 0x4103 else s
  else
    match heldWait k with
    | none => s
    | some (l, addr, d, kind, ending) =>
      match awaiting l m.src m.cell with
      | none => s
      | some e =>
        if m.value = 0 then (s.onCore c (fun k => setHeldWait k (answerEnt l e .satisfied))).afterAnswer c
        else if m.value = 1 then (s.onCore c (fun k => setHeldWait k (answerEnt l e .cancelled))).afterAnswer c
        else if m.value = 2 then (s.onCore c (fun k => setHeldWait k (answerEnt l e (if ending then .cancelled else .noroom)))).afterAnswer c
        else if m.value = 5 then s.waitFail c e addr d kind 0x4103 e.thresh
        else s

/-- SYNC_BROKEN at a core (R296). -/
def State.coreBroken (s : State) (c : CoreId) (m : SyncMsg) : State :=
  match heldWait (s.core c) with
  | none => s
  | some (l, addr, d, kind, _) =>
    match awaiting l m.src m.cell with
    | none => s
    | some e => s.waitFail c e addr d kind 0x4301 (m.value % 1024)

/-- WAIT_RESEND at a core: every WAIT and ARRIVE answered NOROOM is sent again (R287, R290). -/
def State.waitResend (s : State) (c : CoreId) : State :=
  match heldWait (s.core c) with
  | none => s
  | some (l, _, _, kind, ending) =>
    if ending then s
    else
      let s := each (l.filter (fun e => decide (e.st = .noroom))) (fun e s =>
        s.sendSync c (if kind = 2 then 4 else 2) e.site e.cell e.thresh e.cons) s
      s.onCore c (fun k => setHeldWait k (l.map (fun e => if e.st = .noroom then { e with st := .sent } else e)))

end Sys2Proof.Machine
end

