-- ==== Sys2Proof/Machine/Access.lean ====
section
/-! DEFINITION. Access tables, step write fences and partitions (R302 to R306, R327 to R333, R337, R444): the registers that change tables, and the CTX page's commands on partitions and grants. -/

namespace Sys2Proof.Machine

/-- Result of a CX_CMD (R336, R337). -/
def State.cxResult (s : State) (code : Nat) : State := s.wr (F.CX_CMD_STAT_RESULT.at stw) code

/-- The selected context (R336). -/
def State.cxSel (s : State) : Nat := s.rd (F.CX_SEL_CTX.at stw)

/-- The selected partition (R336). -/
def State.ptSel (s : State) : Nat := s.rd (F.PT_SEL_PART.at stw)

/-- CX_STATE.STATE of a context (R308). -/
def State.cxState (s : State) (ctx : Nat) : Nat := s.rd (F.CX_STATE_STATE.at stw 0 ctx)

/-- The partition of a context (R307). -/
def State.cxPart (s : State) (ctx : Nat) : Nat := s.rd (F.CX_CFG_PART.at stw 0 ctx)

/-- Is a partition VALID. -/
def State.ptValid (s : State) (p : Nat) : Bool := s.on (F.PT_CFG_VALID.at stw 0 p)

/-- The plots of a partition, in increasing order. -/
def State.ptPlots (s : State) (p : Nat) : List Nat := ones (s.plotSet p) 72

/-- The compute dies of a partition that are not dark, in increasing order (R304, R563). -/
def State.ptDies (s : State) (p : Nat) : List Nat :=
  ((s.ptPlots p).flatMap (fun q => [4 * q, 4 * q + 1])).filter (fun d => !(s.dark d))

/-- The VALID partition that a plot belongs to (R304). -/
def State.partOfPlot (s : State) (q : Nat) : Option Nat :=
  (List.range 64).find? (fun p => s.ptValid p && (s.plotSet p).testBit q)

/-- The VALID partition that a site belongs to. -/
def State.partOfSite (s : State) (site : Nat) : Option Nat := if site < 288 then s.partOfPlot (plotOf site) else none

/-- The contexts of a partition in one of some states. -/
def State.ctxsIn (s : State) (p : Nat) (states : List Nat) : List Nat :=
  (List.range 1024).filter (fun x => decide (s.cxPart x = p) && states.contains (s.cxState x))

/-- Does a partition hold a context that is ACTIVE, SAVING or RESTORING (R306). -/
def State.ptBusy (s : State) (p : Nat) : Bool := !(s.ctxsIn p [2, 3, 5]).isEmpty

/-- Is an epoch commit in progress (R428). -/
def State.epochBusy (s : State) : Bool := decide (s.rd (F.EP_STAT_STATE.at stw) ≠ 0)

/-- Is a commit of sets, routes or groups in progress, which holds up bindings (R428). -/
def State.epochMoves (s : State) : Bool := s.epochBusy && decide (s.rd (F.EP_MASK_MASK.at stw) % 16 ≠ 0)

/-- The ceiling in force: the smaller of PP_EFF and TP_FLOWCAP (R444, R466). -/
def State.ceiling (s : State) : Nat := min (s.rd (F.PP_EFF_WATTS.at stw)) (s.rd (F.TP_FLOWCAP_WATTS.at stw))

/-- The host interface die whose memory agent serves the active steward: its own, or the other when that is dark (R268). -/
def State.agentSite (s : State) : Nat :=
  if s.active = 0 then (if s.dark 304 then 305 else 304) else (if s.dark 305 then 304 else 305)

/-- The steward's panel-memory accesses, performed by its agent (R268, R303). -/
def State.stwAsker (s : State) (type : Nat) : Asker :=
  { master := s.stewardMaster, site := s.agentSite, slot := 0x1F, type := type, op := bnat (decide (type = 2)) }

/-- A read of panel memory by the active steward (R268). -/
def State.stwRead (s : State) (addr n : Nat) : Except Nat (List Byte) × State := s.panelRead (s.stwAsker 1) addr n

/-- A write of panel memory by the active steward (R268). -/
def State.stwWrite (s : State) (addr : Nat) (bs : List Byte) : Except Nat Unit × State := s.panelWrite (s.stwAsker 2) addr bs

/-- Does a site hold a resource table (R327). -/
def hasRes (site : Nat) : Bool := match partOf site with | .die | .stack | .steward => true | _ => false

/-- Does a site implement the ACL page (R331). -/
def hasAcl (site : Nat) : Bool := decide (blockOf site 0xA = some .acl)

/-- The fence list of a partition as last applied (R332). -/
def State.flist (s : State) (p : Nat) : List (Nat × Nat × Nat) := tget [] s.flists [p]

/-- The names of one FENCE bit: a bit of the queue block's table stands at both stewards (R327). -/
def fenceTwins (b : Nat × Nat × Nat) : List (Nat × Nat × Nat) :=
  if b.2.1 = 1 ∧ partOf b.1 = .steward then [b, (613 - b.1, b.2)] else [b]

/-- Is a FENCE bit named by an armed partition whose fences are not lifted (R332, R501). -/
def State.fenceNamed (s : State) (b : Nat × Nat × Nat) : Bool :=
  (List.range 64).any (fun p => s.on (F.PT_CFG_ARMED.at stw 0 p) && !(s.lifted.contains p) && (fenceTwins b).any (fun x => (s.flist p).contains x))

/-- A change of a table at a site; one of the queue block's table is made at both stewards, whose tables the active steward keeps identical (R327). -/
def State.atTable (s : State) (site table : Nat) (f : Nat → State → State) : State :=
  let s := f site s
  if table = 1 ∧ partOf site = .steward then f (613 - site) s else s

/-- One FENCE bit of a table set or cleared (R332). -/
def State.setFence (s : State) (b : Nat × Nat × Nat) (on : Bool) : State :=
  s.atTable b.1 b.2.1 (fun site s =>
    let l := F.AC_FENCE.at site 0 (4096 * b.2.1)
    s.wr l (if on then setBit (s.rd l) b.2.2 else clrBit (s.rd l) b.2.2))

/-- FENCE bits brought to what the lists of armed partitions name (R332, R333). -/
def State.refence (s : State) (l : List (Nat × Nat × Nat)) : State := each l (fun b s => s.setFence b (s.fenceNamed b)) s

/-- The fence list of a partition read again and applied (R333 step 3): the code of a read that fails. -/
def State.applyFences (s : State) (p : Nat) : Except Nat Unit × State :=
  let r := s.stwRead (s.rd (F.PT_FLIST.at stw 0 p)) (4 * s.rd (F.PT_FCOUNT_COUNT.at stw 0 p))
  match r.1 with
  | .error c => (.error c, r.2)
  | .ok b =>
    let new := (pieces 4 b.length b).map (fun w => (bits (leNat w) 8 0, bits (leNat w) 9 9, bits (leNat w) 15 10))
    let old := r.2.flist p
    let s := { r.2 with flists := tset [] r.2.flists [p] new }
    (.ok (), s.refence (old ++ new))

/-- A partition disarmed: the bits that only its list held are cleared (R333). -/
def State.disarm (s : State) (p : Nat) : State :=
  let old := s.flist p
  let s := { s.wr (F.PT_CFG_ARMED.at stw 0 p) 0 with flists := tset [] s.flists [p] [], lifted := s.lifted.filter (fun x => decide (x ≠ p)) }
  s.refence old

/-- CX_CREATE (R337). -/
def State.cxCreate (s : State) : State :=
  let x := s.cxSel
  if s.cxState x = 0 ∧ s.ptValid (s.cxPart x) then (s.wr (F.CX_STATE_STATE.at stw 0 x) 1).cxResult 0 else s.cxResult 0x5405

/-- Σ of the caps of in-service dies and stacks with a partition's new values (R444). -/
def State.capSum (s : State) (p : Nat) : Nat :=
  ((allDies ++ allStacks).filter (fun x => s.inService x)).foldl (fun n x =>
    n + (if (s.plotSet p).testBit (plotOf x) then s.rd ((if isStack x then F.PP_PART_STK_W else F.PP_PART_DIE_W).at stw 0 p)
         else s.rd (F.PW_CAP_WATTS.at x))) 0

/-- Does the cap sum with a partition's new values fit the panel's ceiling: (Σ + PP_FIXED) × 1.07 ≤ PP_EFF (R444, R466). -/
def State.capsFit (s : State) (p : Nat) : Bool :=
  decide ((s.capSum p + s.rd (F.PP_FIXED_WATTS.at stw)) * 107 ≤ s.ceiling * 100)

/-- Caps of every compute die and stack of a partition's plots (R444). -/
def State.writeCaps (s : State) (p dieW stkW : Nat) : State :=
  each (s.ptPlots p) (fun q s =>
    ((s.wr (F.PW_CAP_WATTS.at (4 * q)) dieW).wr (F.PW_CAP_WATTS.at (4 * q + 1)) dieW).wr (F.PW_CAP_WATTS.at (4 * q + 2)) stkW) s

/-- The steward keeps CHECK_EN and SHADOW_EN at 1 on every core of a production partition (R305). -/
def State.keepChecks (s : State) (p : Nat) : State :=
  each (s.ptDies p) (fun d s => loopN 18 (fun i s =>
    (s.wr (F.MX_CFG_CHECK_EN.core ⟨d, i⟩) 1).wr (F.VX_CFG_SHADOW_EN.core ⟨d, i⟩) 1) s) s

/-- CX_PART_SET (R304, R306, R337, R428, R444). -/
def State.cxPartSet (s : State) : State :=
  let p := s.ptSel
  if s.ptValid p ∨ s.epochBusy then s.cxResult 0x5405
  else if (s.ptPlots p).any (fun q => !(s.plotInService s.substStack q) || (s.partOfPlot q).isSome) then s.cxResult 0x5406
  else if !(s.capsFit p) then s.cxResult 0x7302
  else
    let s := (s.wr (F.PT_CFG_VALID.at stw 0 p) 1).wr (F.PT_CFG_ARMED.at stw 0 p) 0
    let s := s.writeCaps p (s.rd (F.PP_PART_DIE_W.at stw 0 p)) (s.rd (F.PP_PART_STK_W.at stw 0 p))
    let s := if s.on (F.PT_CFG_PRODUCTION.at stw 0 p) then s.keepChecks p else s
    s.cxResult 0

/-- A partition cleared: disarmed, no longer VALID, its sites at the cap floors (R337, R444). -/
def State.clearPart (s : State) (p : Nat) : State := ((s.disarm p).wr (F.PT_CFG_VALID.at stw 0 p) 0).writeCaps p 9 20

/-- CX_PART_CLEAR (R306, R337): allowed whenever no context of the partition is beyond READY or SAVED; of a partition that is not VALID there is nothing to clear. -/
def State.cxPartClear (s : State) : State :=
  let p := s.ptSel
  if !(s.ctxsIn p [2, 3, 5, 6]).isEmpty then s.cxResult 0x5405 else (if s.ptValid p then s.clearPart p else s).cxResult 0

/-- CX_FENCE_ON (R333, R337): the partition stays disarmed when its list cannot be read. -/
def State.cxFenceOn (s : State) : State :=
  let p := s.ptSel
  if !(s.ptValid p) then s.cxResult 0x5405
  else
    let was := s.rd (F.PT_CFG_ARMED.at stw 0 p)
    let r := (s.wr (F.PT_CFG_ARMED.at stw 0 p) 1).applyFences p
    match r.1 with
    | .error c => (r.2.wr (F.PT_CFG_ARMED.at stw 0 p) was).cxResult c
    | .ok _ => r.2.cxResult 0

/-- CX_FENCE_OFF (R333, R337). -/
def State.cxFenceOff (s : State) : State :=
  let p := s.ptSel
  if !(s.ptValid p) then s.cxResult 0x5405 else (s.disarm p).cxResult 0

/-- Masks of a master at a table (R327). -/
def State.setMasks (s : State) (site table master rd wr : Nat) : State :=
  (s.wr (F.AC_RD.at site 0 (aclIdx master table)) rd).wr (F.AC_WR.at site 0 (aclIdx master table)) wr

/-- Does a grant leave a context master's partition (R329). -/
def State.outOfScope (s : State) (site table master : Nat) : Bool :=
  decide (master < 1024) && (decide (table = 0) || isDie site || isStack site) &&
    decide (s.partOfSite site ≠ some (s.cxPart master))

/-- Is a change of a master's grants held back: a context of its partition is ACTIVE, SAVING or RESTORING (R306). -/
def State.grantBusy (s : State) (master : Nat) : Bool := decide (master < 1024) && s.ptBusy (s.cxPart master)

/-- Is a change of a stack's windows held back (R306). -/
def State.winBusy (s : State) (site : Nat) : Bool := match s.partOfSite site with | some p => s.ptBusy p | none => false

/-- CX_ACL_SET (R306, R329, R337). The standby steward's queue table is kept identical (R327). -/
def State.cxAclSet (s : State) : State :=
  let site := s.rd (F.AP_TGT_SITE.at stw)
  let table := s.rd (F.AP_TGT_TABLE.at stw)
  let m := s.rd (F.AP_MASTER_MASTER.at stw)
  let rd := s.rd (F.AP_RD.at stw)
  let wr := s.rd (F.AP_WR.at stw)
  if m > 1111 ∨ !(hasAcl site) ∨ (table = 1 ∧ !(hasRes site)) then s.cxResult 0x5407
  else if s.grantBusy m then s.cxResult 0x5405
  else if (rd ≠ 0 ∨ wr ≠ 0) ∧ s.outOfScope site table m then s.cxResult 0x5407
  else (s.atTable site table (fun n s => s.setMasks n table m rd wr)).cxResult 0

/-- CX_WIN_SET (R306, R329, R337). -/
def State.cxWinSet (s : State) : State :=
  let site := s.rd (F.AP_TGT_SITE.at stw)
  let w := s.rd (F.AP_TGT_WINDOW.at stw)
  if !(isStack site) ∨ !(s.inService site) then s.cxResult 0x5407
  else if s.winBusy site then s.cxResult 0x5405
  else
    ((s.wr (F.AC_WBASE_MIB.at site 0 w) (s.rd (F.AP_WBASE_MIB.at stw))).wr (F.AC_WLIMIT_MIB.at site 0 w) (s.rd (F.AP_WLIMIT_MIB.at stw))).cxResult 0

/-- A low word is held until its partner is written (R330): register 0 AC_RD, 1 AC_WR, 2 AC_FENCE, 3 AC_WBASE. -/
def State.holdLo (s : State) (site reg v : Nat) : State := { s with held := tset 0 s.held [site, reg] (v + 1) }

/-- The held low word, or the low word in force when none is held (R330). -/
def State.heldLo (s : State) (site reg now : Nat) : Nat := if tget 0 s.held [site, reg] = 0 then now else tget 0 s.held [site, reg] - 1

/-- A 64-bit mask of a table set by its high word together with the held low word, which is held no longer (R330). -/
def State.setPair (s : State) (site table reg : Nat) (l : Nat → Loc) (v : Nat) : State :=
  let w := s.heldLo site reg (s.rd (l site) % 2 ^ 32) + (v % 2 ^ 32) <<< 32
  { s.atTable site table (fun n s => s.wr (l n) w) with held := tset 0 s.held [site, reg] 0 }

/-- The table entry AC_SEL selects, if it selects one (R339). -/
def State.acSel (s : State) (site : Nat) : Option (Nat × Nat) :=
  let m := s.rd (F.AC_SEL_MASTER.at site)
  let t := s.rd (F.AC_SEL_TABLE.at site)
  if m > 1111 ∨ !(hasAcl site) ∨ s.dark site ∨ (t = 1 ∧ !(hasRes site)) then none else some (m, t)

/-- AC_RD_HI_WRITE (R330): the grants of a busy partition's contexts are held back, the write discarded (R306). -/
def State.acRdHi (s : State) (site v : Nat) : State :=
  match s.acSel site with
  | none => s
  | some (m, t) => if s.grantBusy m then s else s.setPair site t 0 (fun n => F.AC_RD.at n 0 (aclIdx m t)) v

/-- AC_WR_HI_WRITE (R330), held back as AC_RD is (R306). -/
def State.acWrHi (s : State) (site v : Nat) : State :=
  match s.acSel site with
  | none => s
  | some (m, t) => if s.grantBusy m then s else s.setPair site t 1 (fun n => F.AC_WR.at n 0 (aclIdx m t)) v

/-- AC_FENCE_HI_WRITE (R330): the mask of TABLE. -/
def State.acFenceHi (s : State) (site v : Nat) : State :=
  let t := s.rd (F.AC_SEL_TABLE.at site)
  if !(hasAcl site) ∨ s.dark site ∨ (t = 1 ∧ !(hasRes site)) then s
  else s.setPair site t 2 (fun n => F.AC_FENCE.at n 0 (4096 * t)) v

/-- AC_WLIMIT_WRITE (R330): the selected window of a stack; held back while its partition is busy (R306). -/
def State.acWlimit (s : State) (site v : Nat) : State :=
  let w := s.rd (F.AC_WSEL_WINDOW.at site)
  if !(isStack site) ∨ s.dark site ∨ s.winBusy site then s
  else
    let b := F.AC_WBASE_MIB.at site 0 w
    { (s.wr b (s.heldLo site 3 (s.rd b))).wr (F.AC_WLIMIT_MIB.at site 0 w) v with held := tset 0 s.held [site, 3] 0 }

end Sys2Proof.Machine
end

