-- ==== Sys2Proof/Machine/Data.lean ====
section
/-! DEFINITION. Data descriptors on the DMA channels (R120, R130 to R132, R193, R255 to R262). -/

namespace Sys2Proof.Machine

/-- A loop of steps that may fail: stops at the first failure. -/
def loopE (n : Nat) (f : Nat → State → Except Nat Unit × State) (s : State) : Except Nat Unit × State :=
  (List.range n).foldl (fun a i => match a.1 with | .error c => (.error c, a.2) | .ok _ => f i a.2) (.ok (), s)

/-- The oldest descriptor of an opcode that its agent may run now: every earlier one of that agent is done and acknowledged (R120, R122). -/
def runnable (k : CoreSt) (op : Nat) : Option Issued :=
  k.window.find? (fun e => decide (dOp e.desc = op ∧ e.phase ≠ .done) &&
    !(k.window.any (fun x => decide (x.id < e.id ∧ x.agent = e.agent) && !(decide (x.phase = .done ∧ x.acks = 0 ∧ x.bad = 0)))))

/-- Is a FILL or COPY performed at core or die memory (R193). -/
def atMemory (e : Issued) : Bool :=
  decide (dOp e.desc = 0x22 ∨ dOp e.desc = 0x23) && (match e.trefs.getD 1 none with | some b => decide (b.space ≠ 0) | none => false)

/-- A descriptor's requester identity in records (R198). -/
def whoOf (e : Issued) : Who := { op := dOp e.desc, daddr := e.addr, req := if atMemory e then 4 else requesterOf e.agent }

/-- Is a range of a space not to be reached yet: a fill of core memory, of the die memory or of a die region is in progress (R192, R202), or a request that arrived earlier at a stack is still to be performed there (R206). -/
def State.localBusy (s : State) (c : CoreId) (space : Nat) (l : List (Nat × Nat)) : Bool :=
  if space = 0 then s.panelHeld c.site l
  else if space = 1 then s.on (F.CB_STAT_ZEROING.core c)
  else if space = 2 then
    !(s.on (F.PG_STAT_READY.at c.site 9)) || l.any (fun e => (List.range 48).any (fun g => decide (e.1 < (g + 1) * 0x100000 ∧ g * 0x100000 < e.1 + e.2) &&
      s.on (F.DIEMEM_REGION_SCRUB.at c.site 0 g)))
  else false

/-- Do destinations lie in a line that a migration is copying (R231)? -/
def State.copyHeld (s : State) (c : CoreId) (l : List Touch) : Bool := s.lineHeld c.site ((l.filter (fun u => decide (u.t.space = 0))).flatMap Touch.ranges)

/-- Does a data descriptor wait for a fill of memory it reaches, its list among it (R192, R202), or for the line being copied that it would write (R231). -/
def State.dataBusy (s : State) (c : CoreId) (e : Issued) : Bool :=
  s.copyHeld c (dataTouch e.desc e.ix none (e.trefs.getD 1 none)) ||
  (decide (dOp e.desc = 0x26 ∨ dOp e.desc = 0x27) && s.localBusy c (df e.desc 54 1 0) [listRange e.desc]) ||
  (dataTouch e.desc e.ix (e.trefs.getD 0 none) (e.trefs.getD 1 none)).any (fun u => s.localBusy c u.t.space u.ranges)

/-- Does memory that an engine's blocks lie in make it wait: a request that reached a stack before it and is not yet performed, or a fill of local memory (R192, R206). -/
def State.blocksBusy (s : State) (c : CoreId) (l : List (TRef × Nat × Nat)) : Bool :=
  l.any (fun (t, i, j) => s.localBusy c t.space (Touch.ranges ⟨t, i, j, 1, 1⟩))

/-- Run a data descriptor of an opcode when it may start. -/
def State.runData (s : State) (c : CoreId) (op : Nat) (f : Issued → State) : State :=
  match runnable (s.core c) op with
  | some e => if s.dataBusy c e then s else f e
  | none => s

/-- A data descriptor has done its work: done with its count of units written, or bad with a code. -/
def State.endData (s : State) (c : CoreId) (e : Issued) (r : Except Nat Unit) (cnt : Nat) : State :=
  match r with
  | .error code => s.badIssued c e.id code
  | .ok _ => s.onIssued c e.id (fun x => { x with phase := .done, cnt0 := cnt % 2 ^ 32 })

/-- Units of 64 bytes added to the count of a descriptor by data it has written (R115): the count it fails with, should it fail. -/
def State.counted (c : CoreId) (e : Issued) (n : Nat) (r : Except Nat Unit × State) : Except Nat Unit × State :=
  match r.1 with
  | .error _ => r
  | .ok _ => (r.1, r.2.onIssued c e.id (fun x => { x with cnt0 := x.cnt0 + n }))

/-- The codes of a block as they arrive at the destination: transposed or not (R59, R130). -/
def arrangeCodes (tr : Bool) (l : List Nat) : List Nat := if tr then transpose 0 l else l

/-- A block read from the source and put at the destination, moved unaltered where formats and scale planes agree, else converted once (R131). -/
def State.moveBlock (s : State) (c : CoreId) (w : Who) (a b : TRef) (i j i' j' : Nat) (tr rnd ovf : Bool) : Except Nat Unit × State :=
  let r := s.readBlock c w a i j
  match r.1 with
  | .error e => (.error e, r.2)
  | .ok (bs, sc) =>
    let s := r.2
    if a.fmt = b.fmt ∧ a.scaled = b.scaled then
      let bs := if tr then bytesOf a.f (transpose 0 (blockCodes a.f bs)) else bs
      let sc := if tr ∧ a.scaled then transposeScales sc else sc
      s.writeBlock c w b i' j' bs sc
    else
      let vals := blockValues a.f bs sc
      let vals := if tr then transpose .nan vals else vals
      let (sc', bs', g) := convertBlock b.f b.scaled rnd ovf vals (s.core c).gen
      (s.onCore c (fun k => { k with gen := g })).writeBlock c w b i' j' bs' sc'

/-- The fields of a data descriptor with its index registers applied: SI, SJ, DI, DJ, NR, NC (R130). -/
def dataOrg (e : Issued) : Nat × Nat × Nat × Nat × Nat × Nat :=
  let d := e.desc
  (origin e.ix (df d 20 15 0) (df d 34 2 0), origin e.ix (df d 22 15 0) (df d 34 5 3), origin e.ix (df d 24 15 0) (df d 34 8 6),
   origin e.ix (df d 26 15 0) (df d 34 11 9), df d 28 15 0, df d 30 15 0)

/-- A stream program sent to a stack (R215, R216), stamped as every request is (R256). -/
def State.sendProgram (s : State) (c : CoreId) (p l run stride count : Nat) : State :=
  if !(s.routed c.site (4 * p + 2)) then s
  else
    let tag := tget 0 s.tagNext [c.site, c.slot]
    ({ s with tagNext := tset 0 s.tagNext [c.site, c.slot] ((tag + 1) % 65536) } : State).inject (sealPkt
    { type := 5, dest := 4 * p + 2, src := c.site, sunit := c.slot, master := s.ctxOf c, addr := stkAddr p (256 * l), tag := tag, fence := (s.core c).fence,
      inl := natLe l 4 ++ natLe run 2 ++ natLe stride 4 ++ natLe count 2 ++ natLe (s.ctxOf c) 2 ++ natLe 0 2 })

/-- Lines from the first to the last byte of a range of stack offsets. -/
def lineRun (off n : Nat) : Nat := (off + n - 1) / 256 - off / 256 + 1

/-- The parts of a range of A′ that each stack of its set holds: stack, first offset, bytes up to the last (R43). -/
def State.stackParts (s : State) (site i a n : Nat) : List (Nat × Nat × Nat) :=
  let cuts := (List.range ((a % 4096 + n + 4095) / 4096)).map (fun k => (max a (a / 4096 * 4096 + 4096 * k), min (a + n) (a / 4096 * 4096 + 4096 * (k + 1))))
  let placed := cuts.map (fun e => ((s.amMap site i e.1).1, (s.amMap site i e.1).2, e.2 - e.1))
  ((placed.map (fun e => e.1)).eraseDups).filterMap (fun p =>
    let l := placed.filter (fun e => e.1 == p)
    match l.head?, l.getLast? with
    | some f, some z => some (p, f.2.1, z.2.1 + z.2.2 - f.2.1)
    | _, _ => none)

/-- The stream programs of a panel-physical region of at least 4 blocks (R216): those of the whole region, sent at its start with `lo` 0; where each block row has a program of its own, those of the rows from `lo` up to `hi`. -/
def State.prefetchRows (s : State) (c : CoreId) (u : Touch) (lo hi : Nat) : State :=
  let a := u.t.block u.i u.j
  let n := u.nc * zOf u.t.fmt
  let pitch := u.t.rowBytes
  if u.t.space ≠ 0 ∨ u.nr * u.nc < 4 then s
  else if !(a.testBit 47) then
    if lo ≠ 0 then s else
    (match s.xlate c.site a with
     | .ok (p, off) => s.sendProgram c p (off / 256) (lineRun off n) (if u.nr = 1 then 0 else pitch / 256) u.nr
     | .error _ => s)
  else
    match s.amFind c.site (a % 2 ^ 47) with
    | none => s
    | some i =>
      let m := s.rd (F.AM_SET_N.at c.site 0 (64 * s.activeCopy c.site 0 + i))
      if pitch % (m * 4096) = 0 then
        if lo ≠ 0 then s else
        each (s.stackParts c.site i (a % 2 ^ 47) n) (fun e s =>
          s.sendProgram c e.1 (e.2.1 / 256) (lineRun e.2.1 e.2.2) (if u.nr = 1 then 0 else pitch / (256 * m)) u.nr) s
      else
        loopN (min hi u.nr - lo) (fun r s => each (s.stackParts c.site i (a % 2 ^ 47 + (lo + r) * pitch) n) (fun e s =>
          s.sendProgram c e.1 (e.2.1 / 256) (lineRun e.2.1 e.2.2) 0 1) s) s

/-- The stream programs of a region that one command reads whole: of every row. -/
def State.prefetchRegion (s : State) (c : CoreId) (u : Touch) : State := s.prefetchRows c u 0 u.nr

/-- The stream programs of a region that an engine reads as it goes: at its start, of the first 8 block rows (R216). -/
def State.prefetchStart (s : State) (c : CoreId) (u : Touch) : State := s.prefetchRows c u 0 8

/-- Every block of a region moved in row order: LOAD and STORE (R131). -/
def State.moveRegion (s : State) (c : CoreId) (e : Issued) (a b : TRef) : Except Nat Unit × State :=
  let (si, sj, di, dj, nr, nc) := dataOrg e
  let d := e.desc
  let tr := d.testBit 259
  loopE (nr * nc) (fun n s =>
    let x := n / nc
    let y := n % nc
    State.counted c e (zOf b.fmt / 64)
      (s.moveBlock c (whoOf e) a b (si + x) (sj + y) (di + if tr then y else x) (dj + if tr then x else y) tr (d.testBit 257) (d.testBit 258))) s

/-- LOAD and STORE on a DMA channel (R131). -/
def State.dataMove (s : State) (c : CoreId) (op : Nat) : State :=
  s.runData c op (fun e =>
    match e.trefs.getD 0 none, e.trefs.getD 1 none with
    | some a, some b =>
      let s := if op = 0x20 then each ((dataTouch e.desc e.ix (some a) none)) (fun u s => s.prefetchRegion c u) s else s
      let r := s.moveRegion c e a b
      r.2.endData c e r.1 (df e.desc 28 15 0 * df e.desc 30 15 0 * (zOf b.fmt / 64))
    | _, _ => s)

/-- The bytes that a COPY puts at its destination: every source block first, so that an overlap shows the source as it was (R131). -/
def State.copyRegion (s : State) (c : CoreId) (e : Issued) (a b : TRef) : Except Nat Unit × State :=
  let (si, sj, di, dj, nr, nc) := dataOrg e
  let tr := e.desc.testBit 259
  let r := (List.range (nr * nc)).foldl (fun (acc : Except Nat (List (List Byte × List Byte)) × State) n =>
    match acc.1 with
    | .error c => (.error c, acc.2)
    | .ok l =>
      let q := acc.2.readBlock c (whoOf e) a (si + n / nc) (sj + n % nc)
      (match q.1 with | .error c => .error c | .ok x => .ok (l ++ [x]), q.2)) (.ok [], s)
  match r.1 with
  | .error code => (.error code, r.2)
  | .ok l =>
    loopE (nr * nc) (fun n s =>
      let (bs, sc) := l.getD n ([], [])
      let bs := if tr then bytesOf a.f (transpose 0 (blockCodes a.f bs)) else bs
      let sc := if a.scaled then (if tr then transposeScales sc else sc) else List.replicate 16 (127 : Byte)
      let x := n / nc
      let y := n % nc
      State.counted c e (zOf b.fmt / 64) (s.writeBlock c (whoOf e) b (di + if tr then y else x) (dj + if tr then x else y) bs sc)) r.2

/-- The element bytes of a block of panel memory sector by sector: zeros where a sector is lost, with the cause for which it is (R220). -/
def State.readHoles (s : State) (c : CoreId) (w : Who) (addr n : Nat) : Except Nat (List Byte × List (Option Nat)) × State :=
  (List.range (n / 64)).foldl (fun (acc : Except Nat (List Byte × List (Option Nat)) × State) i =>
    match acc.1 with
    | .error e => (.error e, acc.2)
    | .ok (bs, hs) =>
      let r := acc.2.spaceRead c w 0 (addr + 64 * i) 64
      match r.1 with
      | .ok b => (.ok (bs ++ b, hs ++ [none]), r.2)
      | .error 0x2201 =>
        let cause := match s.xlate c.site (addr + 64 * i) with | .ok (p, off) => (r.2.lostCause p (off >>> 6)).getD 1 | .error _ => 1
        (.ok (bs ++ List.replicate 64 0, hs ++ [some cause]), r.2)
      | .error e => (.error e, r.2)) (.ok ([], []), s)

/-- The sectors of a transposed block that hold an element of a hole of the block (R220). -/
def holesOf (f : Fmt) (tr : Bool) (hs : List (Option Nat)) : List (Option Nat) :=
  if !tr then hs
  else
    let codes := transpose none ((List.range 1024).map (fun k => hs.getD (k * fmtBits f / 512) none))
    (List.range hs.length).map (fun i => ((codes.drop (i * 512 / fmtBits f)).take (512 / fmtBits f)).findSome? id)

/-- A sector of panel memory that would have received lost bytes is left failing, so that its DRAM fails its reads (cause 1), and so is the sector that a migration forwards it to (R220, R223, R225, R231); the write is checked like any other. -/
def State.leaveFailing (s : State) (c : CoreId) (addr : Nat) : Except Nat Unit × State :=
  let fail (s : State) (p sec : Nat) : State := (s.setFailing p sec 1).dropSector p sec
  let q : Asker := { master := s.ctxOf c, site := c.site, slot := c.slot, type := 2, op := 5 }
  match s.findStack c.site addr with
  | .error (code, x) => (.error code, if code = 0x2202 then s.badAddr q addr x else s.noRoute q addr x)
  | .ok (p, off) =>
    let r := s.stkRefuse p q true off 64
    match r.1 with
    | some code => (.error code, r.2)
    | none =>
      let s := fail r.2 p (off >>> 6)
      (.ok (), match s.mgTarget p off with | some d => fail s d (off >>> 6) | none => s)

/-- A block's bytes written to panel memory sector by sector; a hole is left failing (R220). -/
def State.writeHoles (s : State) (c : CoreId) (w : Who) (addr : Nat) (bs : List Byte) (hs : List (Option Nat)) : Except Nat Unit × State :=
  loopE hs.length (fun i s =>
    match hs.getD i none with
    | some _ => s.leaveFailing c (addr + 64 * i)
    | none => s.spaceWrite c w 0 (addr + 64 * i) ((bs.drop (64 * i)).take 64)) s

/-- A COPY within panel memory (R220): every source block first, then every destination block; a lost source sector of elements or scales leaves failing the destination sectors it feeds, the others receive their bytes, and the descriptor fails with 0x2201. -/
def State.copyPanel (s : State) (c : CoreId) (e : Issued) (a b : TRef) : Except Nat Unit × State :=
  let (si, sj, di, dj, nr, nc) := dataOrg e
  let tr := e.desc.testBit 259
  let r := (List.range (nr * nc)).foldl (fun (acc : Except Nat (List (List Byte × List (Option Nat) × List Byte × Bool)) × State) n =>
    match acc.1 with
    | .error code => (.error code, acc.2)
    | .ok l =>
      let q := acc.2.readHoles c (whoOf e) (a.block (si + n / nc) (sj + n % nc)) (zOf a.fmt)
      let z := if a.scaled then q.2.spaceRead c (whoOf e) 0 (a.scales (si + n / nc) (sj + n % nc)) 16 else (.ok [], q.2)
      (match q.1, z.1 with
        | .ok x, .ok sc => .ok (l ++ [(x.1, x.2, sc, false)])
        | .ok x, .error 0x2201 => .ok (l ++ [(x.1, x.2, List.replicate 16 0, true)])
        | .error code, _ => .error code
        | _, .error code => .error code, z.2)) (.ok [], s)
  match r.1 with
  | .error code => (.error code, r.2)
  | .ok l =>
    let at' (n : Nat) : Nat × Nat := (di + if tr then n % nc else n / nc, dj + if tr then n / nc else n % nc)
    let w := loopE (nr * nc) (fun n s =>
      let (bs, hs, sc, _) := l.getD n ([], [], [], false)
      let bs := if tr then bytesOf a.f (transpose 0 (blockCodes a.f bs)) else bs
      let sc := if a.scaled then (if tr then transposeScales sc else sc) else List.replicate 16 (127 : Byte)
      let (i, j) := at' n
      let v := s.writeHoles c (whoOf e) (b.block i j) bs (holesOf a.f tr hs)
      match v.1 with
      | .error code => (.error code, v.2)
      | .ok _ => State.counted c e (zOf b.fmt / 64) (if b.scaled then v.2.spaceWrite c (whoOf e) 0 (b.scales i j) sc else (.ok (), v.2))) r.2
    let f := (match w.1 with
      | .error _ => w
      | .ok _ => loopE (nr * nc) (fun n s =>
        if (l.getD n ([], [], [], false)).2.2.2 && b.scaled then s.leaveFailing c (b.scales (at' n).1 (at' n).2 / 64 * 64) else (.ok (), s)) w.2)
    (match f.1 with
      | .error code => .error code
      | .ok _ => if l.any (fun x => x.2.1.any Option.isSome || x.2.2.2) then .error 0x2201 else .ok (), f.2)

/-- The constant of a FILL as a block's bytes (R130, R131). -/
def fillBytes (d : Nat) (f : Fmt) : List Byte := bytesOf f (List.replicate 1024 (df d 40 31 0 % 2 ^ fmtBits f))

/-- A FILL's region written (R131). -/
def State.fillRegion (s : State) (c : CoreId) (e : Issued) (b : TRef) : Except Nat Unit × State :=
  let (_, _, di, dj, nr, nc) := dataOrg e
  let tr := e.desc.testBit 259
  let bs := fillBytes e.desc b.f
  loopE (nr * nc) (fun n s =>
    let x := n / nc
    let y := n % nc
    State.counted c e (zOf b.fmt / 64) (s.writeBlock c (whoOf e) b (di + if tr then y else x) (dj + if tr then x else y) bs (List.replicate 16 127))) s

/-- Units of 64 bytes that a data descriptor's region is counted as (R115). -/
def regionUnits (d : Nat) (b : TRef) : Nat := df d 28 15 0 * df d 30 15 0 * (zOf b.fmt / 64)

/-- A COPY or FILL of core or die memory is handed to the memory (R193). That a core's two channels hand over one at a time, the other waiting, is a DESIGN CHOICE (log 63): CB_STAT.FILLING is one bit and the spec does not say. -/
def State.handToMemory (s : State) (c : CoreId) (e : Issued) : State :=
  if s.on (F.CB_STAT_FILLING.core c) then s
  else ((s.wr (F.CB_STAT_FILLING.core c) 1).onIssued c e.id (fun x => { x with phase := .running })).onCore c (fun k => { k with fillFor := e.id })

/-- COPY (R131, R193). -/
def State.dataCopy (s : State) (c : CoreId) : State :=
  s.runData c 0x22 (fun e =>
    match e.trefs.getD 0 none, e.trefs.getD 1 none with
    | some a, some b =>
      if b.space = 0 then
        let r := s.copyPanel c e a b
        r.2.endData c e r.1 (regionUnits e.desc b)
      else if e.phase = .waiting then s.handToMemory c e else s
    | _, _ => s)

/-- FILL (R131, R193). -/
def State.dataFill (s : State) (c : CoreId) : State :=
  s.runData c 0x23 (fun e =>
    match e.trefs.getD 1 none with
    | some b =>
      if b.space = 0 then
        let r := s.fillRegion c e b
        r.2.endData c e r.1 (regionUnits e.desc b)
      else if e.phase = .waiting then s.handToMemory c e else s
    | none => s)

/-- MEM_FILL_COPY_DONE: the memory ends the FILL or COPY handed to it (R193). -/
def State.fillCopyDone (s : State) (c : CoreId) : State :=
  if !(s.on (F.CB_STAT_FILLING.core c)) then s
  else
    match (s.core c).window.find? (fun e => decide (e.id = (s.core c).fillFor ∧ e.phase = .running)) with
    | none => s.wr (F.CB_STAT_FILLING.core c) 0
    | some e =>
      let s := s.wr (F.CB_STAT_FILLING.core c) 0
      match e.trefs.getD 1 none with
      | none => s
      | some b =>
        let r := (match e.trefs.getD 0 none with
          | some a => if dOp e.desc = 0x22 then s.copyRegion c e a b else s.fillRegion c e b
          | none => s.fillRegion c e b)
        r.2.endData c e r.1 (regionUnits e.desc b)

/-- ACCUM data a die may have outstanding toward one stack: 32 KiB (R257). -/
def accLimit : Nat := 32768

/-- Is there room for ACCUM data toward the stack of an address; an address without a stack is found out by the sending (R257). -/
def State.accRoom (s : State) (site addr n : Nat) : Bool :=
  match s.xlate site addr with
  | .ok (p, _) => decide (tget 0 s.accOut [site, p] + n ≤ accLimit)
  | .error _ => true

/-- One ACCUM packet to the stack that holds its address; INLINE byte 0 carries the destination format (DESIGN CHOICE, log 15). `ref` is the descriptor's window entry. -/
def State.accSend (s : State) (site slot master addr srcFmt dstFmt : Nat) (rnd : Bool) (data : List Byte) (ref : Nat) : Except Nat Unit × State :=
  let q : Asker := { master := master, site := site, slot := slot, type := 6, op := 2 }
  match s.findStack site addr with
  | .error (code, x) =>
    (.error code, if code = 0x2202 then s.badAddr q addr x else s.noRoute q addr x)
  | .ok (p, off) =>
    let s := { s with accOut := tset 0 s.accOut [site, p] (tget 0 s.accOut [site, p] + data.length) }
    let pkt : Pkt :=
      { type := 6, vc := 3, dest := 4 * p + 2, src := site, sunit := slot, master := master, addr := stkAddr p off,
        len := (data.length + 63) / 64, fmt := srcFmt, rnd := rnd, inl := [BitVec.ofNat 8 dstFmt], data := data }
    (.ok (), s.request pkt 2 ref 0)

/-- Element codes sent as ACCUM contributions to consecutive destination elements, at most 512 destination bytes a packet (R131, R257); the number of packets. -/
def State.accElems (s : State) (c : CoreId) (e : Issued) (addr : Nat) (src dst : TRef) (rnd : Bool) (codes : List Nat) : Except Nat Unit × State :=
  let n := 4096 / fmtBits dst.f
  let parts := pieces n codes.length codes
  loopE parts.length (fun i s =>
    let r := s.accSend c.site c.slot (s.ctxOf c) (addr + 512 * i) src.fmt dst.fmt rnd (bytesOf src.f (parts.getD i [])) e.id
    match r.1 with
    | .error code => (.error code, r.2)
    | .ok _ => (.ok (), r.2.onIssued c e.id (fun x => { x with acks := x.acks + 1 }))) s

/-- The blocks of an ACCUM from the one reached on, while the stacks' limits leave room: the outcome, the block reached, whether it waits (R131, R257). -/
def State.accumRun (s : State) (c : CoreId) (e : Issued) (a b : TRef) : Except Nat Unit × Nat × Bool × State :=
  let (si, sj, di, dj, nr, nc) := dataOrg e
  let tr := e.desc.testBit 259
  (List.range (nr * nc - e.cur)).foldl (fun (acc : Except Nat Unit × Nat × Bool × State) k =>
    match acc with
    | (.error code, cur, st, s) => (.error code, cur, st, s)
    | (.ok _, cur, true, s) => (.ok (), cur, true, s)
    | (.ok _, cur, false, s) =>
      let n := e.cur + k
      let x := n / nc
      let y := n % nc
      let addr := b.block (di + if tr then y else x) (dj + if tr then x else y)
      if !(s.accRoom c.site addr (zOf a.fmt)) then (.ok (), cur, true, s)
      else
        let q := s.readBlock c (whoOf e) a (si + x) (sj + y)
        match q.1 with
        | .error code => (.error code, cur, true, q.2)
        | .ok (bs, _) =>
          let w := State.counted c e (zOf b.fmt / 64) (q.2.accElems c e addr a b (e.desc.testBit 257) (arrangeCodes tr (blockCodes a.f bs)))
          (w.1, cur + 1, false, w.2)) ((.ok (), e.cur, false, s) : Except Nat Unit × Nat × Bool × State)

/-- A descriptor that may stop short of its end: how far it has come, and its end when it has come to the last of `n` (R257). -/
def State.goneTo (s : State) (c : CoreId) (e : Issued) (r : Except Nat Unit) (cur n cnt : Nat) : State :=
  let s := s.onIssued c e.id (fun x => { x with cur := cur, phase := .running })
  match r with
  | .error code => s.badIssued c e.id code
  | .ok _ => if cur ≥ n then s.endData c e (.ok ()) cnt else s

/-- ACCUM (R131, R257). -/
def State.dataAccum (s : State) (c : CoreId) : State :=
  s.runData c 0x24 (fun e =>
    match e.trefs.getD 0 none, e.trefs.getD 1 none with
    | some a, some b =>
      let r := s.accumRun c e a b
      r.2.2.2.goneTo c e r.1 r.2.1 (df e.desc 28 15 0 * df e.desc 30 15 0) (regionUnits e.desc b)
    | _, _ => s)

/-- The index list of a GATHER or SCATTER (R132). -/
def State.readList (s : State) (c : CoreId) (e : Issued) : Except Nat (List Nat) × State :=
  let (a, n) := listRange e.desc
  let r := s.spaceRead c (whoOf e) (df e.desc 54 1 0) a n
  (match r.1 with | .error code => .error code | .ok b => .ok ((pieces 4 b.length b).map leNat), r.2)

/-- Bytes of one element row of one block. -/
def rowLen (t : TRef) : Nat := 4 * fmtBits t.f

/-- The address of an element row within block column j. -/
def rowAddr (t : TRef) (row j : Nat) : Nat := t.block (row / 32) j + row % 32 * rowLen t

/-- One element row copied between tensors over `nc` block columns (R132). -/
def State.copyRow (s : State) (c : CoreId) (e : Issued) (a b : TRef) (ra ja rb jb nc : Nat) : Except Nat Unit × State :=
  loopE nc (fun j s =>
    let r := s.spaceRead c (whoOf e) a.space (rowAddr a ra (ja + j)) (rowLen a)
    match r.1 with
    | .error code => (.error code, r.2)
    | .ok bs => r.2.spaceWrite c (whoOf e) b.space (rowAddr b rb (jb + j)) bs) s

/-- One element row sent as ACCUM contributions (R132). -/
def State.addRow (s : State) (c : CoreId) (e : Issued) (a b : TRef) (ra ja rb jb nc : Nat) : Except Nat Unit × State :=
  loopE nc (fun j s =>
    let r := s.spaceRead c (whoOf e) a.space (rowAddr a ra (ja + j)) (rowLen a)
    match r.1 with
    | .error code => (.error code, r.2)
    | .ok bs => r.2.accElems c e (rowAddr b rb (jb + j)) a b (e.desc.testBit 257) (codesOf a.f bs)) s

/-- The rows of a GATHER or SCATTER from the one reached on; contributions of a SCATTER with ADD wait for room (R132, R257). -/
def State.listRun (s : State) (c : CoreId) (e : Issued) (op : Nat) (a b : TRef) (l : List Nat) : Except Nat Unit × Nat × Bool × State :=
  let (si, sj, di, dj, _, nc) := dataOrg e
  let add := decide (op = 0x27) && e.desc.testBit 260
  (List.range (l.length - e.cur)).foldl (fun (acc : Except Nat Unit × Nat × Bool × State) k =>
    match acc with
    | (.error code, cur, st, s) => (.error code, cur, st, s)
    | (.ok _, cur, true, s) => (.ok (), cur, true, s)
    | (.ok _, cur, false, s) =>
      let n := e.cur + k
      let x := l.getD n 0
      if add && !((List.range nc).all (fun j => s.accRoom c.site (rowAddr b x (dj + j)) (nc * rowLen a))) then (.ok (), cur, true, s)
      else
        let w := State.counted c e ((nc * rowLen b + 63) / 64)
          (if op = 0x26 then s.copyRow c e a b x sj (32 * di + n) dj nc
          else if add then s.addRow c e a b (32 * si + n) sj x dj nc
          else s.copyRow c e a b (32 * si + n) sj x dj nc)
        (w.1, cur + 1, false, w.2)) ((.ok (), e.cur, false, s) : Except Nat Unit × Nat × Bool × State)

/-- GATHER and SCATTER (R132): the list is read and checked before any data moves. -/
def State.dataList (s : State) (c : CoreId) (op : Nat) : State :=
  s.runData c op (fun e =>
    match e.trefs.getD 0 none, e.trefs.getD 1 none with
    | some a, some b =>
      let q := s.readList c e
      match q.1 with
      | .error code => q.2.badIssued c e.id code
      | .ok l =>
        let s := q.2
        let lim := 32 * (if op = 0x26 then a.brows else b.brows)
        if l.any (fun r => decide (r ≥ lim)) then
          (s.reportErr c e.addr (dErr 0x5107 3 48 0 op) op 0).badIssued c e.id 0x5107
        else
          let r := s.listRun c e op a b l
          r.2.2.2.goneTo c e r.1 r.2.1 l.length (l.length * ((df e.desc 30 15 0 * rowLen b + 63) / 64))
    | _, _ => s)

/-- Bytes cut where a packet would cross a 4 KiB boundary (R240). -/
def cut4k (addr : Nat) (bs : List Byte) : List (Nat × List Byte) :=
  let n := 4096 - addr % 4096
  if bs.length ≤ n then [(addr, bs)] else [(addr, bs.take n), (addr + n, bs.drop n)]

/-- The packets of a multicast: addresses and data of the destination's blocks and scales, converted as LOAD converts (R131, R262). -/
def State.mcastData (s : State) (c : CoreId) (e : Issued) (a b : TRef) : Except Nat (List (Nat × List Byte)) × State :=
  let (si, sj, di, dj, nr, nc) := dataOrg e
  let d := e.desc
  let tr := d.testBit 259
  (List.range (nr * nc)).foldl (fun (acc : Except Nat (List (Nat × List Byte)) × State) n =>
    match acc.1 with
    | .error code => (.error code, acc.2)
    | .ok l =>
      let x := n / nc
      let y := n % nc
      let r := acc.2.readBlock c (whoOf e) a (si + x) (sj + y)
      match r.1 with
      | .error code => (.error code, r.2)
      | .ok (bs, sc) =>
        let i := di + if tr then y else x
        let j := dj + if tr then x else y
        let same := decide (a.fmt = b.fmt ∧ a.scaled = b.scaled)
        let vals := blockValues a.f bs sc
        let (sc', bs', g) :=
          if same then
            (if tr ∧ a.scaled then transposeScales sc else sc, if tr then bytesOf a.f (transpose 0 (blockCodes a.f bs)) else bs, (r.2.core c).gen)
          else convertBlock b.f b.scaled (d.testBit 257) (d.testBit 258) (if tr then transpose .nan vals else vals) (r.2.core c).gen
        (.ok (l ++ cut4k (b.block i j) bs' ++ (if b.scaled then cut4k (b.scales i j) sc' else [])), r.2.onCore c (fun k => { k with gen := g }))) (.ok [], s)

/-- The tree ports of a multicast group at a router, in force (R258). -/
def State.mcPorts (s : State) (g n : Nat) : List Nat := ones (s.rd (F.BK_MC_ENTRY_PORTS.at n 0 (s.mcIx n g))) 7

/-- The routers of a multicast group's tree, from its root on (R258). -/
def State.mcTree (s : State) (root g : Nat) : List Nat :=
  (loopN 64 (fun _ (a : List Nat × List Nat) =>
    let next := ((a.1.flatMap (fun n => ((s.mcPorts g n).filter (fun q => decide (q ≠ 4))).filterMap (fun q => portPeer n q))).filter
      (fun n => !(a.2.contains n))).eraseDups
    (next, a.2 ++ next)) ([root], [root])).2

/-- The target dies of a multicast group: the routers of its tree that eject (R258). -/
def State.mcTargets (s : State) (root g : Nat) : List Nat := (s.mcTree root g).filter (fun n => (s.mcPorts g n).contains 4)

/-- The flits that a multicast packet sends at the routers up to its root and at every port of its tree (R258, R275 BK_TX). -/
def State.mcCounted (s : State) (root g : Nat) (p : Pkt) : State :=
  let s := each (s.route 1 p.src root) (fun e s => s.add (F.BK_TX.at e.1 0 e.2.1) (pktFlits p)) s
  each (s.mcTree root g) (fun n s => each (s.mcPorts g n) (fun q s => s.add (F.BK_TX.at n 0 q) (pktFlits p)) s) s

/-- MCAST: every packet of the transfer goes to the group's root; the descriptor waits for an answer of every target die (R258, R262). -/
def State.dataMcast (s : State) (c : CoreId) : State :=
  s.runData c 0x25 (fun e =>
    match e.trefs.getD 0 none, e.trefs.getD 1 none with
    | some a, some b =>
      if e.phase ≠ .waiting then s
      else
        let s := each ((dataTouch e.desc e.ix (some a) none)) (fun u s => s.prefetchRegion c u) s
        let r := s.mcastData c e a b
        match r.1 with
        | .error code => r.2.badIssued c e.id code
        | .ok l =>
          let s := r.2
          let g := df e.desc 38 11 0
          let gi := 4096 * s.activeCopy c.site 2 + g
          let root := s.rd (F.BK_MC_ENTRY_ROOTSITE.at c.site 0 gi)
          if !(s.routed c.site root) then
            (s.noRoute { master := s.ctxOf c, site := c.site, slot := c.slot, type := 7, op := 0x25 } (b.block 0 0) root).badIssued c e.id 0x3103
          else
            let x := (s.core c).mcTransfer
            let tag := tget 0 s.tagNext [c.site, c.slot]
            let pkt (p : Nat × List Byte) : Pkt := sealPkt
              { type := 7, vc := 2, dest := root, src := c.site, sunit := c.slot, master := s.ctxOf c, addr := p.1, len := (p.2.length + 63) / 64,
                space := b.space, group := g, xfer := x, count := l.length % 65536, tag := tag, fence := (s.core c).fence, data := p.2 }
            let targets := s.mcTargets root g
            let s := each l (fun p s => each targets (fun t s => s.send (.mcast t (pkt p))) ((s.eaSpend c.site root 2 (pktFlits (pkt p))).mcCounted root g (pkt p))) s
            let s := { s with tagNext := tset 0 s.tagNext [c.site, c.slot] ((tag + 1) % 65536),
                              outst := s.outst ++ [({ site := c.site, unit := c.slot, pkt := pkt (l.getLastD (0, [])), tries := 0, why := 3, ref := e.id } : Req)] }
            (s.onCore c (fun k => { k with mcTransfer := (x + 1) % 65536 })).onIssued c e.id (fun y =>
              { y with phase := .done, cnt0 := regionUnits e.desc b % 2 ^ 32, acks := s.rd (F.BK_MC_NDIES_NDIES.at c.site 0 gi) })
    | _, _ => s)

end Sys2Proof.Machine
end

