-- ==== Sys2Proof/Machine/Matrix.lean ====
section
/-! DEFINITION. The matrix engine (R77 to R107): tile groups, tile-segments and their algebraic check, folds, write-back through the freeze mask, and parity failures of the operand buffers and accumulators (R195). -/

namespace Sys2Proof.Machine

/-- The core-local address of accumulator element k = 64i + j of tile t (R178, R179). -/
def accAddr (t k : Nat) : Nat := 0x460000 + 16384 * t + 4 * k

/-- An accumulator element. -/
def State.acc (s : State) (c : CoreId) (t k : Nat) : Nat := s.eng c (accAddr t k)

/-- An accumulator element written. -/
def State.setAcc (s : State) (c : CoreId) (t k v : Nat) : State := s.engSet c (accAddr t k) v

/-- VALID of a tile (R80). -/
def State.tileValid (s : State) (c : CoreId) (t : Nat) : Bool := (s.rd (F.MX_STAT_TILE_VALID.core c)).testBit t

/-- VALID of a tile set or cleared. -/
def State.setTileValid (s : State) (c : CoreId) (t : Nat) (v : Bool) : State :=
  let m := s.rd (F.MX_STAT_TILE_VALID.core c)
  s.wr (F.MX_STAT_TILE_VALID.core c) (if v then setBit m t else clrBit m t)

/-- The matrix engine's record replaced. -/
def State.setMx (s : State) (c : CoreId) (m : Mx) : State := s.onCore c (fun k => { k with mx := m })

/-- Origins of MM and MM_ACC: DI, DJ, AI, BN, KA, KB (R127, R128). -/
def mmOrg (d : Nat) (ix : List Nat) : Nat × Nat × Nat × Nat × Nat × Nat :=
  (origin ix (df d 24 15 0) (df d 40 2 0), origin ix (df d 26 15 0) (df d 40 5 3), origin ix (df d 28 15 0) (df d 40 8 6),
   origin ix (df d 30 15 0) (df d 40 11 9), origin ix (df d 32 15 0) (df d 40 14 12), origin ix (df d 34 15 0) (df d 40 17 15))

/-- Origins of PBP: YI, YJ, KO (R129). -/
def pbpOrg (d : Nat) (ix : List Nat) : Nat × Nat × Nat :=
  (origin ix (df d 30 15 0) (df d 40 2 0), origin ix (df d 32 15 0) (df d 40 5 3), origin ix (df d 34 15 0) (df d 40 8 6))

/-- The tile-segments of a matrix descriptor, in the order of R86 and R94. -/
def segsOf (d : Nat) : List Seg :=
  if dOp d = 0x42 then
    (List.range (df d 36 7 0)).flatMap (fun q =>
      [(⟨q, 1, q, 0, 2 * q, 2, false, 0, 0, [], []⟩ : Seg), ⟨8 + q, 2, q, 0, 2 * q, 2, false, 0, 0, [], []⟩])
  else
    let tm := tileCode (df d 38 1 0)
    let tn := tileCode (df d 38 3 2)
    let t0 := df d 38 7 4
    let kn := df d 36 15 0
    (List.range ((kn + 7) / 8)).flatMap (fun q => (List.range tm).flatMap (fun a => (List.range tn).map (fun b =>
      (⟨t0 + a * tn + b, 0, a, b, 8 * q, min 8 (kn - 8 * q), false, 0, 0, [], []⟩ : Seg))))

/-- One tile-segment of every tile of the descriptor. -/
def tilesOf (d : Nat) : List Seg := if dOp d = 0x42 then segsOf d else (segsOf d).filter (fun g => g.koff == 0)

/-- ACC_IN of a tile (R87). -/
def accIn (d kind : Nat) : Nat := if kind = 0 then mmIn d else pbpIn d kind

/-- ACC_OUT of a tile (R88). -/
def accOutMode (d kind : Nat) : Nat := if kind = 0 then mmOut d else pbpOut d kind

/-- Tensor position of a tile's destination (R127, R129). -/
def destPos (kind : Nat) : Nat := match kind with | 0 => 2 | 1 => 3 | _ => 4

/-- Tensor position of a tile's LOAD source. -/
def loadPos (kind : Nat) : Nat := match kind with | 0 => 3 | 1 => 5 | _ => 6

/-- Is a stored operand presented transposed (R83, R93)? -/
def presentedTr (d pos : Nat) : Bool :=
  if dOp d = 0x42 then (if pos = 1 then !(d.testBit 296) else if pos = 2 then !(d.testBit 297) else false)
  else if pos = 0 then d.testBit 312 else d.testBit 313

/-- Block rows and block columns of a tile group, or of the dY tile, that lie inside the grid (R85). -/
def liveRC (d : Nat) (ix : List Nat) (trefs : List (Option TRef)) : Nat × Nat :=
  if dOp d = 0x42 then
    let (yi, yj, _) := pbpOrg d ix
    match trefs.getD 0 none with
    | some t => (liveCount 2 yi t.brows, liveCount 2 yj t.bcols)
    | none => (2, 2)
  else
    let (di, dj, _) := mmOrg d ix
    let tm := 2 * tileCode (df d 38 1 0)
    let tn := 2 * tileCode (df d 38 3 2)
    match trefs.getD 2 none with
    | some t => (liveCount tm di t.brows, liveCount tn dj t.bcols)
    | none => (tm, tn)

/-- A presented block's place: tensor position and stored coordinates. -/
def stored (d pos i j : Nat) : Nat × Nat × Nat := if presentedTr d pos then (pos, j, i) else (pos, i, j)

/-- The A block (ib, kb) of a tile-segment (R85, R94); none is a block of zeros. -/
def aSource (m : Mx) (g : Seg) (ib kb : Nat) : Option (Nat × Nat × Nat) :=
  let (mr, mc) := liveRC m.desc m.ix m.trefs
  let (yi, yj, ko) := pbpOrg m.desc m.ix
  match g.kind with
  | 0 =>
    let (_, _, ai, _, ka, _) := mmOrg m.desc m.ix
    if 2 * g.tm + ib < mr then some (stored m.desc 0 (ai + 2 * g.tm + ib) (ka + g.koff + kb)) else none
  | 1 => if ib < mr ∧ kb < mc then some (stored m.desc 0 (yi + ib) (yj + kb)) else none
  | _ => if kb < mr then some (stored m.desc 2 (ko + g.koff + ib) (yi + kb)) else none

/-- The B block (kb, jb) of a tile-segment. -/
def bSource (m : Mx) (g : Seg) (kb jb : Nat) : Option (Nat × Nat × Nat) :=
  let (mr, mc) := liveRC m.desc m.ix m.trefs
  let (yi, yj, ko) := pbpOrg m.desc m.ix
  match g.kind with
  | 0 =>
    let (_, _, _, bn, _, kb0) := mmOrg m.desc m.ix
    if 2 * g.tn + jb < mc then some (stored m.desc 1 (kb0 + g.koff + kb) (bn + 2 * g.tn + jb)) else none
  | 1 => if kb < mc then some (stored m.desc 1 (yj + kb) (ko + g.koff + jb)) else none
  | _ => if kb < mr ∧ jb < mc then some (stored m.desc 0 (yi + kb) (yj + jb)) else none

/-- The destination block (ib, jb) of a tile, when it lies inside the grid (R85, R95). -/
def destBlock (d : Nat) (ix : List Nat) (trefs : List (Option TRef)) (g : Seg) (ib jb : Nat) : Option (Nat × Nat) :=
  let (mr, mc) := liveRC d ix trefs
  let (yi, yj, ko) := pbpOrg d ix
  match g.kind with
  | 0 =>
    let (di, dj, _) := mmOrg d ix
    if 2 * g.tm + ib < mr ∧ 2 * g.tn + jb < mc then some (di + 2 * g.tm + ib, dj + 2 * g.tn + jb) else none
  | 1 => if ib < mr then some (yi + ib, ko + g.koff + jb) else none
  | _ => if jb < mc then some (ko + g.koff + ib, yj + jb) else none

/-- The four blocks of a tile in write-back order (R89). -/
def tileBlocks : List (Nat × Nat) := [(0, 0), (0, 1), (1, 0), (1, 1)]

/-- The matrix engine stops working on its descriptor. -/
def State.mxIdle (s : State) (c : CoreId) : State :=
  ((s.setMx c mxReset).wr (F.MX_STAT_ACTIVE.core c) 0).wr (F.MX_STAT_RERUN.core c) 0

/-- A matrix descriptor ends in an error. -/
def State.mxFail (s : State) (c : CoreId) (code : Nat) : State := (s.mxIdle c).badIssued c (s.core c).mx.id code

/-- Who the matrix engine reaches memory for. -/
def mxWho (m : Mx) : Who := { op := dOp m.desc, daddr := m.addr, req := 2 }

/-- One tile's starting values: +0, or the LOAD source converted to binary32 (R87). R80 and R91 do not say when VALID of a tile that an earlier descriptor held changes; here it is 0 from the descriptor's start to its first fold (DESIGN CHOICE, log 63). -/
def State.initTile (s : State) (c : CoreId) (e : Issued) (g : Seg) : Except Nat Unit × State :=
  if accIn e.desc g.kind = 1 then (.ok (), s)
  else
    let s := s.setTileValid c g.tile false
    let src := if accIn e.desc g.kind = 2 then e.trefs.getD (loadPos g.kind) none else none
    loopE 4 (fun n s =>
      let (ib, jb) := tileBlocks.getD n (0, 0)
      let put (l : List Nat) (s : State) : State :=
        loopN 1024 (fun k s => s.setAcc c g.tile (64 * (32 * ib + k / 32) + 32 * jb + k % 32) (l.getD k 0)) s
      match src, destBlock e.desc e.ix e.trefs g ib jb with
      | some t, some (i, j) =>
        let r := s.readBlock c (whoOf e) t i j
        (match r.1 with
        | .error code => (.error code, r.2)
        | .ok (bs, sc) => (.ok (), put ((blockValues t.f bs sc).map toB32) r.2))
      | _, _ => (.ok (), put [] s)) s

/-- The freeze-mask bit of block (i, j): byte address and bit (R97). -/
def freezeBit (t : TRef) (i j : Nat) : Nat × Nat := (t.freeze + (i * t.bcols + j) / 8, (i * t.bcols + j) % 8)

/-- The blocks a descriptor may write that its masks freeze, each mask byte read once (R97, R98). -/
def State.readFreeze (s : State) (c : CoreId) (e : Issued) : Except Nat (List (Nat × Nat × Nat)) × State :=
  let blocks : List (Nat × TRef × Nat × Nat) := (tilesOf e.desc).flatMap (fun g =>
    if accOutMode e.desc g.kind = 0 then []
    else match e.trefs.getD (destPos g.kind) none with
      | none => []
      | some t =>
        if t.freeze = 0 then []
        else tileBlocks.filterMap (fun (ib, jb) => (destBlock e.desc e.ix e.trefs g ib jb).map (fun (i, j) => (destPos g.kind, t, i, j))))
  let addrs := (blocks.map (fun b => (b.2.1.space, (freezeBit b.2.1 b.2.2.1 b.2.2.2).1))).eraseDups
  let r := addrs.foldl (fun (acc : Except Nat (List ((Nat × Nat) × Nat)) × State) a =>
    match acc.1 with
    | .error code => (.error code, acc.2)
    | .ok l =>
      let q := acc.2.spaceRead c (whoOf e) a.1 a.2 1
      (match q.1 with | .error code => .error code | .ok b => .ok ((a, leNat b) :: l), q.2)) (.ok [], s)
  (match r.1 with
   | .error code => .error code
   | .ok l => .ok (blocks.filterMap (fun b =>
      let (a, n) := freezeBit b.2.1 b.2.2.1 b.2.2.2
      match l.find? (fun x => x.1 == (b.2.1.space, a)) with
      | some x => if x.2.testBit n then some (b.1, b.2.2.1, b.2.2.2) else none
      | none => none)), r.2)

/-- Does a matrix descriptor wait for a fill of local memory that its operands, sources or destinations lie in (R192). -/
def State.mxBusy (s : State) (c : CoreId) (e : Issued) : Bool :=
  e.trefs.any (fun t => match t with
    | none => false
    | some t => s.localBusy c t.space t.spans)

/-- The operand regions of a matrix descriptor, in the order of their tensor positions, for the stream programs of R216. -/
def mxRegions (d : Nat) (ix : List Nat) (trefs : List (Option TRef)) : List Touch :=
  let t (p : Nat) : Option TRef := trefs.getD p none
  match t 0, t 1 with
  | some a, some b =>
    if dOp d = 0x42 then
      (match t 2 with
       | some x => (pbpChecks d ix a b x (t 3) (t 4) (t 5) (t 6)).2.take 3
       | none => [])
    else (mmChecks d ix a b (t 2) (t 3)).2.take 2
  | _, _ => []

/-- The operand regions of an issued matrix descriptor. -/
def mxTouch (e : Issued) : List Touch := mxRegions e.desc e.ix e.trefs

/-- Do the stored block rows of an operand run along K (R83, R93)? -/
def alongK (d pos : Nat) : Bool :=
  if dOp d = 0x42 then (if pos = 1 then presentedTr d 1 else decide (pos = 2) && !(presentedTr d 2))
  else if pos = 0 then presentedTr d 0 else !(presentedTr d 1)

/-- As a tile-segment's reads move along K, the stream programs of the rows that come within 8 of them (R216). -/
def State.prefetchOn (s : State) (c : CoreId) (m : Mx) (g : Seg) : State :=
  let first := !g.rerun && g.refetched.isEmpty && (g.kind ≠ 0 || decide (g.tm = 0 ∧ g.tn = 0))
  let step := if g.kind = 0 then 8 else 2
  let mine (pos : Nat) : Bool := first && alongK m.desc pos && (decide (g.kind = 0) || decide (g.kind = pos))
  each ((mxRegions m.desc m.ix m.trefs).zipIdx.filter (fun e => mine e.2)) (fun e s => s.prefetchRows c e.1 (g.koff + 8) (g.koff + 8 + step)) s

/-- The accumulator tiles of a descriptor as it begins, in order (R87, R88). -/
def State.initTiles (s : State) (c : CoreId) (e : Issued) : Except Nat Unit × State :=
  let tiles := tilesOf e.desc
  loopE tiles.length (fun n s => match tiles[n]? with | some g => s.initTile c e g | none => (.ok (), s)) s

/-- Start a matrix descriptor: the KEEP check, which names the first tile in tile order whose VALID bit is 0 (DESIGN CHOICE, log 65), MX_CFG latched, mask bits and starting values read (R87, R98, R104, R107). -/
def State.startMatrix (s : State) (c : CoreId) (op : Nat) : State :=
  if (s.core c).mx.active then s
  else
    match runnable (s.core c) op with
    | none => s
    | some e =>
      if e.phase ≠ .waiting ∨ s.mxBusy c e then s
      else
        match (tilesOf e.desc).find? (fun g => decide (accIn e.desc g.kind = 1) && !(s.tileValid c g.tile)) with
        | some g =>
          (s.reportErr c e.addr { code := 0x1106, info0 := g.tile <<< 8 + op <<< 24, form := 0 } op 2).badIssued c e.id 0x1106
        | none =>
          let f := (each (mxTouch e) (fun u s => s.prefetchStart c u) s).readFreeze c e
          match f.1 with
          | .error code => f.2.badIssued c e.id code
          | .ok frozen =>
            let r := f.2.initTiles c e
            match r.1 with
            | .error code => r.2.badIssued c e.id code
            | .ok _ =>
              let s := r.2
              let s := (s.onIssued c e.id (fun x => { x with phase := .running })).onCore c (fun k => { k with bufGen := 1 })
              (s.setMx c { mxReset with
                active := true, id := e.id, addr := e.addr, desc := e.desc, ix := e.ix, trefs := e.trefs, tol := s.rd (F.MX_CFG_TOL_EXP.core c),
                check := s.on (F.MX_CFG_CHECK_EN.core c), segs := segsOf e.desc, frozen := frozen }).wr (F.MX_STAT_ACTIVE.core c) 1

/-- The tensor a block of the operand buffers comes from. -/
def Mx.tref (m : Mx) (k : Key) : Option TRef := m.trefs.getD (k.getD 1 0) none

/-- The half-slots of 512 bytes that a block takes: one for an E2M1 block, two for an 8-bit block, four for a 16-bit block (R82). -/
def halfSlots (t : Option TRef) : Nat := match t with | some t => blockBytes t.f / 512 | none => 0

/-- The core-local address of half-slot h of operand buffer b (R178, R179). -/
def halfAddr (b h : Nat) : Nat := 0x400000 + 0x30000 * b + 512 * h

/-- The core-local address of the scale bytes of half-slot h of operand buffer b (R179). -/
def halfScales (b h : Nat) : Nat := 0x400000 + 0x30000 * b + 0x2E800 + 16 * h

/-- The blocks a tile-segment reads: those of A, then those of B, by buffer, position and stored coordinates. -/
def segReads (m : Mx) (g : Seg) : List Key :=
  let nb := if g.kind = 0 then g.kn else 2
  let key (b : Nat) (k : Nat × Nat × Nat) : Key := [b, k.1, k.2.1, k.2.2]
  ((List.range 2).flatMap (fun ib => (List.range nb).filterMap (fun kb => (aSource m g ib kb).map (key 0))) ++
    (List.range nb).flatMap (fun kb => (List.range 2).filterMap (fun jb => (bSource m g kb jb).map (key 1)))).eraseDups

/-- The blocks that the buffers hold for a tile-segment: those it reads, a PBP's dY blocks in both buffers (R95). -/
def segKeys (m : Mx) (g : Seg) : List Key :=
  let l := segReads m g
  if dOp m.desc = 0x42 then (l ++ (l.filter (fun k => k.getD 1 0 == 0)).flatMap (fun k => [0 :: k.tail, 1 :: k.tail])).eraseDups else l

/-- The half-slots at which a block of `n` half-slots fits into buffer b beside the blocks held there (R82). -/
def freePlaces (m : Mx) (b n : Nat) : List Nat :=
  (List.range 372).filter (fun h => decide ((n = 1 ∨ h % 2 = 0) ∧ h + n ≤ 372) &&
    !(m.blocks.any (fun e => e.1.headD 0 == b && decide (e.2 - 1 < h + n ∧ h < e.2 - 1 + halfSlots (m.tref e.1)))))

/-- A block's bytes and scale bytes put into its place in its buffer. -/
def State.putBlock (s : State) (c : CoreId) (b h : Nat) (bs sc : List Byte) : State :=
  (s.engPut c (halfAddr b h) bs).engPut c (halfScales b h) sc

/-- A block of an operand fetched from its source into half-slot h of buffer b (R86, R195). -/
def State.fetchBlock (s : State) (c : CoreId) (m : Mx) (k : Key) (h : Nat) : Except Nat Unit × State :=
  match m.tref k with
  | none => (.ok (), s)
  | some t =>
    let r := s.readBlock c (mxWho m) t (k.getD 2 0) (k.getD 3 0)
    match r.1 with
    | .error code => (.error code, r.2)
    | .ok (bs, sc) => (.ok (), r.2.putBlock c (k.headD 0) h bs sc)

/-- A block placed in its buffer: read from its source, or taken from the other buffer where that holds it, so that a PBP reads its dY tile once (R95). Where the sequencer places it is a free choice among the places that are free (R82, log 12). -/
def State.placeBlock (s : State) (c : CoreId) (m : Mx) (k : Key) : Except Nat Unit × Mx × State :=
  let b := k.headD 0
  let l := freePlaces m b (halfSlots (m.tref k))
  let f := s.fresh
  let h := l.getD (f.1 % l.length) 0
  let m' := { m with blocks := tset 0 m.blocks k (h + 1) }
  match tget 0 m.blocks ((1 - b) :: k.tail), m.tref k with
  | o + 1, some t =>
    (.ok (), m', f.2.putBlock c b h (f.2.engBytes c (halfAddr (1 - b) o) (blockBytes t.f)) (if t.scaled then f.2.engBytes c (halfScales (1 - b) o) 16 else []))
  | _, _ =>
    let r := f.2.fetchBlock c m k h
    (r.1, m', r.2)

/-- The operand blocks of a tile-segment that its buffers do not hold yet are placed, in A, B order; blocks that no tile-segment still to be run reads make room (R82, R86, R95). -/
def State.loadOperands (s : State) (c : CoreId) (m : Mx) (g : Seg) : Except Nat Unit × Mx × State :=
  let m := { m with blocks := m.blocks.filter (fun e => m.segs.any (fun x => (segKeys m x).contains e.1)) }
  (segKeys m g).foldl (fun (acc : Except Nat Unit × Mx × State) k =>
    match acc.1 with
    | .error code => (.error code, acc.2.1, acc.2.2)
    | .ok _ => if acc.2.1.blocks.any (fun e => e.1 == k) then acc else acc.2.2.placeBlock c acc.2.1 k) (.ok (), m, s)

/-- +0. -/
def zeroNum : Num := .fin false 0 0

/-- The presented values of a block of buffer b; none is zeros (R84, R85). -/
def State.presented (s : State) (c : CoreId) (m : Mx) (b : Nat) (k : Option (Nat × Nat × Nat)) : List Num :=
  match k with
  | none => List.replicate 1024 zeroNum
  | some (p, i, j) =>
    match m.trefs.getD p none with
    | none => List.replicate 1024 zeroNum
    | some t =>
      let h := tget 0 m.blocks [b, p, i, j] - 1
      let v := blockValues t.f (s.engBytes c (halfAddr b h) (blockBytes t.f)) (if t.scaled then s.engBytes c (halfScales b h) 16 else [])
      if presentedTr m.desc p then transpose zeroNum v else v

/-- What the array and the check cells hold when a tile-segment drains (R77, R99): 4,096 partials, and P, Q and S of the 64 rows. -/
structure Drained where
  cells : List Nat
  p : List Nat
  q : List Nat
  sums : List Nat
  deriving DecidableEq, Repr

/-- A cell's sum: it starts at +0 and adds its terms in an open order (R72, R77). -/
def cellSum (nonce : Nat) (terms : List Num) : Nat := sumOpen nonce (zeroNum :: terms)

/-- A value rounded to binary32. -/
def rounded (x : Num) : Num := ofB32 (toB32 x)

/-- A check cell's sum: from +0, term by term, each sum binary32 (R99). -/
def stepSum (terms : List Num) : Nat := toB32 (terms.foldl (fun a t => rounded (addNum a t)) zeroNum)

/-- Flip bits of cells: 64i + j a partial, 4096 + i a P, 4160 + i a Q. -/
def flipped (flips : List (Nat × Nat)) (base : Nat) (l : List Nat) : List Nat :=
  l.mapIdx (fun k v => flips.foldl (fun v f => if f.1 = base + k then v ^^^ (1 <<< (f.2 % 32)) else v) v)

/-- A tile-segment drains; `flips` are the faults of this run (R77, R99). -/
def State.drain (s : State) (c : CoreId) (m : Mx) (g : Seg) (nonce : Nat) (flips : List (Nat × Nat)) : Drained :=
  let nb := if g.kind = 0 then g.kn else 2
  let ab := (List.range 2).map (fun ib => (List.range nb).map (fun kb => s.presented c m 0 (aSource m g ib kb)))
  let bb := (List.range nb).map (fun kb => (List.range 2).map (fun jb => s.presented c m 1 (bSource m g kb jb)))
  let a (i k : Nat) : Num := (((ab.getD (i / 32) []).getD (k / 32) []).getD (32 * (i % 32) + k % 32) zeroNum)
  let b (k j : Nat) : Num := (((bb.getD (k / 32) []).getD (j / 32) []).getD (32 * (k % 32) + j % 32) zeroNum)
  let ks := List.range (32 * nb)
  let cells := flipped flips 0 ((List.range 4096).map (fun n => cellSum (nonce + n) (ks.map (fun k => mulNum (a (n / 64) k) (b k (n % 64))))))
  let bc := ks.map (fun k => ofB32 (sumBin32 (nonce + 4096 + k) ((List.range 64).map (b k))))
  let ba := ks.map (fun k => ofB32 (sumBin32 (nonce + 4352 + k) ((List.range 64).map (fun j => absNum (b k j)))))
  { cells := cells,
    p := flipped flips 4096 ((List.range 64).map (fun i => stepSum (ks.map (fun k => rounded (mulNum (a i k) (bc.getD k zeroNum)))))),
    q := flipped flips 4160 ((List.range 64).map (fun i => stepSum (ks.map (fun k => rounded (mulNum (absNum (a i k)) (ba.getD k zeroNum)))))),
    sums := (List.range 64).map (fun i => sumBin32 (nonce + 4736 + i) ((List.range 64).map (fun j => ofB32 (cells.getD (64 * i + j) 0)))) }

/-- The free words a drain takes. -/
def drainNonces : Nat := 4800

/-- R100 for one row: none exempt, else whether it mismatches. -/
def rowCheck (tol sum p q : Nat) : Option Bool :=
  let qv := ofB32 q
  if !(isFin qv) then none
  else if !(isFin (ofB32 sum)) || !(isFin (ofB32 p)) then some true
  else some (ltNum (addNum (scaleNum qv (-(tol : Int))) (.fin false 1 (-126))) (absNum (addNum (ofB32 sum) (negNum (ofB32 p)))))

/-- The outcomes of the 64 rows. -/
def Drained.rows (d : Drained) (tol : Nat) : List (Option Bool) :=
  (List.range 64).map (fun i => rowCheck tol (d.sums.getD i 0) (d.p.getD i 0) (d.q.getD i 0))

/-- The rows that mismatch. -/
def mismatches (l : List (Option Bool)) : List Nat := (List.range 64).filter (fun i => l.getD i none == some true)

/-- Twice the cycles a k-step takes (R78). -/
def rate2 (a b : Fmt) : Nat :=
  if sixteen a || sixteen b then 4 else if a = .e2m1 ∧ b = .e2m1 then 1 else 2

/-- The formats of a tile-segment's A and B operands. -/
def segFmts (m : Mx) (g : Seg) : Fmt × Fmt :=
  let f (p : Nat) : Fmt := match m.trefs.getD p none with | some t => t.f | none => .b32
  match g.kind with
  | 0 => (f 0, f 1)
  | 1 => (f 0, f 1)
  | _ => (f 2, f 0)

/-- One fold: binary32 addition of the partial to every element, VALID set (R80, R86). -/
def State.fold (s : State) (c : CoreId) (t : Nat) (cells : List Nat) : State :=
  (loopN 4096 (fun k s => s.setAcc c t k (toB32 (addNum (ofB32 (s.acc c t k)) (ofB32 (cells.getD k 0))))) s).setTileValid c t true

/-- Is a rerun waiting. -/
def rerunPending (l : List Seg) : Bool := l.any (fun g => g.rerun || !g.refetched.isEmpty)

/-- The engine after a tile-segment or a conversion: RERUN set as it stands, the descriptor's work done when nothing is left (R88, R123). -/
def State.mxGoOn (s : State) (c : CoreId) (m : Mx) : State :=
  if m.segs.isEmpty ∧ m.convs.isEmpty then
    (s.mxIdle c).onIssued c m.id (fun e => { e with phase := .done })
  else (s.setMx c m).wr (F.MX_STAT_RERUN.core c) (bnat (rerunPending m.segs))

/-- The slot of an operand-buffer address: its buffer and element slot (R179). -/
def bufSlot (a : Nat) : Nat × Nat :=
  let o := (a - 0x400000) % 0x30000
  ((a - 0x400000) / 0x30000, if o < 0x2E800 then o / 1024 else (o - 0x2E800) / 32)

/-- The block of a tile-segment's reads that an operand-buffer address lies in; none where the tile-segment reads nothing there. -/
def blockAt (m : Mx) (g : Seg) (a : Nat) : Option Key :=
  (segReads m g).find? (fun k =>
    let b := k.headD 0
    let h := tget 0 m.blocks k - 1
    match m.tref k with
    | none => false
    | some t => decide (halfAddr b h ≤ a ∧ a < halfAddr b h + blockBytes t.f) || (t.scaled && decide (halfScales b h ≤ a ∧ a < halfScales b h + 16)))

/-- A word of the accumulators has failed: 0x2106, every VALID bit clears, the descriptor fails (R195). -/
def State.accLost (s : State) (c : CoreId) (a : Nat) : State :=
  let m := (s.core c).mx
  let s := ((s.engFail c a).bump (F.CB_LOST_COUNT.core c)).parityRecord c 0x2106 1 4 a false (mxWho m)
  (s.wr (F.MX_STAT_TILE_VALID.core c) 0).mxFail c 0x2106

/-- A tile-segment is put back to run again after the one now on the array (R101). -/
def requeue (g : Seg) (rest : List Seg) : List Seg := rest.take 1 ++ g :: rest.drop 1

/-- A tile-segment has passed: its records of recovery, its fold, and its tile's conversion when it was the tile's last (R88, R101, R195). -/
def State.segPass (s : State) (c : CoreId) (m : Mx) (g : Seg) (rest : List Seg) (cells : List Nat) : State :=
  let op := dOp m.desc
  let s := if g.rerun then
      ((s.bump (F.MX_RECOMP_COUNT.core c)).reportErr c m.addr
        { code := 0x1102, info0 := g.row + g.tile <<< 8 + g.rows <<< 16 + op <<< 24, form := 0 } op 2 g.koff 0).onIssued c m.id
          (fun e => { e with cnt1 := e.cnt1 + 1 })
    else s
  let s := each g.refetched (fun a s =>
    (s.bump (F.CB_RECOV_COUNT.core c)).parityRecord c 0x2104 0 ((engStore a).getD 2) a false (mxWho m)) s
  let s := s.fold c g.tile cells
  let lastFold := !(rest.any (fun x => x.tile == g.tile))
  let convs := if lastFold && decide (accOutMode m.desc g.kind ≠ 0) then m.convs ++ [g] else m.convs
  s.mxGoOn c { m with segs := rest, convs := convs }

/-- A parity failure of a run of a tile-segment (R195): a word of the accumulators is lost; a block of an operand buffer is fetched again into its place and the tile-segment runs again, but a second failure at its slot fails the descriptor; none where the run reads no such word. -/
def State.segParity (s : State) (c : CoreId) (m : Mx) (g : Seg) (rest : List Seg) (parity : Option Nat) : Option State :=
  parity.bind (fun a =>
    match engStore a with
    | some 4 => some (s.accLost c a)
    | some st =>
      (blockAt m g a).map (fun k =>
        if g.refetched.any (fun b => bufSlot b == bufSlot a) then
          (((s.engFail c a).bump (F.CB_LOST_COUNT.core c)).parityRecord c 0x2105 2 st a false (mxWho m)).mxFail c 0x2105
        else
          let r := s.fetchBlock c m k (tget 0 m.blocks k - 1)
          match r.1 with
          | .error code => r.2.mxFail c code
          | .ok _ => r.2.mxGoOn c { m with segs := requeue { g with refetched := g.refetched ++ [a] } rest })
    | none => none)

/-- The stored blocks that a tile-segment still has to read. -/
def segFetches (m : Mx) (g : Seg) : List (TRef × Nat × Nat) :=
  ((segKeys m g).filter (fun k => !(m.blocks.any (fun e => e.1 == k)))).filterMap (fun k => (m.tref k).map (fun t => (t, k.getD 2 0, k.getD 3 0)))

/-- TILE_SEGMENT_END (R86, R99 to R101, R195, R206): the tile-segment on the array drains, with the faults and the parity failure of this run. -/
def State.segEnd (s : State) (c : CoreId) (flips : List (Nat × Nat)) (parity : Option Nat) : State :=
  let m := (s.core c).mx
  match m.segs with
  | [] => s
  | g :: rest =>
   if s.blocksBusy c (segFetches m g) then s
   else
    let r := s.loadOperands c m g
    match r.1 with
    | .error code => r.2.2.mxFail c code
    | .ok _ =>
      let m := r.2.1
      let s := r.2.2.prefetchOn c m g
      let f := segFmts m g
      let op := dOp m.desc
      let s := s.add (F.MX_BUSY.core c) (32 * (if g.kind = 0 then g.kn else 2) * rate2 f.1 f.2 / 2)
      match s.segParity c m g rest parity with
      | some s => s
      | none =>
        let d := s.drain c m g s.nonce flips
        let s := { s with nonce := s.nonce + drainNonces }
        if !m.check then s.segPass c m g rest d.cells
        else
          let rows := d.rows m.tol
          let free := (List.range 64).filter (fun i => (rows.getD i none).isNone && !(g.exempt.contains i))
          let s := s.bump (F.MX_EXEMPT_COUNT.core c) free.length
          match mismatches rows with
          | [] => s.segPass c m g rest d.cells
          | i :: is =>
            if g.rerun then
              let s := s.reportErr c m.addr
                { code := 0x1101, info0 := i + g.tile <<< 8 + (is.length + 1) <<< 16 + op <<< 24, form := 0 } op 2 g.koff
              (s.wr (F.MX_STAT_TILE_VALID.core c) 0).mxFail c 0x1101
            else s.mxGoOn c { m with segs := requeue { g with rerun := true, row := i, rows := is.length + 1, exempt := free } rest }

/-- The rounding mode and OVF_NAN of a matrix descriptor (R127, R129). -/
def mxRound (d : Nat) : Bool × Bool := if dOp d = 0x42 then (d.testBit 308, d.testBit 309) else (d.testBit 318, d.testBit 319)

/-- One block of a tile as values. -/
def State.tileVals (s : State) (c : CoreId) (t ib jb : Nat) : List Num :=
  (List.range 1024).map (fun k => ofB32 (s.acc c t (64 * (32 * ib + k / 32) + 32 * jb + k % 32)))

/-- One block of a tile written back: converted, then stored, sent as ACCUM, or dropped by the freeze mask (R88, R89, R98). -/
def State.writeBack (s : State) (c : CoreId) (m : Mx) (g : Seg) (t : TRef) (ib jb i j : Nat) : Except Nat Unit × State :=
  let vals := s.tileVals c g.tile ib jb
  let (rnd, ovf) := mxRound m.desc
  let frozen := m.frozen.contains (destPos g.kind, i, j)
  let drop (s : State) : State :=
    (s.add (F.MX_FROZEN.core c) 1).onIssued c m.id (fun e => { e with cnt0 := e.cnt0 + if g.kind = 2 then 65536 else 1 })
  if accOutMode m.desc g.kind = 2 then
    if frozen then (.ok (), drop s)
    else
      match (s.core c).window.find? (fun e => e.id == m.id) with
      | none => (.ok (), s)
      | some e => s.accElems c e (t.block i j) { t with fmt := 0 } t rnd (vals.map toB32)
  else
    let (sc, bs, gen) := convertBlock t.f t.scaled rnd ovf vals (s.core c).gen
    let s := s.onCore c (fun k => { k with gen := gen })
    if frozen then (.ok (), drop s) else s.writeBlock c (mxWho m) t i j bs sc

/-- TILE_CONVERT_DONE (R88, R89, R98): the oldest tile waiting for write-back is written; an ACCUM tile waits for room at its stacks (R257). -/
def State.convertEnd (s : State) (c : CoreId) (parity : Option Nat) : State :=
  let m := (s.core c).mx
  match m.convs with
  | [] => s
  | g :: rest =>
    match parity.bind (fun a => if engStore a = some 4 then some a else none) with
    | some a => s.accLost c a
    | none =>
      match m.trefs.getD (destPos g.kind) none with
      | none => s.mxGoOn c { m with convs := rest }
      | some t =>
        let blocks := tileBlocks.filterMap (fun (ib, jb) => (destBlock m.desc m.ix m.trefs g ib jb).map (fun (i, j) => (ib, jb, i, j)))
        if accOutMode m.desc g.kind = 2 ∧ blocks.any (fun (_, _, i, j) => !(s.accRoom c.site (t.block i j) 16384)) then s
        else if accOutMode m.desc g.kind ≠ 2 ∧ (s.blocksBusy c (blocks.map (fun (_, _, i, j) => (t, i, j))) ∨
            s.copyHeld c (blocks.map (fun (_, _, i, j) => ⟨t, i, j, 1, 1⟩))) then s
        else
          let r := loopE blocks.length (fun n s =>
            let (ib, jb, i, j) := blocks.getD n (0, 0, 0, 0)
            s.writeBack c m g t ib jb i j) s
          match r.1 with
          | .error code => r.2.mxFail c code
          | .ok _ => (r.2.setTileValid c g.tile false).mxGoOn c { m with convs := rest }

end Sys2Proof.Machine
end

