-- ==== Sys2Proof/Machine/Approx.lean ====
section
/-! DEFINITION. EXP2, LOG2, RCP and RSQ (R165): the result is a free function of the operand, held to the bound of R165; where the free word breaks the bound, the exact result rounded once stands for it (log 20). -/

namespace Sys2Proof.Machine

/-- Floor of the square root of a number below 2^(2·bits). -/
def isqrt (bits n : Nat) : Nat :=
  loopN bits (fun i r => let t := r + 1 <<< (bits - 1 - i); if t * t ≤ n then t else r) 0

/-- A value in units of 2^-80, rounded down. -/
def fix80 (x : Num) : Int :=
  match x with
  | .fin neg m e =>
    let k := e + 80
    let v : Int := if 0 ≤ k then ((m <<< k.toNat : Nat) : Int) else ((m : Int) / ((2 ^ (-k).toNat : Nat) : Int))
    if neg then (if 0 ≤ k ∨ (m : Int) % ((2 ^ (-k).toNat : Nat) : Int) = 0 then -v else -v - 1) else v
  | _ => 0

/-- 2^(f × 2^-80) × 2^128 for f below 2^80, to within a relative 2^-60: the product of the roots 2^(2^-i) of its ones. -/
def exp2Frac (f : Nat) : Nat :=
  (loopN 80 (fun i (a : Nat × Nat) =>
    let r := isqrt 130 (a.2 <<< 128)
    (if f.testBit (79 - i) then (a.1 * r) >>> 128 else a.1, r)) (1 <<< 128, 2 <<< 128)).1

/-- 2^x, to within a relative 2^-60; `x` of magnitude below 1,024. -/
def exp2Num (x : Num) : Num :=
  let v := fix80 x
  .fin false (exp2Frac (v % (2 ^ 80 : Nat)).toNat) (v / (2 ^ 80 : Nat) - 128)

/-- log2 of a positive finite value, to within an absolute 2^-60: bits of the fraction by repeated squaring. -/
def log2Num (mag : Nat) (ex : Int) : Num :=
  let n := Nat.log2 mag
  let m := if n ≤ 200 then mag <<< (200 - n) else mag >>> (n - 200)
  let f := (loopN 80 (fun _ (a : Nat × Nat) =>
    let q := (a.2 * a.2) >>> 200
    if q ≥ 2 <<< 200 then (2 * a.1 + 1, q / 2) else (2 * a.1, q)) (0, m)).1
  let v : Int := ((n : Int) + ex) * (2 ^ 80 : Nat) + (f : Int)
  .fin (decide (v < 0)) v.natAbs (-80)

/-- The exponent of the leading one of a nonzero finite value. -/
def leadExp (x : Num) : Int :=
  match x with
  | .fin _ m e => (Nat.log2 m : Int) + e
  | _ => 0

/-- One ulp of an exact result in binary32 (R165). -/
def ulp (x : Num) : Num := .fin false 1 ((if leadExp x < -126 then -126 else leadExp x) - 23)

/-- |a − b| ≤ t. -/
def near (a b t : Num) : Bool := leNum (absNum (addNum a (negNum b))) t

/-- A value and a small relative part more. -/
def slack (t y : Num) : Num := addNum t (scaleNum (absNum y) (-60))

/-- Is the value an integer; which. -/
def asInt (x : Num) : Option Int :=
  match x with
  | .fin neg m e =>
    let v : Option Nat := if 0 ≤ e then some (m <<< e.toNat) else if m % 2 ^ (-e).toNat = 0 then some (m >>> (-e).toNat) else none
    v.map (fun n => if neg then -(n : Int) else (n : Int))
  | _ => none

/-- Is the value plus or minus a power of two; its exponent. -/
def asPow (x : Num) : Option Int :=
  match x with
  | .fin _ m e => if m ≠ 0 ∧ m = 1 <<< Nat.log2 m then some ((Nat.log2 m : Int) + e) else none
  | _ => none

/-- A free word, when it keeps the bound, else the given result rounded to binary32. -/
def approxOr (op a : Nat) (ok : Num → Bool) (y : Num) : Nat :=
  let c := (Config.approx op a).toNat
  if isFin (ofB32 c) && ok (ofB32 c) then c else toB32 y

/-- EXP2 (R165). -/
def exp2B (a : Nat) : Nat :=
  match ofB32 a with
  | .nan => fmtNan .b32
  | .inf neg => if neg then 0 else 0x7F800000
  | x =>
    if leNum (.fin false 128 0) x then 0x7F800000
    else if ltNum x (.fin true 150 0) then 0
    else
      let y := exp2Num x
      if ltNum x (.fin true 126 0) then approxOr 0 a (fun c => near c y (slack (.fin false 1 (-148)) y)) y
      else
        match asInt x with
        | some n => toB32 (.fin false 1 n)
        | none => approxOr 0 a (fun c => near c y (slack (scaleNum (ulp y) 1) y)) y

/-- LOG2 (R165). -/
def log2B (a : Nat) : Nat :=
  match ofB32 a with
  | .nan => fmtNan .b32
  | .inf neg => if neg then fmtNan .b32 else 0x7F800000
  | .fin neg m e =>
    if m = 0 then 0xFF800000
    else if neg then fmtNan .b32
    else
      let x : Num := .fin false m e
      let y := log2Num m e
      if leNum (.fin false 1 (-1)) x ∧ leNum x (.fin false 2 0) then
        if eqNum x (.fin false 1 0) then 0
        else approxOr 1 a (fun c => near c y (addNum (scaleNum (absNum (addNum x (.fin true 1 0))) (-21)) (.fin false 1 (-60)))) y
      else
        match asPow x with
        | some n => toB32 (.fin (decide (n < 0)) n.natAbs 0)
        | none => approxOr 1 a (fun c => near c y (addNum (scaleNum (ulp y) 1) (.fin false 1 (-60)))) y

/-- 1 / (mag × 2^ex) with a sticky last bit, so that one rounding is right. -/
def recipNum (neg : Bool) (mag : Nat) (ex : Int) : Num :=
  let k := 100 + Nat.log2 mag
  let q := (1 <<< k) / mag
  let r := (1 <<< k) % mag
  .fin neg (2 * q + bnat (decide (r ≠ 0))) (-ex - k - 1)

/-- RCP (R165). -/
def rcpB (a : Nat) : Nat :=
  match ofB32 a with
  | .nan => fmtNan .b32
  | .inf neg => if neg then 0x80000000 else 0
  | .fin neg m e =>
    if m = 0 then (if neg then 0xFF800000 else 0x7F800000)
    else
      let x : Num := .fin neg m e
      let y := recipNum neg m e
      let bound : Num := if ltNum (.fin false 1 126) (absNum x) then .fin false 1 (-148) else scaleNum (ulp y) 1
      let ok (c : Num) : Bool := leNum (absNum (addNum (mulNum c x) (.fin true 1 0))) (mulNum bound (absNum x))
      if ltNum (absNum x) (.fin false 1 (-126)) ∧ (Config.approx 2 a).toNat = (if neg then 0xFF800000 else 0x7F800000) then
        (Config.approx 2 a).toNat
      else
        match (if leNum (absNum x) (.fin false 1 126) then asPow x else none) with
        | some n => if ltNum (absNum x) (.fin false 1 (-126)) then approxOr 2 a ok y else toB32 (.fin neg 1 (-n))
        | none => approxOr 2 a ok y

/-- 1 / √(mag × 2^ex) with a sticky last bit. -/
def rsqNum (mag : Nat) (ex : Int) : Num :=
  let (m, e) : Nat × Int := if ex % 2 = 0 then (mag, ex) else (2 * mag, ex - 1)
  let n := Nat.log2 m
  let k := 2 * (60 + n)
  let q := (1 <<< (2 * k)) / m
  let r := isqrt (k + 2) q
  .fin false (2 * r + bnat (decide (r * r * m ≠ 1 <<< (2 * k)))) (-(e / 2) - k - 1)

/-- RSQ (R165). -/
def rsqB (a : Nat) : Nat :=
  match ofB32 a with
  | .nan => fmtNan .b32
  | .inf neg => if neg then fmtNan .b32 else 0
  | .fin neg m e =>
    if m = 0 then (if neg then 0xFF800000 else 0x7F800000)
    else if neg then fmtNan .b32
    else
      let x : Num := .fin false m e
      let y := rsqNum m e
      let t := scaleNum (ulp y) 1
      let one : Num := .fin false 1 0
      let ok (c : Num) : Bool :=
        let lo := addNum c (negNum t)
        let hi := addNum c t
        leNum (.fin false 0 0) hi && leNum one (mulNum (mulNum hi hi) x) &&
          (leNum lo (.fin false 0 0) || leNum (mulNum (mulNum lo lo) x) one)
      match asPow x with
      | some n => if n % 2 = 0 then toB32 (.fin false 1 (-(n / 2))) else approxOr 3 a ok y
      | none => approxOr 3 a ok y

/-- Two digests within 2^−tol of each other (R406); the comparisons are made exactly (log 20). -/
def digestNear (tol : Nat) (a b : DigestW) : Bool :=
  let tau : Num := .fin false 1 (-(tol : Int))
  let gap (x y : Num) : Num := absNum (addNum x (negNum y))
  let top (x y : Num) : Num := if ltNum x y then y else x
  let near (x y : Nat) : Bool := leNum (gap (ofB32 x) (ofB32 y)) (mulNum tau (top (ofB32 x) (ofB32 y)))
  let d := gap (ofB32 a.sum) (ofB32 b.sum)
  decide (a.count = b.count ∧ a.nonfin = b.nonfin) && near a.sumsq b.sumsq && near a.maxabs b.maxabs &&
    leNum (mulNum d d) (mulNum (mulNum tau tau) (mulNum (.fin false a.count 0) (top (ofB32 a.sumsq) (ofB32 b.sumsq))))

end Sys2Proof.Machine
end

