-- ==== Sys2Proof/Machine/Vector.lean ====
section
/-! DEFINITION. The vector engine (R148 to R176): program slots and the check of an image, streams, bands, passes and columns, write-back, VREDUCE, checkpoints and reruns, and how one lane instruction runs. -/

namespace Sys2Proof.Machine

/-- Register vr of lane l (R178, R179). -/
def laneAddr (l r : Nat) : Nat := 0x4A0000 + 4 * (64 * r + l)

/-- Its copy in the checkpoint (R179). -/
def checkAddr (l r : Nat) : Nat := 0x4A2000 + 4 * (64 * r + l)

/-- Word w of program slot n (R179). -/
def progAddr (n w : Nat) : Nat := 0x4B0000 + 2048 * n + 4 * w

/-- A block of input stream st: `half` 0 the upper block row of a band, 1 the lower one; its scale bytes follow its elements (R148, R179; the places within a stream's buffer are a DESIGN CHOICE, log 12). -/
def inAddr (st half : Nat) : Nat := 0x4A4000 + 0x2000 * st + 0x1000 * half

/-- An element of output stream st: block column 0, which is held, in the first half of its buffer, every other in the second (R148, R155, R179; the places within a stream's buffer are a DESIGN CHOICE, log 12). -/
def outAddr (st bc row col : Nat) : Nat := 0x4A8000 + 0x4000 * (st - 2) + (if bc = 0 then 0 else 0x2000) + 4 * (32 * row + col)

/-- The core-local address that names predicate latch p of lane l, in a range that R178 reserves (DESIGN CHOICE, log 65). -/
def latchAddr (l p : Nat) : Nat := 0x4B2000 + 32 * l + 4 * p

/-- A lane register. -/
def State.vreg (s : State) (c : CoreId) (l r : Nat) : Nat := s.eng c (laneAddr l r)

/-- A lane register written. -/
def State.setVreg (s : State) (c : CoreId) (l r v : Nat) : State := s.engSet c (laneAddr l r) v

/-- A word of a program slot. -/
def State.progWord (s : State) (c : CoreId) (n w : Nat) : Nat := s.eng c (progAddr n w)

/-- A word of a program slot that has failed and not been written since, among the header and the word read (R194, R195): its address. -/
def State.badProg (s : State) (c : CoreId) (n w : Nat) : Option Nat :=
  ([0, w].find? (fun i => (s.badWord 2 (coreAddr c (progAddr n i)) 4).isSome)).map (progAddr n)

/-- The length register of a slot (R175). -/
def slotLenLoc (c : CoreId) : Nat → Loc
  | 0 => F.VX_SLOTLEN01_LEN0.core c
  | 1 => F.VX_SLOTLEN01_LEN1.core c
  | 2 => F.VX_SLOTLEN23_LEN2.core c
  | _ => F.VX_SLOTLEN23_LEN3.core c

/-- The vector engine's record replaced. -/
def State.setVx (s : State) (c : CoreId) (v : Vx) : State := s.onCore c (fun k => { k with vx := v })

/-- Who the vector engine reaches memory for. -/
def vxWho (v : Vx) : Who := { op := dOp v.desc, daddr := v.addr, req := 3 }

/-- Header fields BODY, FINI and the number of passes (R150). -/
def hdrBody (w : Nat) : Nat := bits w 8 0
/-- FINI. -/
def hdrFini (w : Nat) : Nat := bits w 18 9
/-- PASSES, from 1 to 4. -/
def hdrPasses (w : Nat) : Nat := bits w 20 19 + 1
/-- NOMERGE0 and NOMERGE1 by output stream. -/
def hdrNoMerge (w st : Nat) : Bool := if st = 2 then w.testBit 21 else w.testBit 22

/-- Fields of an instruction word (R157). -/
def iOp (w : Nat) : Nat := bits w 31 26
/-- D. -/
def iD (w : Nat) : Nat := bits w 25 21
/-- A. -/
def iA (w : Nat) : Nat := bits w 20 16
/-- B. -/
def iB (w : Nat) : Nat := bits w 15 11
/-- C. -/
def iC (w : Nat) : Nat := bits w 10 6
/-- PRED. -/
def iPred (w : Nat) : Nat := bits w 5 3
/-- PNEG. -/
def iNeg (w : Nat) : Bool := w.testBit 2
/-- MOD. -/
def iMod (w : Nat) : Nat := bits w 1 0
/-- IMM. -/
def iImm (w : Nat) : Nat := bits w 15 0
/-- IMM sign-extended, modulo 2^32. -/
def iSimm (w : Nat) : Nat := wrap32 (sext (iImm w) 16)

/-- I-form opcodes (R159). -/
def isI (op : Nat) : Bool := [0x02, 0x03, 0x04, 0x05, 0x06, 0x07, 0x09, 0x17, 0x19, 0x35].contains op

/-- The bits below OP that an opcode uses (R157 to R159), every R-form opcode its PRED and PNEG (DEDUCED, log 21); none for a reserved opcode. -/
def usedBits (op : Nat) : Option Nat :=
  let d := 31 <<< 21
  let dp := 7 <<< 21
  let a := 31 <<< 16
  let b := 31 <<< 11
  let c := 31 <<< 6
  let fm := 15 <<< 6
  let pr := 0x3C
  let imm := 0xFFFF
  match op with
  | 0x00 | 0x01 => some pr
  | 0x02 => some imm
  | 0x03 | 0x04 => some (dp + imm)
  | 0x05 | 0x06 | 0x07 | 0x09 => some (d + imm)
  | 0x08 | 0x21 | 0x22 | 0x25 | 0x26 | 0x27 | 0x28 | 0x29 => some (d + a + pr)
  | 0x0A => some (d + 7 <<< 11 + c + pr)
  | 0x0B => some (a + 7 <<< 11 + c + pr)
  | 0x0C | 0x0D | 0x0E | 0x0F | 0x10 | 0x11 | 0x12 | 0x13 | 0x14 | 0x15 | 0x16 | 0x1A | 0x1B | 0x1C | 0x1F | 0x20 | 0x34 => some (d + a + b + pr)
  | 0x17 | 0x35 => some (d + a + imm)
  | 0x18 | 0x23 => some (dp + a + b + pr + 3)
  | 0x19 => some (d + a + imm)
  | 0x1D | 0x1E => some (d + a + b + c + pr)
  | 0x24 => some (d + a + b + 7 <<< 6 + pr)
  | 0x2A => some (d + a + pr + 1)
  | 0x2B => some (d + a + fm + pr + 3)
  | 0x2C | 0x2E | 0x2F | 0x30 | 0x31 | 0x32 | 0x33 => some (d + a + b + fm + pr + 1)
  | 0x2D => some (d + a + fm + pr + 2)
  | 0x36 => some (d + a + pr + 3)
  | 0x37 => some (d + pr)
  | 0x38 => some (a + b + pr)
  | 0x39 | 0x3A => some (dp + 7 <<< 16 + 7 <<< 11 + pr)
  | 0x3B => some (dp + 7 <<< 16 + pr)
  | _ => none

/-- The section an instruction index lies in: first index, index after the last, number (R150). -/
def sectionOf (hdr plen i : Nat) : Nat × Nat × Nat :=
  if i < hdrBody hdr then (1, hdrBody hdr, 0) else if i < hdrFini hdr then (hdrBody hdr, hdrFini hdr, 1) else (hdrFini hdr, plen, 2)

/-- The cause for which one instruction is refused at load (R173 causes 3 to 6); 0 when it is good. NOMERGE0 has no effect in a VREDUCE, whose stream 2 may be read (R170). -/
def instrCause (red : Bool) (hdr plen i w : Nat) : Nat :=
  let op := iOp w
  let (lo, hi, sec) := sectionOf hdr plen i
  match usedBits op with
  | none => 3
  | some m =>
    let st := iB w % 4
    let fixed := (iB w).testBit 2
    let strm := decide (op = 0x0A ∨ op = 0x0B)
    let fmtBad :=
      if op = 0x2B then decide (iC w % 16 = 0 ∨ iC w % 16 > 5)
      else if op = 0x2C ∨ op = 0x2D ∨ (0x2E ≤ op ∧ op ≤ 0x33) then decide (iC w % 16 ≠ 1 ∧ iC w % 16 ≠ 2) else false
    if w % 2 ^ 26 &&& m ≠ w % 2 ^ 26 ∨ (op = 0x09 ∧ iImm w > 10) ∨ fmtBad = true ∨ (strm = true ∧ fixed = false ∧ iC w ≠ 0) then 4
    else if (op = 0x02 ∨ op = 0x03 ∨ op = 0x04) ∧ ¬ (lo ≤ iImm w ∧ iImm w < hi) then 5
    else if strm && ((decide (op = 0x0B) && decide (st < 2)) || (!fixed && decide (sec ≠ 1)) || (decide (op = 0x0B) && fixed && decide (sec = 1)) ||
        (decide (op = 0x0A) && decide (st ≥ 2) && hdrNoMerge hdr st && !(red && decide (st = 2)))) then 6
    else 0

/-- The check of an image (R150, R151, R173): cause and index of what refuses it, (0, 0) when it is good. -/
def imageCause (red : Bool) (ws : List Nat) : Nat × Nat :=
  let plen := ws.length
  let hdr := ws.headD 0
  if plen = 0 ∨ plen > 512 then (1, 0)
  else if bits hdr 31 23 ≠ 0 ∨ ¬ (1 ≤ hdrBody hdr ∧ hdrBody hdr < hdrFini hdr ∧ hdrFini hdr ≤ plen) then (2, 0)
  else
    match (List.range plen).find? (fun i => decide (i ≠ 0) && instrCause red hdr plen i (ws.getD i 0) != 0) with
    | some i => (instrCause red hdr plen i (ws.getD i 0), i)
    | none => (0, 0)

/-- A record of R173: cause or lane, instruction index, section, band (R174). -/
def State.vxReport (s : State) (c : CoreId) (addr op code low idx sec band sev : Nat) : State :=
  s.reportErr c addr { code := code, info0 := low % 256 + (idx % 512) <<< 8 + sec <<< 17 + op <<< 24, form := 0 } op 3 (band % 65536) sev

/-- The words of an image in panel memory. -/
def State.readImage (s : State) (c : CoreId) (w : Who) (addr plen : Nat) : Except Nat (List Nat) × State :=
  let r := s.spaceRead c w 0 addr (4 * plen)
  (match r.1 with | .error code => .error code | .ok b => .ok ((pieces 4 plen b).map leNat), r.2)

/-- Words put into a program slot. -/
def State.putProg (s : State) (c : CoreId) (n : Nat) (ws : List Nat) : State :=
  loopN ws.length (fun i s => s.engSet c (progAddr n i) (ws.getD i 0)) s

/-- A program slot reloaded from the image address recorded at its load (R195): refused where the image cannot be read or fails its check. -/
def State.reloadSlot (s : State) (c : CoreId) (w : Who) (n : Nat) (good : List Nat → Bool) : Bool × State :=
  let r := s.readImage c w ((s.core c).slotAddr.getD n 0) (s.rd (slotLenLoc c n))
  match r.1 with
  | .error _ => (false, r.2)
  | .ok ws => if good ws then (true, r.2.putProg c n ws) else (false, r.2)

/-- The first word of a program slot that has failed and not been written since (R194, R195): its address. -/
def State.badSlot (s : State) (c : CoreId) (n : Nat) : Option Nat :=
  (s.badWord 2 (coreAddr c (progAddr n 0)) (4 * s.rd (slotLenLoc c n))).map (fun k => k - coreAddr c 0)

/-- A program slot read as a whole: where a word's parity fails, the slot is reloaded, with the record of the recovery or of the reload's failure (R194, R195). -/
def State.checkSlot (s : State) (c : CoreId) (w : Who) (n : Nat) (good : List Nat → Bool) : Bool × State :=
  match s.badSlot c n with
  | none => (true, s)
  | some a =>
    let r := s.reloadSlot c w n good
    (r.1, if r.1 then (r.2.bump (F.CB_RECOV_COUNT.core c)).parityRecord c 0x2104 0 9 a false w else r.2.parityRecord c 0x2107 2 9 a false w)

/-- The instructions a program holds, with their indices. -/
def State.progInstrs (s : State) (c : CoreId) (n plen : Nat) : List (Nat × Nat) :=
  (List.range (plen - 1)).map (fun i => (i + 1, s.progWord c n (i + 1)))

/-- Causes 1 and 4 of 0x1205: the first instruction that breaks them (R173). -/
def streamCause (red : Bool) (hdr plen : Nat) (trefs : List (Option TRef)) (l : List (Nat × Nat)) : Option (Nat × Nat) :=
  let strm (w : Nat) : Bool := decide (iOp w = 0x0A ∨ iOp w = 0x0B)
  match l.find? (fun e => strm e.2 && (trefs.getD (iB e.2 % 4) none).isNone && !(red && decide (iB e.2 % 4 = 2))) with
  | some e => some (1, e.1)
  | none =>
    if red then
      (l.find? (fun e => strm e.2 && (decide (iB e.2 % 4 = 3) || (decide (iOp e.2 = 0x0B) && decide ((sectionOf hdr plen e.1).2.2 ≠ 1))))).map
        (fun e => (4, e.1))
    else none

/-- The physical place of a byte of a core's spaces: panel, core memory, die memory apart. -/
def State.physOf (s : State) (c : CoreId) (space a : Nat) : Option Nat :=
  if space = 0 then (match s.xlate c.site a with | .ok (p, off) => some (stkAddr p off) | .error _ => none)
  else if space = 1 then some (2 ^ 60 + coreAddr c a) else some (2 ^ 61 + dieAddr c.site a)

/-- A range of a space as physical pieces: start and length, cut at 4 KiB. -/
def State.physPieces (s : State) (c : CoreId) (space : Nat) (r : Nat × Nat) : List (Nat × Nat) :=
  (List.range ((r.1 % 4096 + r.2 + 4095) / 4096)).filterMap (fun i =>
    let a := if i = 0 then r.1 else r.1 - r.1 % 4096 + 4096 * i
    let e := min (r.1 + r.2) (r.1 - r.1 % 4096 + 4096 * (i + 1))
    (s.physOf c space a).map (fun p => (p, e - a)))

/-- BI and BJ of a vector descriptor (R133). -/
def vxOrg (d : Nat) (ix : List Nat) : Nat × Nat :=
  (origin ix (df d 34 15 0) (df d 42 2 0), origin ix (df d 36 15 0) (df d 42 5 3))
/-- NR. -/
def vxNr (d : Nat) : Nat := df d 38 15 0
/-- NC. -/
def vxNc (d : Nat) : Nat := df d 40 15 0
/-- VREDUCE's AXIS and OP. -/
def redAxis (d : Nat) : Nat := df d 17 5 4
/-- VREDUCE's OP. -/
def redOp (d : Nat) : Nat := df d 17 2 0
/-- Is the descriptor a VREDUCE. -/
def isRed (d : Nat) : Bool := decide (dOp d = 0x31)
/-- Number of bands (R152). -/
def vxBands (d : Nat) : Nat := (vxNr d + 1) / 2
/-- Block rows of a band (R152). -/
def bandRows (d band : Nat) : Nat := min 2 (vxNr d - 2 * band)

/-- The number of results of a VREDUCE. -/
def redCount (d : Nat) : Nat := match redAxis d with | 0 => 32 * vxNr d | 1 => 32 * vxNc d | _ => 1

/-- The tensor element a VREDUCE result lies at (R170). -/
def redElem (d : Nat) (ix : List Nat) (n : Nat) : Nat × Nat :=
  let (bi, bj) := vxOrg d ix
  match redAxis d with | 0 => (32 * bi + n, 32 * bj) | 1 => (32 * bi, 32 * bj + n) | _ => (32 * bi, 32 * bj)

/-- The address of an element of a tensor: its first byte. -/
def elemAddr (t : TRef) (er ec : Nat) : Nat := t.block (er / 32) (ec / 32) + elemIndex (er % 32) (ec % 32) * fmtBits t.f / 8

/-- The physical ranges of the outputs of a vector descriptor: stream, start, length. -/
def State.outPieces (s : State) (c : CoreId) (d : Nat) (ix : List Nat) (trefs : List (Option TRef)) : List (Nat × Nat × Nat) :=
  let (bi, bj) := vxOrg d ix
  [2, 3].flatMap (fun st => match trefs.getD st none with
    | none => []
    | some t =>
      let rs : List (Nat × Nat) := if isRed d ∧ st = 3 then (List.range (redCount d)).map (fun n => let e := redElem d ix n; (elemAddr t e.1 e.2, 4))
        else (⟨t, bi, bj, vxNr d, vxNc d⟩ : Touch).ranges
      rs.flatMap (fun r => (s.physPieces c t.space r).map (fun p => (st, p.1, p.2))))

/-- Does an input stream name the tensor of an output stream (R156). -/
def sameAsOutput (d st : Nat) : Bool :=
  let ix (p : Nat) : Nat := df d (26 + 2 * p) 15 0
  decide (st < 2 ∧ ix st ≠ 0xFFFF ∧ (ix st = ix 2 ∨ ix st = ix 3))

/-- Decode a block for a stream: values rounded to binary32 (R154). -/
def streamCodes (t : TRef) (bs sc : List Byte) : List Nat := (blockValues t.f bs sc).map toB32

/-- The blocks, as they stand at the start, of an input that is also an output (R156). -/
def State.snapshot (s : State) (c : CoreId) (e : Issued) : Except Nat (Tab (List Byte × List Byte)) × State :=
  let d := e.desc
  let (bi, bj) := vxOrg d e.ix
  let keys : List (Nat × TRef × Nat × Nat) := [0, 1].flatMap (fun st =>
    match (if sameAsOutput d st then e.trefs.getD st none else none) with
    | none => []
    | some t => (List.range (vxNr d)).flatMap (fun i => (List.range (vxNc d)).map (fun j => (st, t, i, j))))
  keys.foldl (fun (acc : Except Nat (Tab (List Byte × List Byte)) × State) k =>
    match acc.1 with
    | .error code => (.error code, acc.2)
    | .ok l =>
      let r := acc.2.readBlock c (whoOf e) k.2.1 (bi + k.2.2.1) (bj + k.2.2.2)
      (match r.1 with
       | .error code => .error code
       | .ok b => .ok (tset ([], []) l [k.1, k.2.2.1, k.2.2.2] b), r.2)) (.ok [], s)

/-- The engine idle again. -/
def State.vxIdle (s : State) (c : CoreId) : State := s.setVx c vxReset

/-- The descriptor in progress ends in an error. -/
def State.vxFail (s : State) (c : CoreId) (code : Nat) : State := (s.vxIdle c).badIssued c (s.core c).vx.id code

/-- The descriptor in progress has done its work (R123). -/
def State.vxFinish (s : State) (c : CoreId) : State :=
  (s.vxIdle c).onIssued c (s.core c).vx.id (fun e => { e with phase := .done })

/-- The slot of the descriptor in progress. -/
def Vx.slot (v : Vx) : Nat := df v.desc 16 1 0

/-- The header of the program in progress. -/
def State.vxHdr (s : State) (c : CoreId) : Nat := s.progWord c (s.core c).vx.slot 0

/-- PLEN of the program in progress. -/
def State.vxPlen (s : State) (c : CoreId) : Nat := s.rd (slotLenLoc c (s.core c).vx.slot)

/-- Is a pass the last one. -/
def State.lastPass (s : State) (c : CoreId) : Bool := decide ((s.core c).vx.pass + 1 = hdrPasses (s.vxHdr c))

/-- The band's lanes: 64, or 32 in the last band of an odd region (R152, R153). -/
def activeLanes (v : Vx) : Nat := 32 * bandRows v.desc v.band

/-- A predicate of a lane; p0 reads 1 (R149). -/
def Vx.pred (v : Vx) (l p : Nat) : Bool := decide (p = 0) || (tget 0 v.preds [l]).testBit p

/-- A predicate written; a write to p0 is discarded (R149). -/
def Vx.setPred (v : Vx) (l p : Nat) (b : Bool) : Vx :=
  if p = 0 then v
  else { v with preds := tset 0 v.preds [l] (if b then setBit (tget 0 v.preds [l]) p else clrBit (tget 0 v.preds [l]) p) }

/-- The lanes in which an instruction executes (R158). -/
def enabled (v : Vx) (w : Nat) : List Nat :=
  (List.range (activeLanes v)).filter (fun l => isI (iOp w) || (v.pred l (iPred w) != iNeg w))

/-- An element of an output stream's buffer by its key: stream, band, block column, row, column. -/
def State.putOut (s : State) (c : CoreId) (k : Key) (v : Nat) : State := s.engSet c (outAddr (k.getD 0 0) (k.getD 2 0) (k.getD 3 0) (k.getD 4 0)) v

/-- The checkpoint taken at the start of a run (R172), with what the output buffers hold. -/
def State.checkpoint (s : State) (c : CoreId) : State :=
  (loopN 2048 (fun k s => s.engSet c (checkAddr (k % 64) (k / 64)) (s.vreg c (k % 64) (k / 64))) s).onCore c
    (fun k => { k with vx := { k.vx with ckPreds := k.vx.preds, ckBuf := k.vx.buf } })

/-- The run's results discarded: the registers restored from the checkpoint, and the output buffers as they stood at it (R172). -/
def State.restoreCheck (s : State) (c : CoreId) : State :=
  let s := (loopN 2048 (fun k s => s.setVreg c (k % 64) (k / 64) (s.eng c (checkAddr (k % 64) (k / 64)))) s).engZero c (latchAddr 0 0) 0x800
  let v := (s.core c).vx
  let s := each (v.buf.filter (fun e => !(v.ckBuf.contains e))) (fun e s => s.putOut c e.1 (tget 0 v.ckBuf e.1 / 2)) s
  s.onCore c (fun k => { k with vx := { k.vx with preds := k.vx.ckPreds, buf := k.vx.ckBuf } })

/-- The first index of the section in progress and the one after its last. -/
def State.bounds (s : State) (c : CoreId) : Nat × Nat :=
  match (s.core c).vx.section_ with
  | 0 => (1, hdrBody (s.vxHdr c))
  | 1 => (hdrBody (s.vxHdr c), hdrFini (s.vxHdr c))
  | _ => (hdrFini (s.vxHdr c), s.vxPlen c)

/-- A run begins: checkpoint, first instruction, no instruction executed (R168, R172). -/
def State.beginRun (s : State) (c : CoreId) : State :=
  let lo := (s.bounds c).1
  (s.onCore c (fun k => { k with vx := { k.vx with pc := lo, icount := 0, rerun := [] } })).checkpoint c

/-- A buffer element of an output stream: its key. -/
def bufKey (st band bc row col : Nat) : Key := [st, band, bc, row, col]

/-- The preread of a block column of an output stream (R155, R170). -/
def State.preread (s : State) (c : CoreId) (st bc : Nat) : Except Nat Unit × State :=
  let v := (s.core c).vx
  if st = 3 ∧ isRed v.desc ∧ redAxis v.desc = 1 then (.ok (), s)
  else if hdrNoMerge (s.vxHdr c) st ∨ isRed v.desc then (.ok (), s.engZero c (outAddr st bc 0 0) 0x2000)
  else
    match v.trefs.getD st none with
    | none => (.ok (), s)
    | some t =>
      let (bi, bj) := vxOrg v.desc v.ix
      loopE (bandRows v.desc v.band) (fun h s =>
        let r := s.readBlock c (vxWho v) t (bi + 2 * v.band + h) (bj + bc)
        match r.1 with
        | .error code => (.error code, r.2)
        | .ok (bs, sc) =>
          let l := streamCodes t bs sc
          let key (n : Nat) : Key := bufKey st v.band bc (32 * h + n / 32) (n % 32)
          let s := loopN 1024 (fun n s => s.putOut c (key n) (l.getD n 0)) r.2
          (.ok (), s.onCore c (fun k => { k with vx := { k.vx with buf := loopN 1024 (fun n b => tset 0 b (key n) (2 * l.getD n 0)) k.vx.buf } }))) s

/-- Both output streams' preread of a block column. -/
def State.prereadBoth (s : State) (c : CoreId) (bc : Nat) : Except Nat Unit × State :=
  let r := s.preread c 2 bc
  match r.1 with | .error e => (.error e, r.2) | .ok _ => r.2.preread c 3 bc

/-- An engine step that may fail the descriptor. -/
def State.orFail (c : CoreId) (r : Except Nat Unit × State) (f : State → State) : State :=
  match r.1 with | .error code => r.2.vxFail c code | .ok _ => f r.2

/-- BODY of a column begins: at a block column's first column in the last pass, after its preread (R152, R155). -/
def State.enterBody (s : State) (c : CoreId) (pass col : Nat) : State :=
  let s := s.onCore c (fun k =>
    let same := decide (k.vx.pass = pass ∧ k.vx.section_ = 1 ∧ k.vx.col / 32 = col / 32)
    { k with vx := { k.vx with section_ := 1, pass := pass, col := col, ins := if same then k.vx.ins else [] } })
  if s.lastPass c ∧ col % 32 = 0 ∧ ¬ (col = 0 ∧ pass = 0) then State.orFail c (s.prereadBoth c (col / 32)) (fun s => s.beginRun c)
  else s.beginRun c

/-- A band begins, and the stream programs of the block rows that come within 8 of it are sent (R216): INIT, or BODY at once where INIT is empty (R150, R152, R155). -/
def State.enterBand (s : State) (c : CoreId) (band : Nat) : State :=
  let s := s.onCore c (fun k => { k with vx := { k.vx with section_ := 0, pass := 0, band := band, col := 0, ins := [] } })
  let v := (s.core c).vx
  let s := if band = 0 then s
    else each [0, 1] (fun p s => match v.trefs.getD p none with
      | some t => s.prefetchRows c ⟨t, (vxOrg v.desc v.ix).1, (vxOrg v.desc v.ix).2, vxNr v.desc, vxNc v.desc⟩ (2 * band + 6) (2 * band + 8)
      | none => s) s
  let go (s : State) : State := if hdrBody (s.vxHdr c) = 1 then s.enterBody c 0 0 else s.beginRun c
  if s.lastPass c then State.orFail c (s.prereadBoth c 0) go else go s

/-- Is any element of a block column stored (R155). -/
def anyStored (b : Tab Nat) (st band bc : Nat) : Bool :=
  b.any (fun e => e.1.take 3 == [st, band, bc] && decide (e.2 % 2 = 1))

/-- A block column of both output streams is ready for write-back (R155); a VREDUCE's is ready for its combination, block column 0 even when nothing was stored in it, since results follow it (R170). -/
def State.readyColumn (s : State) (c : CoreId) (bc : Nat) : State :=
  let v := (s.core c).vx
  let l := [2, 3].filter (fun st => anyStored v.buf st v.band bc || (isRed v.desc && decide (st = 2 ∧ bc = 0)))
  s.onCore c (fun k => { k with vx := { k.vx with
    buf := k.vx.buf.filter (fun e => !((e.1.drop 1).take 2 == [v.band, bc]) || l.contains (e.1.headD 0)),
    wb := k.vx.wb ++ l.map (fun st => (st, v.band, bc)) } })

/-- FINI has ended: block column 0 is written, and the next band begins, or only write-back is left (R152, R155). -/
def State.endBand (s : State) (c : CoreId) : State :=
  let s := s.readyColumn c 0
  let v := (s.core c).vx
  if v.band + 1 < vxBands v.desc then s.enterBand c (v.band + 1)
  else if v.wb.isEmpty then s.vxFinish c
  else s.onCore c (fun k => { k with vx := { k.vx with section_ := 3 } })

/-- A section run has ended: its recoveries are recorded, and the engine goes on (R152, R172, R195). -/
def State.endRun (s : State) (c : CoreId) : State :=
  let v := (s.core c).vx
  let s := each v.rerun (fun e s =>
    if e.1 = 0 then
      (s.bump (F.VX_RERUN_COUNT.core c)).vxReport c v.addr (dOp v.desc) 0x1202 (e.2 % 64) (e.2 / 64) v.section_ v.band 0
    else (s.bump (F.CB_RECOV_COUNT.core c)).parityRecord c 0x2104 0 e.1 e.2 false (vxWho v)) s
  let s := s.onCore c (fun k => { k with vx := { k.vx with rerun := [] } })
  match v.section_ with
  | 0 => s.enterBody c 0 0
  | 1 =>
    let s := if s.lastPass c ∧ v.col % 32 = 31 ∧ v.col ≠ 31 then s.readyColumn c (v.col / 32) else s
    if v.col + 1 < 32 * vxNc v.desc then s.enterBody c v.pass (v.col + 1)
    else if !(s.lastPass c) then s.enterBody c (v.pass + 1) 0
    else
      let s := s.onCore c (fun k => { k with vx := { k.vx with section_ := 2, col := 0, ins := [] } })
      if (s.bounds c).1 < (s.bounds c).2 then s.beginRun c else s.endBand c
  | 2 => s.endBand c
  | _ => s

/-- The run goes on at an instruction index, or ends at the section's end (R168). -/
def State.goTo (s : State) (c : CoreId) (i : Nat) : State :=
  if i ≥ (s.bounds c).2 then s.endRun c
  else s.onCore c (fun k => { k with vx := { k.vx with pc := i } })

/-- The run is made again from its checkpoint (R172). -/
def State.rerun (s : State) (c : CoreId) (why : Nat × Nat) : State :=
  let s := s.restoreCheck c
  s.onCore c (fun k => { k with vx := { k.vx with pc := (s.bounds c).1, icount := 0, rerun := k.vx.rerun ++ [why] } })

/-- The program slot in use reloaded (R195). -/
def State.reload (s : State) (c : CoreId) : Bool × State :=
  let v := (s.core c).vx
  s.reloadSlot c (vxWho v) v.slot (fun ws => decide (imageCause (isRed v.desc) ws = (0, 0)))

/-- A parity failure found by the vector engine (R195): the word is lost with its descriptor, or its first response is made; a word that is lost, or that no reload rewrites, stays failing. A predicate latch, which R178 gives no address, stands in a record with its address of `latchAddr` (DESIGN CHOICE, log 65). -/
def State.vxParity (s : State) (c : CoreId) (a : Nat) : State :=
  let v := (s.core c).vx
  let lost (code sev : Nat) (st : Nat) : State :=
    (((s.engFail c a).bump (F.CB_LOST_COUNT.core c)).parityRecord c code sev st a false (vxWho v)).vxFail c code
  match engStore a with
  | some 5 => if v.rerun.any (fun e => e.1 == 5) then lost 0x2105 2 5 else s.rerun c (5, a)
  | some 6 => lost 0x2106 1 6
  | some 7 =>
    if v.rerun.any (fun e => e.1 == 7) then lost 0x2105 2 7
    else (s.onCore c (fun k => { k with vx := { k.vx with ins := [] } })).rerun c (7, a)
  | some 8 => lost 0x2106 1 8
  | some 9 =>
    if v.rerun.any (fun e => e.1 == 9) then lost 0x2105 2 9
    else
      let r := s.reload c
      if r.1 then r.2.rerun c (9, a)
      else (((r.2.engFail c a).parityRecord c 0x2107 2 9 a false (vxWho v))).vxFail c 0x2107
  | _ => s

/-- What one lane instruction does: go on, go elsewhere, end the section, wait, or fail the descriptor with a code. -/
inductive LaneOut where
  | next (s : State)
  | jump (s : State) (i : Nat)
  | fin (s : State)
  | wait
  | fail (s : State) (code : Nat)

/-- Cycles an instruction occupies the engine (R159). -/
def issueCycles (w : Nat) : Nat :=
  let op := iOp w
  if op = 0x37 then 2
  else if (op = 0x2B ∨ op = 0x2C ∨ (0x2E ≤ op ∧ op ≤ 0x33)) ∧ w % 2 = 1 then 2 else 1

/-- Does an instruction write a register or predicate of lane l (R171); an STS writes its lane's buffer element and neither, and is never compared (DESIGN CHOICE, log 65). -/
def writesLane (v : Vx) (w l : Nat) : Bool :=
  (enabled v w).contains l && !([0x00, 0x01, 0x02, 0x03, 0x04, 0x0B, 0x38].contains (iOp w)) &&
    !([0x18, 0x19, 0x23, 0x39, 0x3A, 0x3B].contains (iOp w) && decide (iD w % 8 = 0))

/-- One lane instruction of an opcode, when the engine stands at one (R159, R168, R171, R172). -/
def State.laneStep (s : State) (c : CoreId) (op : Nat) (ev : LaneEvent) (f : Nat → State → LaneOut) : State :=
  let v := (s.core c).vx
  if !v.active ∨ v.section_ = 3 then s
  else
    let w := s.progWord c v.slot v.pc
    if iOp w ≠ op then s
    else
      match (match ev with | .parity a => some a | _ => s.badProg c v.slot v.pc) with
      | some a => s.vxParity c a
      | none =>
        if v.icount ≥ 65536 then
          (s.vxReport c v.addr (dOp v.desc) 0x1206 0 v.pc v.section_ v.band 2).vxFail c 0x1206
        else
          let done (s : State) (extra : Nat) (go : State → State) : State :=
            let s := s.add (F.VX_BUSY.core c) (issueCycles w + extra)
            let s := s.onCore c (fun k => { k with vx := { k.vx with icount := k.vx.icount + 1 } })
            match ev with
            | .shadow l =>
              if v.shadow ∧ writesLane v w l then
                if v.rerun.any (fun e => e.1 == 0) then
                  (s.vxReport c v.addr (dOp v.desc) 0x1201 l v.pc v.section_ v.band 2).vxFail c 0x1201
                else s.rerun c (0, l + 64 * v.pc)
              else go s
            | _ => go s
          match f w s with
          | .next s => done s 0 (fun s => s.goTo c (v.pc + 1))
          | .jump s i => done s 1 (fun s => s.goTo c i)
          | .fin s => done s 0 (fun s => s.endRun c)
          | .wait => s
          | .fail s code => s.vxFail c code

/-- The blocks of a stream that an LDS of the current run needs are fetched (R154). -/
def State.fetchStream (s : State) (c : CoreId) (st bc half : Nat) : Except Nat Unit × State :=
  let v := (s.core c).vx
  if v.ins.any (fun e => e.1 == [st, bc, half]) then (.ok (), s)
  else
    match v.trefs.getD st none with
    | none => (.ok (), s)
    | some t =>
      let (bi, bj) := vxOrg v.desc v.ix
      let put (b : List Byte × List Byte) (s : State) : State :=
        let s := if st < 2 then s.engPut c (inAddr st half) (b.1 ++ b.2) else s
        s.onCore c (fun k => { k with vx := { k.vx with ins := tset [] k.vx.ins [st, bc, half] (streamCodes t b.1 b.2) } })
      if sameAsOutput v.desc st then (.ok (), put (tget ([], []) v.snap [st, 2 * v.band + half, bc]) s)
      else
        let r := s.readBlock c (vxWho v) t (bi + 2 * v.band + half) (bj + bc)
        match r.1 with
        | .error code => (.error code, r.2)
        | .ok b => (.ok (), put b r.2)

/-- Does a fetch of a stream's blocks wait for a request that reached their stack before it, or for a fill of local memory (R192, R206)? -/
def State.streamBusy (s : State) (c : CoreId) (st bc : Nat) (halves : List Nat) : Bool :=
  let v := (s.core c).vx
  match v.trefs.getD st none with
  | none => false
  | some t =>
    !(sameAsOutput v.desc st) && s.blocksBusy c ((halves.filter (fun h => !(v.ins.any (fun e => e.1 == [st, bc, h])))).map (fun h =>
      (t, (vxOrg v.desc v.ix).1 + 2 * v.band + h, (vxOrg v.desc v.ix).2 + bc)))

/-- Does an element of an input stream lie in memory that an output with another index covers (R156). -/
def State.overlapped (s : State) (c : CoreId) (v : Vx) (st er ec : Nat) : Bool :=
  if st ≥ 2 ∨ sameAsOutput v.desc st then false
  else
    match v.trefs.getD st none with
    | none => false
    | some t =>
      let hit (a n : Nat) : Bool :=
        match s.physOf c t.space a with
        | some p => v.outs.any (fun o => decide (p < o.2.1 + o.2.2 ∧ o.2.1 < p + n))
        | none => false
      hit (elemAddr t er ec) ((fmtBits t.f + 7) / 8) ||
        (t.scaled && hit (t.scales (er / 32) (ec / 32) + 4 * (er % 32 / 8) + ec % 32 / 8) 1)

/-- A buffer element of an output stream as a binary32 code; what was never put there is +0. -/
def bufGet (v : Vx) (st bc row col : Nat) : Nat := tget 0 v.buf (bufKey st v.band bc row col) / 2

/-- LDS (R154, R155, R156, R170). -/
def State.laneLds (s : State) (c : CoreId) (ev : LaneEvent) : State :=
  s.laneStep c 0x0A ev (fun w s =>
    let v := (s.core c).vx
    let st := iB w % 4
    let col := if (iB w).testBit 2 then iC w else v.col
    let bc := col / 32
    let lanes := enabled v w
    if st ≥ 2 ∧ (s.lastPass c ∨ (isRed v.desc ∧ st = 2)) then
      .next (each lanes (fun l s => s.setVreg c l (iD w) (bufGet v st bc l (col % 32))) s)
    else
      let halves := [0, 1].filter (fun h => lanes.any (fun l => l / 32 == h))
      let r := loopE halves.length (fun i s => s.fetchStream c st bc (halves.getD i 0)) s
      if s.streamBusy c st bc halves then .wait
      else match r.1 with
      | .error code => .fail r.2 code
      | .ok _ =>
        let s := r.2
        let ins := (s.core c).vx.ins
        let (bi, bj) := vxOrg v.desc v.ix
        .next (each lanes (fun l s =>
          if s.overlapped c v st (32 * bi + 64 * v.band + l) (32 * bj + col) then
            let f := s.fresh
            f.2.setVreg c l (iD w) f.1
          else s.setVreg c l (iD w) ((tget [] ins [st, bc, l / 32]).getD (elemIndex (l % 32) (col % 32)) 0)) s))

/-- STS (R155, R173 cause 5): it waits while its stream's write-back of a block column is not done. -/
def State.laneSts (s : State) (c : CoreId) (ev : LaneEvent) : State :=
  s.laneStep c 0x0B ev (fun w s =>
    let v := (s.core c).vx
    let st := iB w % 4
    let col := if (iB w).testBit 2 then iC w else v.col
    let lanes := enabled v w
    if v.wb.any (fun e => e.1 == st) then .wait
    else if !(s.lastPass c) ∧ !lanes.isEmpty then
      .fail (s.vxReport c v.addr (dOp v.desc) 0x1205 5 v.pc v.section_ v.band 2) 0x1205
    else
      let key (l : Nat) : Key := bufKey st v.band (col / 32) l (col % 32)
      .next ((each lanes (fun l s => s.putOut c (key l) (s.vreg c l (iA w))) s).onCore c (fun k => { k with vx := { k.vx with
        buf := each lanes (fun l b => tset 0 b (key l) (2 * s.vreg c l (iA w) + 1)) k.vx.buf } })))

/-- The larger of two binary32 values: NaN if either is NaN, −0 below +0 (R161). -/
def maxNum (a b : Num) : Num :=
  if isNan a || isNan b then .nan
  else if ltNum a b then b else if ltNum b a then a
  else match a with | .fin true _ _ => b | _ => a

/-- The smaller of two values (R161). -/
def minNum (a b : Num) : Num :=
  if isNan a || isNan b then .nan
  else if ltNum a b then a else if ltNum b a then b
  else match a with | .fin true _ _ => a | _ => b

/-- The result of a VREDUCE over its terms (R170, R72); one with no term is the identity. -/
def redResult (op nonce : Nat) (l : List Nat) : Nat :=
  match op with
  | 0 => if l.isEmpty then 0 else sumBin32 nonce (l.map ofB32)
  | 1 => toB32 ((l.map ofB32).foldl maxNum (.inf true))
  | 2 => toB32 ((l.map ofB32).foldl minNum (.inf false))
  | _ => toB32 ((l.map (fun x => absNum (ofB32 x))).foldl maxNum (.fin false 0 0))

/-- The word of the stream 3 buffer that holds the partial result of an element column (R170): column c in word c, which R170 does not place (DESIGN CHOICE, log 65). -/
def partAddr (n : Nat) : Nat := outAddr 3 0 0 0 + 4 * n

/-- A result of a VREDUCE written to its element of TOUT1 (R170): a column's, as the stream 3 buffer holds it. -/
def State.writeResult (s : State) (c : CoreId) (n : Nat) : Except Nat Unit × State :=
  let v := (s.core c).vx
  match v.trefs.getD 3 none with
  | none => (.ok (), s)
  | some t =>
    let l := tget [] v.parts [n]
    let r := if redAxis v.desc = 1 ∧ !l.isEmpty then s.eng c (partAddr n) else redResult (redOp v.desc) s.nonce l
    let e := redElem v.desc v.ix n
    ({ s with nonce := s.nonce + 1 }).spaceWrite c (vxWho v) t.space (elemAddr t e.1 e.2) (natLe r 4)

/-- The result an element of a block column contributes to. -/
def partIx (d band bc row col : Nat) : Nat := match redAxis d with | 0 => 64 * band + row | 1 => 32 * bc + col | _ => 0

/-- The combination of a block column of a VREDUCE (R170), with the partial results of its element columns, and the results that are then complete. -/
def State.combine (s : State) (c : CoreId) (band bc : Nat) : Except Nat Unit × State :=
  let v := (s.core c).vx
  let terms := v.buf.filter (fun e => e.1.take 3 == [2, band, bc] && decide (e.2 % 2 = 1))
  let parts := terms.foldl (fun p e =>
    let k : Key := [partIx v.desc band bc (e.1.getD 3 0) (e.1.getD 4 0)]
    tset [] p k (tget [] p k ++ [e.2 / 2])) v.parts
  let s := s.onCore c (fun k => { k with vx := { k.vx with parts := parts, buf := k.vx.buf.filter (fun e => !(e.1.take 3 == [2, band, bc])) } })
  let s := if redAxis v.desc = 1 then
      loopN 32 (fun i s =>
        let l := tget [] parts [32 * bc + i]
        if l.isEmpty then s
        else { s.engSet c (partAddr (32 * bc + i)) (redResult (redOp v.desc) s.nonce l) with nonce := s.nonce + 1 }) s
    else s
  if bc ≠ 0 then (.ok (), s)
  else if redAxis v.desc = 0 then loopE (32 * bandRows v.desc band) (fun r s => s.writeResult c (64 * band + r)) s
  else if band + 1 = vxBands v.desc then loopE (redCount v.desc) (fun n s => s.writeResult c n) s
  else (.ok (), s)

/-- Bytes of a block that stream 2 writes, those that stream 3 has written kept (R156). -/
def State.keepThird (s : State) (c : CoreId) (v : Vx) (space a : Nat) (bs : List Byte) : List Byte :=
  if v.done3.isEmpty then bs
  else bs.mapIdx (fun i b =>
    match s.physOf c space (a + i) with
    | some p =>
      if v.done3.any (fun r => decide (r.1 ≤ p ∧ p < r.1 + r.2)) then
        (if p < 2 ^ 60 then mget s.mem p else if p < 2 ^ 61 then mget s.cmem (p - 2 ^ 60) else mget s.dmem (p - 2 ^ 61))
      else b
    | none => b)

/-- The write-back of a block column of an output stream (R155). -/
def State.writeColumn (s : State) (c : CoreId) (st band bc : Nat) : Except Nat Unit × State :=
  let v := (s.core c).vx
  match v.trefs.getD st none with
  | none => (.ok (), s)
  | some t =>
    let (bi, bj) := vxOrg v.desc v.ix
    let r := loopE (bandRows v.desc band) (fun h s =>
      let get (k : Nat) : Nat := tget 0 v.buf (bufKey st band bc (32 * h + k / 32) (k % 32))
      let l := (List.range 1024).map get
      if !(l.any (fun x => decide (x % 2 = 1))) then (.ok (), s)
      else
        let (sc, bs, g) := convertBlock t.f t.scaled (v.desc.testBit 352) (v.desc.testBit 353) (l.map (fun x => ofB32 (x / 2))) (s.core c).gen
        let s := s.onCore c (fun k => { k with gen := g })
        let i := bi + 2 * band + h
        let j := bj + bc
        let ovr := st = 2 ∧ (v.trefs.getD 3 none).isSome ∧ ¬ (isRed v.desc)
        let bs := if ovr then s.keepThird c (s.core c).vx t.space (t.block i j) bs else bs
        let sc := if ovr then s.keepThird c (s.core c).vx t.space (t.scales i j) sc else sc
        let s := if st = 3 then
            s.onCore c (fun k => { k with vx := { k.vx with done3 := k.vx.done3 ++ s.physPieces c t.space (t.block i j, bs.length) ++
              (if t.scaled then s.physPieces c t.space (t.scales i j, 16) else []) } })
          else s
        s.writeBlock c (vxWho v) t i j bs sc) s
    (r.1, r.2.onCore c (fun k => { k with vx := { k.vx with buf := k.vx.buf.filter (fun e => !(e.1.take 3 == [st, band, bc])) } }))

/-- Does the write-back of a block column wait for memory (R192, R206, R231)? -/
def State.columnBusy (s : State) (c : CoreId) (st band bc : Nat) : Bool :=
  let v := (s.core c).vx
  match v.trefs.getD st none with
  | none => false
  | some t =>
    let l := (List.range (bandRows v.desc band)).map (fun h => (t, (vxOrg v.desc v.ix).1 + 2 * band + h, (vxOrg v.desc v.ix).2 + bc))
    !(isRed v.desc) && (s.blocksBusy c l || s.copyHeld c (l.map (fun (t, i, j) => ⟨t, i, j, 1, 1⟩)))

/-- STREAM_WRITEBACK_DONE (R155, R170, R206): the oldest block column waiting is converted and written, or combined. -/
def State.streamWriteback (s : State) (c : CoreId) (ev : LaneEvent) : State :=
  let v := (s.core c).vx
  match v.wb with
  | [] => s
  | (st, band, bc) :: rest =>
    match (match ev with | .parity a => if engStore a = some 8 then some a else none | _ => none) with
    | some a => s.vxParity c a
    | none =>
     if s.columnBusy c st band bc then s
     else
      let r := if isRed v.desc then s.combine c band bc else s.writeColumn c st band bc
      State.orFail c r (fun s =>
        let s := s.onCore c (fun k => { k with vx := { k.vx with wb := rest } })
        if rest.isEmpty ∧ (s.core c).vx.section_ = 3 then s.vxFinish c else s)

/-- Does a vector descriptor wait for a fill of local memory it reaches, or for a request that reached its program image before it (R192, R206). -/
def State.vxBusy (s : State) (c : CoreId) (e : Issued) : Bool :=
  (e.desc.testBit 130 && s.panelHeld c.site [(df e.desc 18 47 0, 4 * df e.desc 24 15 0)]) ||
  e.trefs.any (fun t => match t with
    | none => false
    | some t => s.localBusy c t.space t.spans)

/-- The lane program of a descriptor, loaded first where PLOAD asks for it (R151, R173): the code that refuses it. -/
def State.loadProg (s : State) (c : CoreId) (e : Issued) : Except Nat Unit × State :=
  let d := e.desc
  let n := df d 16 1 0
  let bad (s : State) (code cause idx sec : Nat) : Except Nat Unit × State := (.error code, s.vxReport c e.addr (dOp d) code cause idx sec 0 2)
  if d.testBit 130 then
    let s := s.wr (slotLenLoc c n) 0
    let plen := df d 24 15 0
    let a := df d 18 47 0
    if plen = 0 ∨ plen > 512 ∨ a % 64 ≠ 0 then bad s 0x1203 1 0 0
    else
      let r := s.readImage c (whoOf e) a plen
      match r.1 with
      | .error _ => bad r.2 0x1203 7 0 0
      | .ok ws =>
        match imageCause (isRed d) ws with
        | (0, _) =>
          (.ok (), ((r.2.putProg c n ws).wr (slotLenLoc c n) plen).onCore c (fun k => { k with slotAddr := k.slotAddr.set n a }))
        | (cause, i) => bad r.2 0x1203 cause i (if cause ≤ 2 then 0 else (sectionOf (ws.headD 0) plen i).2.2)
  else if s.rd (slotLenLoc c n) = 0 then bad s 0x1204 0 0 0
  else
    let r := s.checkSlot c (whoOf e) n (fun ws => decide (imageCause (isRed d) ws = (0, 0)))
    (if r.1 then .ok () else .error 0x2107, r.2)

/-- VRUN and VREDUCE (R149, R151, R152, R156, R173): the program, its streams, cleared registers, and the first band. -/
def State.startVector (s : State) (c : CoreId) (op : Nat) : State :=
  if (s.core c).vx.active then s
  else
    match runnable (s.core c) op with
    | none => s
    | some e =>
      if e.phase ≠ .waiting ∨ s.vxBusy c e then s
      else
        let d := e.desc
        let n := df d 16 1 0
        let r := s.loadProg c e
        match r.1 with
        | .error code => r.2.badIssued c e.id code
        | .ok _ =>
          let s := r.2
          let plen := s.rd (slotLenLoc c n)
          let hdr := s.progWord c n 0
          match streamCause (isRed d) hdr plen e.trefs (s.progInstrs c n plen) with
          | some (cause, i) =>
            (s.vxReport c e.addr op 0x1205 cause i (sectionOf hdr plen i).2.2 0 2).badIssued c e.id 0x1205
          | none =>
            let q := s.snapshot c e
            match q.1 with
            | .error code => q.2.badIssued c e.id code
            | .ok snap =>
              let s := (q.2.onIssued c e.id (fun x => { x with phase := .running })).onCore c (fun k => { k with bufGen := 1 })
              let (bi, bj) := vxOrg d e.ix
              let s := each [0, 1] (fun p s => match e.trefs.getD p none with
                | some t => s.prefetchStart c ⟨t, bi, bj, vxNr d, vxNc d⟩
                | none => s) s
              let s := (s.engZero c (laneAddr 0 0) 0x2000).engZero c (latchAddr 0 0) 0x800
              let s := s.setVx c { vxReset with
                active := true, id := e.id, addr := e.addr, desc := d, ix := e.ix, trefs := e.trefs, shadow := s.on (F.VX_CFG_SHADOW_EN.core c),
                section_ := 0, snap := snap, outs := s.outPieces c d e.ix e.trefs }
              s.enterBand c 0

end Sys2Proof.Machine
end

