-- ==== Sys2Proof/Machine/Buffers.lean ====
section
/-! DEFINITION. Core memory and die memory as their own units see them: accesses and parity (R180, R185, R195), zero-fills and scrubs (R192, R202), and the debug window (R200). -/

namespace Sys2Proof.Machine

/-- The requester of an access made for an issued descriptor (R198). -/
def State.whoFor (s : State) (c : CoreId) (id : Nat) : Who :=
  match (s.core c).window.find? (fun e => e.id == id) with
  | some e => whoOf e
  | none => { op := 0, daddr := 0, req := 5 }

/-- CORE_MEMORY_ACCESS (R180, R192, R195): an access that has won its bank. A write stores its data, a read delivers it; `fails` is how many times in a row the word at the address fails parity. -/
def State.coreMemAccess (s : State) (c : CoreId) (addr len : Nat) (data : Option (List Byte)) (fails id : Nat) : State :=
  if addr + len > 0x400000 ∨ s.on (F.CB_STAT_ZEROING.core c) then s
  else
    match data with
    | some bs => s.corePut c addr (bs.take len)
    | none =>
      let deliver (s : State) : State := s.send (.localData c.site c.slot 0 addr (mgetN s.cmem (coreAddr c addr) len))
      if fails ≥ 2 ∨ (s.badWord 0 (coreAddr c addr) len).isSome then
        let a := (s.badWord 0 (coreAddr c addr) len).getD (coreAddr c addr) - coreAddr c 0
        ((s.setBad 0 (coreAddr c a)).cmLost c a (s.whoFor c id)).badIssued c id 0x2101
      else if fails = 1 then
        deliver ((s.bump (F.CB_RECOV_COUNT.core c)).parityRecord c 0x2104 0 0 addr (s.cmResident c addr) (s.whoFor c id))
      else deliver s

/-- Is a die-memory address behind a fill or scrub in progress (R192, R202). -/
def State.dieBusy (s : State) (site addr : Nat) : Bool :=
  !(s.on (F.PG_STAT_READY.at site 9)) || s.on (F.DIEMEM_REGION_SCRUB.at site 0 (addr / 0x100000))

/-- DIEMEM_SLOT_ACCESS (R185, R195): an access performed in its core's slot; a word that fails parity is re-read in the core's next slot. -/
def State.dieMemAccess (s : State) (c : CoreId) (addr len : Nat) (data : Option (List Byte)) (fails : Bool) (id : Nat) : State :=
  if addr + len > 0x3000000 ∨ s.dieBusy c.site addr then s
  else
    match data with
    | some bs => s.diePut c.site addr (bs.take len)
    | none =>
      match s.badWord 1 (dieAddr c.site addr) len with
      | some k => { s with dmReread := s.dmReread ++ [⟨c.site, c.slot, k - dieAddr c.site 0, id, addr, len⟩] }
      | none =>
        if fails then { s with dmReread := s.dmReread ++ [⟨c.site, c.slot, addr, id, addr, len⟩] }
        else s.send (.localData c.site c.slot 1 addr (mgetN s.dmem (dieAddr c.site addr) len))

/-- DIEMEM_REREAD (R195): the re-read of the oldest failing word of a core recovers it, and its access completes, or loses it. -/
def State.dieReread (s : State) (c : CoreId) (good : Bool) : State :=
  match s.dmReread.find? (fun e => decide (e.site = c.site ∧ e.slot = c.slot)) with
  | none => s
  | some e =>
    let a := e.bad
    let id := e.id
    let s := { s with dmReread := s.dmReread.erase e }
    if good ∧ (s.badWord 1 (dieAddr c.site a) 4).isNone then
      ((s.bump (F.DIEMEM_RECOV_COUNT.at c.site)).parityRecord c 0x2104 0 1 a (s.dmResident c.site a) (s.whoFor c id)).send
        (.localData c.site c.slot 1 e.addr (mgetN s.dmem (dieAddr c.site e.addr) e.len))
    else ((s.setBad 1 (dieAddr c.site a)).dmLost c a (s.whoFor c id)).badIssued c id 0x2102

/-- A die region holds zeros. -/
def State.zeroRegion (s : State) (site g : Nat) : State :=
  { s with dmem := mzero s.dmem (dieAddr site (g * 0x100000)) 0x100000,
           parBad := s.parBad.filter (fun e => decide (¬ (e.1 = 1 ∧ dieAddr site (g * 0x100000) ≤ e.2 ∧ e.2 < dieAddr site ((g + 1) * 0x100000)))) }

/-- A scrub of a region begins (R202). -/
def State.scrubStart (s : State) (site g : Nat) : State :=
  (s.wr (F.DIEMEM_REGION_SCRUB.at site 0 g) 1).wr (F.DIEMEM_STAT_SCRUBBING.at site) 1

/-- A region's assignment as one number, 0 for none. -/
def regionPack (owner valid resident : Nat) : Nat := 1 + owner + valid * 1024 + resident * 2048

/-- DIEMEM_REGION_WRITE (R201, R202): a write to the selected region's register. -/
def State.regionWrite (s : State) (site v : Nat) : State :=
  let g := s.rd (F.DIEMEM_SEL_REGION.at site)
  if g ≥ 48 ∨ s.on (F.DIEMEM_REGION_SCRUB.at site 0 g) then s
  else
    let s := if v.testBit 19 then s.wr (F.DIEMEM_REGION_RES_LOST.at site 0 g) 0 else s
    let owner := bits v 9 0
    let valid := bits v 16 16
    let resident := bits v 17 17
    if owner ≠ s.rd (F.DIEMEM_REGION_OWNER.at site 0 g) ∨ valid ≠ s.rd (F.DIEMEM_REGION_VALID.at site 0 g) then
      { s.scrubStart site g with regionPend := tset 0 s.regionPend [site, g] (regionPack owner valid resident) }
    else
      let s := s.wr (F.DIEMEM_REGION_RESIDENT.at site 0 g) resident
      if v.testBit 18 then s.scrubStart site g else s

/-- DIEMEM_SCRUB (R202): a write of SCRUB alone to a region of a die. -/
def State.scrubWrite (s : State) (site g : Nat) : State :=
  if g ≥ 48 ∨ s.on (F.DIEMEM_REGION_SCRUB.at site 0 g) then s else s.scrubStart site g

/-- SCRUB_DONE (R192, R202): the scrub of region g ends, or with g = 48 the fill after a reset; pending settings take effect. -/
def State.scrubDone (s : State) (site g : Nat) : State :=
  if g ≥ 48 then
    if s.on (F.PG_STAT_READY.at site 9) ∨ !(s.on (F.DIEMEM_STAT_SCRUBBING.at site)) then s
    else (s.wr (F.PG_STAT_READY.at site 9) 1).wr (F.DIEMEM_STAT_SCRUBBING.at site)
      (bnat ((List.range 48).any (fun h => s.on (F.DIEMEM_REGION_SCRUB.at site 0 h))))
  else if !(s.on (F.DIEMEM_REGION_SCRUB.at site 0 g)) then s
  else
    let s := (s.zeroRegion site g).wr (F.DIEMEM_REGION_SCRUB.at site 0 g) 0
    let p := tget 0 s.regionPend [site, g]
    let s := if p = 0 then s
      else
        let s := ((s.wr (F.DIEMEM_REGION_OWNER.at site 0 g) ((p - 1) % 1024)).wr (F.DIEMEM_REGION_VALID.at site 0 g) ((p - 1) / 1024 % 2)).wr
          (F.DIEMEM_REGION_RESIDENT.at site 0 g) ((p - 1) / 2048 % 2)
        { s with regionPend := tset 0 s.regionPend [site, g] 0 }
    s.wr (F.DIEMEM_STAT_SCRUBBING.at site)
      (bnat ((List.range 48).any (fun h => s.on (F.DIEMEM_REGION_SCRUB.at site 0 h)) || !(s.on (F.PG_STAT_READY.at site 9))))

/-- CORE_ZERO_FILL_DONE (R192). -/
def State.zeroFillDone (s : State) (c : CoreId) : State := s.wr (F.CB_STAT_ZEROING.core c) 0

/-- A word of an engine store read through the debug window (R178, R179, R200); a tile whose VALID is 0 has undefined contents once an engine has run: a free value (R80, log 12). -/
def State.engineWord (s : State) (c : CoreId) (a : Nat) : Nat × State :=
  if 0x460000 ≤ a ∧ a < 0x4A0000 ∧ !(s.tileValid c ((a - 0x460000) / 16384)) ∧ (s.core c).bufGen ≠ 0 then s.fresh else (s.eng c a, s)

/-- An access to CB_DBG_DATA (R196, R199, R200): the value read and the state after. PAR stands as it was after a refused access and after a write: the spec does not say (DESIGN CHOICE, log 63). -/
def State.dbgData (s : State) (c : CoreId) (w : Option Nat) : Nat × State :=
  let a := (s.rd (F.CB_DBG_ADDR_ADDR.core c)) <<< 2
  let st := s.coreState c
  let quiet := decide (st = 1 ∨ st = 4 ∨ st = 5)
  let inc (s : State) : State := if s.on (F.CB_DBG_ADDR_INC.core c) then s.wr (F.CB_DBG_ADDR_ADDR.core c) (a / 4 + 1) else s
  let stat (par denied : Bool) (s : State) : State := (s.wr (F.CB_DBG_STAT_PAR.core c) (bnat par)).wr (F.CB_DBG_STAT_DENIED.core c) (bnat denied)
  let par := s.on (F.CB_DBG_STAT_PAR.core c)
  match w with
  | some v =>
    if a < 0x400000 ∧ (st = 1 ∨ st = 5) then (0, inc (stat par false (s.corePut c a (natLe v 4))))
    else (0, inc (stat par true s))
  | none =>
    if a < 0x400000 then
      (mnat s.cmem (coreAddr c a) 4, inc (stat (s.badWord 0 (coreAddr c a) 4).isSome false s))
    else if a < 0x4B2000 ∧ quiet then
      let r := s.engineWord c a
      (r.1, inc (stat (s.badWord 2 (coreAddr c a) 4).isSome false r.2))
    else (0, inc (stat par true s))

/-- CB_DBG_DATA_ACCESS (R200): a read's value goes to the requester. -/
def State.dbgAccess (s : State) (c : CoreId) (w : Option Nat) : State :=
  let r := s.dbgData c w
  if w.isSome then r.2 else r.2.send (.regValue c.site (0x43 + 4 * c.slot) 0x10C r.1)

end Sys2Proof.Machine
end

