-- ==== Sys2Proof/Machine/Cells.lean ====
section
/-! DEFINITION. The steward's work on sync cells and translation tables: cells of a pre-empted context released and restored (R295), mappings removed (R292), and the changes that R306 holds back. -/

namespace Sys2Proof.Machine

/-- A context's own state at its start. -/
def ctxInit : CtxSt := { cores := [], wait := [], binding := false, remap := false, pre := 0, blocked := 0, released := [], savedAt := 0, was := [] }

/-- A context's own state. -/
def State.cx (s : State) (ctx : Nat) : CtxSt := tget ctxInit s.ctxs [ctx]

/-- A context's own state changed. -/
def State.onCx (s : State) (ctx : Nat) (f : CtxSt → CtxSt) : State := { s with ctxs := tset ctxInit s.ctxs [ctx] (f (s.cx ctx)) }

/-- CX_STATE.STATE set. -/
def State.setCx (s : State) (ctx v : Nat) : State := s.wr (F.CX_STATE_STATE.at stw 0 ctx) v

/-- A number put before the first of a greater rank. -/
def insertBy (rank : Nat → Nat) (x : Nat) : List Nat → List Nat
  | [] => [x]
  | y :: r => if rank x ≤ rank y then x :: y :: r else y :: insertBy rank x r

/-- The words of a context's translation table, by virtual sync ID, read sector by sector (R280). -/
def State.readXlt (s : State) (ctx : Nat) : List (Nat × Nat) × State :=
  loopN 256 (fun k (a : List (Nat × Nat) × State) =>
    let r := a.2.stwRead (s.rd (F.CX_SXLT.at stw 0 ctx) + 64 * k) 64
    match r.1 with
    | .error _ => (a.1, r.2)
    | .ok b => (a.1 ++ (pieces 4 16 b).mapIdx (fun i w => (16 * k + i, leNat w)), r.2)) ([], s)

/-- An entry of a context's translation table written (R280). -/
def State.setXlt (s : State) (ctx vid w : Nat) : State := (s.stwWrite (s.rd (F.CX_SXLT.at stw 0 ctx) + 4 * vid) (natLe w 4)).2

/-- The entries of a context's translation table that a test names removed (R292). -/
def State.dropEntries (s : State) (ctx : Nat) (p : Nat → Bool) : State :=
  let r := s.readXlt ctx
  each (r.1.filter (fun e => e.2.testBit 31 && p e.2)) (fun e s => s.setXlt ctx e.1 0) r.2

/-- The translation caches of a partition's dies invalidated (R281). -/
def State.invAll (s : State) (part : Nat) : State := each (s.ptDies part) (fun d s => s.xltInv d) s

/-- Does an entry name a cell of a list (R280). -/
def entryIn (l : List (Nat × Nat)) (w : Nat) : Bool := l.contains (bits w 8 0, bits w 19 9)

/-- Mappings of cells removed from the tables of the partition's other contexts, with the dies' caches invalidated (R292, R296 step 4). -/
def State.unmapCells (s : State) (ctx : Nat) (l : List (Nat × Nat)) : State :=
  if l.isEmpty then s
  else
    let p := s.cxPart ctx
    let others := (List.range 1024).filter (fun x => decide (x ≠ ctx ∧ s.cxPart x = p ∧ s.cxState x ≠ 0))
    (each others (fun x s => s.dropEntries x (entryIn l)) s).invAll p

/-- The cells a context owns on the dies of its partition (R296). -/
def State.ownCells (s : State) (ctx : Nat) : List (Nat × Nat) :=
  (s.ptDies (s.cxPart ctx)).flatMap (fun d => ((s.validCells d).filter (fun i => decide (s.rd (F.SY_OWNER_OWNER.at d 0 i) = ctx))).map (fun i => (d, i)))

/-- A context leaves its partition: the others' entries for the cells it shares, and its own for cells of other contexts, are removed (R292). -/
def State.leavePart (s : State) (ctx : Nat) : State :=
  let shared := (s.ownCells ctx).filter (fun e => s.on (F.SY_OWNER_SHARED.at e.1 0 e.2))
  ((s.unmapCells ctx shared).dropEntries ctx (fun w => w.testBit 20)).invAll (s.cxPart ctx)

/-- The cells on the dies of a partition that are assigned to no context. -/
def State.freeCells (s : State) (part : Nat) : List (Nat × Nat) :=
  (s.ptDies part).flatMap (fun d => ((List.range 2048).filter (fun i => !(s.cellValid d i))).map (fun i => (d, i)))

/-- May a cell be released: owned by a SAVED context, not SHARED, no waiter, BAR_N 0 (R295). -/
def State.releasable (s : State) (d i : Nat) : Bool :=
  s.cellValid d i && decide (s.cxState (s.rd (F.SY_OWNER_OWNER.at d 0 i)) = 4) && !(s.on (F.SY_OWNER_SHARED.at d 0 i)) &&
    (s.cellWaiters d i).isEmpty && decide (s.rd (F.SY_BARN_N.at d 0 i) = 0)

/-- The 16-byte record of a cell (R295). -/
def State.cellRecord (s : State) (d i : Nat) : List Byte :=
  natLe (s.cellValue d i) 3 ++ natLe (s.rd (F.SY_STEPVAL_VALUE.at d 0 i)) 3 ++
    natLe (s.rd (F.SY_LAST_SITE.at d 0 i) + s.rd (F.SY_LAST_SLOT.at d 0 i) <<< 9) 2 ++ natLe (s.rd (F.SY_LAST_TIME.at d 0 i)) 8

/-- Where the record of a released cell stands: the context part of the save area, by virtual sync ID (R312). -/
def State.recordAddr (s : State) (ctx vid : Nat) : Nat := (s.rd (F.CX_SAVE.at stw 0 ctx)) <<< 16 + 16 * vid

/-- A cell released: its record to the save area, CLEAR, VALID 0 (R295); the virtual IDs that name it are kept, the lowest of them first, whose record it is (DESIGN CHOICE, log 63). A cell that no entry names has no place for its record and stays, as does one whose record cannot be written; the answer says whether it was released. -/
def State.releaseCell (s : State) (d i : Nat) : Bool × State :=
  let ctx := s.rd (F.SY_OWNER_OWNER.at d 0 i)
  let r := s.readXlt ctx
  match (r.1.filter (fun e => e.2.testBit 31 && entryIn [(d, i)] e.2)).map (fun e => e.1) with
  | [] => (false, r.2)
  | vid :: more =>
    let w := r.2.stwWrite (r.2.recordAddr ctx vid) (r.2.cellRecord d i)
    match w.1 with
    | .error _ => (false, w.2)
    | .ok _ =>
      let s := (w.2.clearCell d i).wr (F.SY_OWNER_VALID.at d 0 i) 0
      (true, s.onCx ctx (fun k => { k with released := k.released ++ [vid :: more] }))

/-- The contexts of a partition that are SAVED, the longest SAVED first, but for one (R295). -/
def State.savedOrder (s : State) (part ctx : Nat) : List Nat :=
  ((s.ctxsIn part [4]).filter (fun x => decide (x ≠ ctx))).foldr (insertBy (fun x => (s.cx x).savedAt)) []

/-- The context whose cells are released first: of the SAVED contexts of a partition that have a cell to release, the one SAVED longest (R295; DESIGN CHOICE, log 63). -/
def State.releaseFrom (s : State) (part : Nat) : Option Nat :=
  (s.savedOrder part 1024).find? (fun x => (s.ownCells x).any (fun e => s.releasable e.1 e.2))

/-- A free cell on the dies of a partition for a context: any free cell (a free value, log 12), else one released by the context SAVED longest that has a cell to release (R295). -/
def State.takeCell (s : State) (part ctx : Nat) : Option (Nat × Nat) × State :=
  match s.freeCells part with
  | c :: l =>
    let f := s.fresh
    (some ((c :: l).getD (f.1 % (l.length + 1)) c), f.2)
  | [] =>
    ((s.savedOrder part ctx).flatMap s.ownCells).foldl (fun (a : Option (Nat × Nat) × State) e =>
      if a.1.isSome ∨ !(a.2.releasable e.1 e.2) then a
      else
        let r := a.2.releaseCell e.1 e.2
        (if r.1 then some e else none, r.2)) (none, s)

/-- One released cell restored: CLEAR, the values of its record, OWNER and VALID, and its translation entries (R295). -/
def State.putCell (s : State) (ctx d i : Nat) (vids : List Nat) (b : List Byte) : State :=
  let f (k n : Nat) : Nat := leNat ((b.drop k).take n)
  let s := s.clearCell d i
  let s := (s.wr (F.SY_VALUE_VALUE.at d 0 i) (f 0 3)).wr (F.SY_STEPVAL_VALUE.at d 0 i) (f 3 3)
  let s := ((s.wr (F.SY_LAST_SITE.at d 0 i) (bits (f 6 2) 8 0)).wr (F.SY_LAST_SLOT.at d 0 i) (bits (f 6 2) 13 9)).wr (F.SY_LAST_TIME.at d 0 i) (f 8 8)
  let s := ((s.wr (F.SY_OWNER_OWNER.at d 0 i) ctx).wr (F.SY_OWNER_SHARED.at d 0 i) 0).wr (F.SY_OWNER_VALID.at d 0 i) 1
  each vids (fun v s => s.setXlt ctx v (d + i <<< 9 + 2 ^ 31)) s

/-- The released cells of a context restored one after another, as far as cells can be had (R295): whether a record's read failed. -/
def State.restoreCells (s : State) (ctx : Nat) : Bool × State :=
  let part := s.cxPart ctx
  let l := (s.cx ctx).released
  let r := l.foldl (fun (a : Bool × State) vids =>
    if a.1 then a
    else
      let t := a.2.takeCell part ctx
      match t.1 with
      | none => (false, t.2)
      | some (d, i) =>
        let q := t.2.stwRead (t.2.recordAddr ctx (vids.headD 0)) 16
        match q.1 with
        | .error _ => (true, q.2)
        | .ok b => (false, (q.2.putCell ctx d i vids b).onCx ctx (fun k => { k with released := k.released.erase vids }))) (false, s)
  (r.1, if l.isEmpty then s else r.2.invAll part)

/-- Does R306 hold a change at a site back: its partition has a context ACTIVE, SAVING or RESTORING. -/
def State.siteBusy (s : State) (site : Nat) : Bool := match s.partOfSite site with | some p => s.ptBusy p | none => false

/-- A register of a die that only the steward changes, and only while R306 lets it: its writes are held back till then. -/
def State.heldBack (s : State) (site master : Nat) : Bool := isSteward master && s.siteBusy site

/-- DIEMEM_REGION written by a master (R202, R306): while R306 holds the steward's change of the assignment back, OWNER and VALID keep their values and the rest of the word acts. -/
def State.regionSet (s : State) (site v master : Nat) : State :=
  let g := s.rd (F.DIEMEM_SEL_REGION.at site)
  let keep := s.rd (F.DIEMEM_REGION_OWNER.at site 0 g) + s.rd (F.DIEMEM_REGION_VALID.at site 0 g) <<< 16
  s.regionWrite site (if s.heldBack site master then v - (v &&& 0x103FF) + keep else v)

/-- CX_CFG written: a context whose PART changes leaves its partition (R292, R307). -/
def State.partChange (s : State) (w : Nat) : State :=
  if s.cxState s.cxSel ≠ 0 ∧ bits w 5 0 ≠ s.cxPart s.cxSel then s.leavePart s.cxSel else s

end Sys2Proof.Machine
end

