-- ==== Sys2Proof/Machine/Contexts.lean ====
section
/-! DEFINITION. Contexts (R307 to R317): binding, the save area, pre-emption, reset and tear-down, as the steward and the cores perform them. -/

namespace Sys2Proof.Machine

/-- The record of a queue or context code (R335). -/
def State.cxRecord (s : State) (code ctx info0 info1 : Nat) : State :=
  s.report { code := code, site := s.steward, unit := 0xFF, sev := 2, master := ctx, info0 := info0, info1 := info1 }

/-- A queue's own state at its start. -/
def queueInit : QueueSt := { rd := 0, ents := [], resv := 0, pub := [], off := 0, dropAt := 0, dropN := 0 }

/-- A queue's own state. -/
def State.queue (s : State) (q : Nat) : QueueSt := tget queueInit s.queues [q]

/-- A queue's own state changed. -/
def State.onQueue (s : State) (q : Nat) (f : QueueSt → QueueSt) : State := { s with queues := tset queueInit s.queues [q] (f (s.queue q)) }

/-- The queues that hold anything. -/
def State.liveQueues (s : State) : List Nat := s.queues.map (fun e => e.1.headD 0)

/-- The context of a queue (R318). -/
def State.quCtx (s : State) (q : Nat) : Nat := s.rd (F.QU_CFG_CTX.at stw 0 q)

/-- The running entry that holds virtual core `v` of a context: its queue and the entry (R322). -/
def State.dispatchOf (s : State) (ctx v : Nat) : Option (Nat × QEnt) :=
  (s.liveQueues.filter (fun q => decide (s.quCtx q = ctx))).findSome? (fun q =>
    ((s.queue q).ents.find? (fun e => decide (e.st = 1) && e.left.contains v)).map (fun e => (q, e)))

/-- The first entry of a queue that has not started, where the queue may start one (R322, R325). -/
def State.nextEntry (s : State) (q : Nat) : Option QEnt :=
  if s.on (F.QU_CFG_ENABLE.at stw 0 q) && !(s.on (F.QU_STAT_STOPPED.at stw 0 q)) then
    match (s.queue q).ents.find? (fun e => decide (e.st = 0)) with
    | none => none
    | some e =>
      if (df e.e 0 7 0 = 2 ∨ s.on (F.QU_CFG_SERIAL.at stw 0 q)) ∧ (s.queue q).ents.any (fun x => decide (x.ix ≠ e.ix ∧ (x.st = 1 ∨ x.st = 3)) &&
          decide ((x.ix + 2 ^ 32 - s.rd (F.QU_HEAD_HEAD.at stw 0 q)) % 2 ^ 32 < (e.ix + 2 ^ 32 - s.rd (F.QU_HEAD_HEAD.at stw 0 q)) % 2 ^ 32)) then none
      else some e
  else none

/-- Has a context a dispatchable entry (R314). -/
def State.hasEntry (s : State) (ctx : Nat) : Bool :=
  s.liveQueues.any (fun q => decide (s.quCtx q = ctx) && (match s.nextEntry q with | some e => decide (df e.e 0 7 0 = 1) | none => false))

/-- Has a context a dispatch in progress (R314). -/
def State.hasDispatch (s : State) (ctx : Nat) : Bool :=
  s.liveQueues.any (fun q => decide (s.quCtx q = ctx) && (s.queue q).ents.any (fun e => decide (e.st = 1)))

/-- The in-service slots of a compute die (R28). -/
def State.slotsOf (s : State) (site : Nat) : List Nat := ones (s.rd (F.SITE_CORES_SERVICE.at site)) 18

/-- The core that a map entry binds: site substitution, slot substitution, then rotation (R508, R468). -/
def State.mapCore (s : State) (site slot : Nat) : CoreId :=
  let site := match s.substSite.find? (fun e => e.1 == site) with | some e => e.2 | none => site
  let sub := tget 0 s.substCore [site, slot]
  let slot := if sub = 0 then slot else sub - 1
  let l := s.slotsOf site
  match l.findIdx? (fun x => x == slot) with
  | none => ⟨site, slot⟩
  | some j => ⟨site, l.getD ((j + tget 0 s.rot [site]) % l.length) slot⟩

/-- The entries of a core map checked one after another: the cores, or the cause of 0x5401 and the virtual core (R309, R335). -/
def State.mapCheck (s : State) (p : Nat) : List (List Byte) → List CoreId → Except (Nat × Nat) (List CoreId)
  | [], done => .ok done
  | w :: r, done =>
    let v := leNat w
    let c := s.mapCore (bits v 8 0) (bits v 13 9)
    if !(v.testBit 31) then .error (1, done.length)
    else if done.contains c then .error (2, done.length)
    else if isDie c.site && s.inService c.site && (s.plotSet p).testBit (plotOf c.site) && (s.slotsOf c.site).contains c.slot then
      s.mapCheck p r (done ++ [c])
    else .error (3, done.length)

/-- The core map of a context read and checked (R309). -/
def State.readMap (s : State) (ctx : Nat) : Except (Nat × Nat) (List CoreId) × State :=
  let n := s.rd (F.CX_CFG_NCORES.at stw 0 ctx)
  if n = 0 ∨ n > 2048 then (.error (4, 0), s)
  else
    let r := s.stwRead (s.rd (F.CX_MAP.at stw 0 ctx)) (4 * n)
    match r.1 with
    | .error _ => (.error (5, 0), r.2)
    | .ok b => (r.2.mapCheck (s.cxPart ctx) (pieces 4 n b) [], r.2)

/-- The contexts other than one that hold some of these cores (R310). -/
def State.holders (s : State) (ctx : Nat) (l : List CoreId) : List Nat :=
  (s.ctxs.filter (fun e => decide (e.1 ≠ [ctx]) && e.2.cores.any (fun c => l.contains c))).map (fun e => e.1.headD 0)

/-- Values that a core takes from its context's record (R146, R189). -/
def State.loadCtx (s : State) (c : CoreId) (ctx : Nat) : State :=
  let s := s.wr (F.SQ_TREF.core c) (s.rd (F.CX_TREF.at stw 0 ctx) >>> 5)
  let s := s.wr (F.SQ_TREF_LIM_LIMIT.core c) (s.rd (F.CX_LIMS_TREF_LIM.at stw 0 ctx))
  let s := s.wr (F.SQ_CREC.core c) (s.rd (F.CX_CREC.at stw 0 ctx) >>> 5)
  let s := s.wr (F.SQ_CREC_LIM_LIMIT.core c) (s.rd (F.CX_LIMS_CREC_LIM.at stw 0 ctx))
  let s := s.wr (F.SQ_HDR_TMO_TMO.core c) (s.rd (F.CX_TMO_HDR_TMO.at stw 0 ctx))
  s.wr (F.CB_RES_RES.core c) (s.rd (F.CX_CFG_RES.at stw 0 ctx))

/-- A core leaves a context: every store zero-filled, tiles invalid, slots empty (R310). -/
def State.leaveContext (s : State) (c : CoreId) : State :=
  let s := s.zeroCoreMem c 0
  let s := { s with ework := tkeep s.ework (fun k => decide (k.take 2 ≠ [c.site, c.slot])),
                    outst := s.outst.filter (fun r => decide (¬ (r.site = c.site ∧ r.unit = c.slot ∧ r.why = 1))) }
  let s := { s with parBad := s.parBad.filter (fun e => decide (¬ (e.1 = 2 ∧ coreAddr c 0 ≤ e.2 ∧ e.2 < coreAddr c 0x800000))) }
  let s := (((s.mxIdle c).wr (F.MX_STAT_TILE_VALID.core c) 0).wr (F.CORE_BIND_BOUND.core c) 0).wr (F.CORE_CTL_HALT.core c) 0
  let s := s.wr (F.CB_STAT_HWM.core c) 0
  let s := loopN 4 (fun n s => s.wr (slotLenLoc c n) 0) s
  s.onCore c (fun k => { k with fetched := [], cand := none, ready := none, held := none, window := [], loops := [], calls := [], consumed := 0,
                                stopReq := .none, slotAddr := [0, 0, 0, 0], mx := mxReset, vx := vxReset, saving := 0, bufGen := 0 })

/-- The generator as the save area holds it (R312). -/
def genBytes (g : Gen) : List Byte :=
  natLe g.x 4 ++ natLe g.y 4 ++ natLe g.z 4 ++ natLe g.w 4 ++ natLe (g.held >>> 16) 2 ++ natLe (bnat g.h) 1 ++ natLe 0 13

/-- The generator read from the save area. -/
def genOf (b : List Byte) : Gen :=
  let f (i n : Nat) : Nat := leNat ((b.drop i).take n)
  { x := f 0 4, y := f 4 4, z := f 8 4, w := f 12 4, held := f 16 2 <<< 16, h := decide (f 18 1 % 2 = 1) }

/-- The save slot of a virtual core (R312). -/
def State.slotBase (s : State) (ctx v : Nat) : Nat := (s.rd (F.CX_SAVE.at stw 0 ctx)) <<< 16 + 0x10000 + 0x480000 * v

/-- 64 KiB units of core memory that a save writes (R313). -/
def State.savedUnits (s : State) (c : CoreId) : Nat := max (s.rd (F.CB_RES_RES.core c)) (s.rd (F.CB_STAT_HWM.core c))

/-- The first 608 bytes of a save slot (R125, R312). -/
def State.saveHead (s : State) (c : CoreId) : List Byte :=
  let k := s.core c
  let lens := (List.range 4).map (fun n => s.rd (slotLenLoc c n))
  seqBytes { pc := s.pc c, ix := s.ixRegs c, loops := k.loops, calls := k.calls, step := s.rd (F.SQ_STEP_NUM_STEP.core c) } k.consumed ++
    seqBytes k.stepRec 0 ++ genBytes k.gen ++
    padTo 32 (natLe (s.rd (F.MX_STAT_TILE_VALID.core c)) 2 ++ lens.flatMap (fun n => natLe n 2) ++ natLe (s.rd (F.CB_RES_RES.core c)) 1 ++
      natLe (s.savedUnits c) 1 ++ natLe (k.saving / 2) 1) ++
    (List.range 4).flatMap (fun n => natLe (if lens.getD n 0 = 0 then 0 else k.slotAddr.getD n 0) 8)

/-- The tiles, program slots and core memory that the header of a save slot records: offset in the slot and bytes (R312, R313). -/
def slotParts (h : List Byte) : List (Nat × Nat) :=
  let f (i n : Nat) : Nat := leNat ((h.drop i).take n)
  (ones (f 544 2) 16).map (fun t => (0x1000 + 0x4000 * t, 0x4000)) ++
    ((List.range 4).filter (fun n => decide (f (546 + 2 * n) 2 ≠ 0))).map (fun n => (0x41000 + 0x800 * n, 4 * f (546 + 2 * n) 2)) ++
    (if f 555 1 = 0 then [] else [(0x80000, f 555 1 * 65536)])

/-- What a save writes, piece by piece: offset in the slot and bytes (R313). -/
def State.savePieces (s : State) (c : CoreId) : List (Nat × List Byte) :=
  [(0, s.saveHead c)] ++
    ((List.range 16).filter (fun t => s.tileValid c t)).map (fun t =>
      (0x1000 + 0x4000 * t, (List.range 4096).flatMap (fun k => natLe (s.acc c t k) 4))) ++
    ((List.range 4).filter (fun n => decide (s.rd (slotLenLoc c n) ≠ 0))).map (fun n =>
      (0x41000 + 0x800 * n, (List.range (s.rd (slotLenLoc c n))).flatMap (fun w => natLe (s.progWord c n w) 4))) ++
    (if s.savedUnits c = 0 then [] else [(0x80000, mgetN s.cmem (coreAddr c 0) (s.savedUnits c * 65536))])

/-- A core's transfer to or from its save slot (R303, R313). -/
def State.saveAsker (s : State) (c : CoreId) (type : Nat) : Asker := { master := s.stewardMaster, site := c.site, slot := c.slot, type := type, op := bnat (decide (type = 2)) }

/-- Pieces written one after another, up to the first that fails. -/
def State.writePieces (s : State) (q : Asker) (base : Nat) (l : List (Nat × List Byte)) : Except Nat Unit × State :=
  l.foldl (fun (a : Except Nat Unit × State) e =>
    match a.1 with
    | .error c => (.error c, a.2)
    | .ok _ => a.2.panelWrite q (base + e.1) e.2) (.ok (), s)

/-- A core's requests are abandoned and its fence tag advances; the count abandoned (R535 step 4, R536). Its transfer numbers start again, so that no target die counts on from a transfer that is over (R262). -/
def State.drainCore (s : State) (c : CoreId) : Nat × State :=
  let mine (r : Req) : Bool := decide (r.site = c.site ∧ r.unit = c.slot)
  let n := (s.outst.filter mine).length
  let s := ({ s with outst := s.outst.filter (fun r => !(mine r)) } : State).dropHolds (fun e => decide (e.pkt.src = c.site ∧ e.pkt.sunit = c.slot)) (fun _ => true)
  let old (k : Key) : Bool := decide (k.getD 1 0 = c.site ∧ k.getD 2 0 = c.slot)
  let s : State := { s with mcGot := tkeep s.mcGot (fun k => !(old k)), mcBad := tkeep s.mcBad (fun k => !(old k)),
                            mcFrom := tkeep s.mcFrom (fun k => !(decide (k.headD 0 = c.site ∧ k.getD 1 0 = c.slot))) }
  (n, s.onCore c (fun k => { k with fence := (k.fence + 1) % 65536, mcTransfer := 0, sigs := [] }))

/-- A core acts on STOP (R498): descriptors in progress abandoned, waits withdrawn without records, tiles invalid. -/
def State.stopNow (s : State) (c : CoreId) : State :=
  let k := s.core c
  let ents := (match k.held with | some h => h.ents | none => []) ++ (match k.cand with | some cd => cd.ents | none => [])
  let s := (s.cancelEnts c ents).2
  let s := (s.mxIdle c).wr (F.MX_STAT_TILE_VALID.core c) 0
  s.onCore c (fun k => { k with cand := none, ready := none, held := none, window := [], fetched := [], consumed := 0, mx := mxReset, vx := vxReset,
                                saving := 0, stopReq := .stop })

/-- A NOTICE STOP sent to cores. -/
def State.sendStops (s : State) (l : List CoreId) : State :=
  each l (fun c s => s.tellCore c 10 (s.ctxOf c) (s.rd (F.CORE_BIND_VCORE.core c)) []) s

/-- A drain begins (R535 step 1). -/
def State.startDrain (s : State) (kind : DrainKind) (cores : List CoreId) : State :=
  { s.sendStops cores with drains := s.drains ++ [{ kind := kind, cores := cores, start := s.time }] }

/-- What a save slot holds: what the core that is still to save it would write, else what its header records. -/
def State.slotHolds (s : State) (ctx v : Nat) (c : CoreId) : List (Nat × Nat) × State :=
  if s.cxState ctx = 3 ∧ (s.cx ctx).wait.contains v then ((s.savePieces c).map (fun p => (p.1, p.2.length)), s)
  else
    let r := s.panelRead (s.saveAsker c 1) (s.slotBase ctx v) 608
    match r.1 with
    | .error _ => ([], r.2)
    | .ok h => ((0, 608) :: slotParts h, r.2)

/-- The contents of the save slots of a context whose save or restore a reset overtakes become undefined (R316): every slot holds free values where a save writes it. -/
def State.spoilSlots (s : State) (ctx : Nat) : State :=
  if ¬ (s.cxState ctx = 3 ∨ s.cxState ctx = 5) then s
  else
    each ((s.cx ctx).cores.mapIdx (fun v c => (v, c))) (fun e s =>
      let l := s.slotHolds ctx e.1 e.2
      each l.1 (fun p s =>
        let f := s.freeBytes p.2
        (f.2.panelWrite (f.2.saveAsker e.2 2) (f.2.slotBase ctx e.1 + p.1) (f.1.take p.2)).2) l.2) s

/-- CX_CMD RESET or TEARDOWN, and every reset that a rule makes of a context: its cores are stopped and drain (R317 steps 1 and 2, R316). -/
def State.ctxReset (s : State) (ctx : Nat) (tear : Bool) : State :=
  let st := s.cxState ctx
  if st = 0 then s
  else if st = 6 then
    if tear then
      { s with drains := s.drains.map (fun d => if d.kind = .ctxReset ctx then { d with kind := .ctxTeardown ctx } else d) }
    else s
  else
    let s := s.spoilSlots ctx
    let l := (s.cx ctx).cores
    let s := (s.setCx ctx 6).wr (F.CX_STATE_PRE_PEND.at stw 0 ctx) 0
    let s := s.onCx ctx (fun k => { k with wait := [], binding := false, remap := false, pre := 0, blocked := 0 })
    s.startDrain (if tear then .ctxTeardown ctx else .ctxReset ctx) l

/-- A save or restore transfer failed: 0x5402 and the reset of the context (R316). -/
def State.saveFail (s : State) (ctx v : Nat) : State := (s.cxRecord 0x5402 ctx 0 v).ctxReset ctx false

/-- A binding is tried: refused with 0x5401, left waiting while another context holds a core or a released cell finds no place (R295), or begun with a BIND to every core (R309, R310, R428); bindings wait while a graft of the partition is at its commit (R510 steps 7 and 8). -/
def State.bindTry (s : State) (ctx : Nat) : State :=
  let st := s.cxState ctx
  let gp := s.rd (F.GF_STAT_SRC.at stw)
  let gq := s.rd (F.GF_STAT_DEST.at stw)
  let graft := decide (2 ≤ s.gf.stage) && ((s.plotSet (s.cxPart ctx)).testBit gp || (s.plotSet (s.cxPart ctx)).testBit gq)
  if ¬ (st = 1 ∨ st = 4) ∨ (s.cx ctx).binding ∨ !(s.ptValid (s.cxPart ctx)) ∨ s.epochMoves ∨ graft then s
  else
    let r := s.readMap ctx
    match r.1 with
    | .error (cause, v) => r.2.cxRecord 0x5401 ctx (cause <<< 12) v
    | .ok l =>
      let s := r.2
      if !(s.holders ctx l).isEmpty then
        s.onCx ctx (fun k => { k with blocked := if k.blocked = 0 then s.time + 1 else k.blocked })
      else
        let q := s.restoreCells ctx
        let s := q.2
        if q.1 then s.saveFail ctx 0
        else if !((s.cx ctx).released.isEmpty) then s.onCx ctx (fun k => { k with blocked := if k.blocked = 0 then s.time + 1 else k.blocked })
        else
          let s := s.onCx ctx (fun k => { k with cores := l, wait := List.range l.length, binding := true, remap := false, blocked := 0 })
          let s := if st = 4 then s.setCx ctx 5 else s
          each (l.mapIdx (fun v c => (v, c))) (fun e s => s.tellCore e.2 1 ctx e.1 [bnat (decide (st = 4))]) s

/-- The contexts that wait to be bound, highest PRIO first, then the earliest blocked (R314): those with an entry to start or a dispatch to go on with, and those that a REMAP is to restore (R311). One that nothing has blocked yet stands last of its PRIO. -/
def State.bindOrder (s : State) : List Nat :=
  let remapped := (s.ctxs.filter (fun e => e.2.remap)).map (fun e => e.1.headD 0)
  let l := (s.liveQueues.map s.quCtx ++ remapped).eraseDups.filter (fun x =>
    decide (s.cxState x = 1 ∨ s.cxState x = 4) && (s.hasEntry x || (decide (s.cxState x = 4) && (s.hasDispatch x || (s.cx x).remap))))
  let rank (x : Nat) : Nat := (3 - s.rd (F.CX_CFG_PRIO.at stw 0 x)) * 2 ^ 66 + (if (s.cx x).blocked = 0 then 2 ^ 65 else (s.cx x).blocked)
  l.foldr (insertBy rank) []

/-- Waiting contexts bound as cores allow (R314, R315 step 5). -/
def State.bindWaiting (s : State) : State := each s.bindOrder (fun x s => s.bindTry x) s

/-- A cell has become free: bindings that wait for one are tried (R295). -/
def State.cellFreed (s : State) : State := if s.ctxs.any (fun e => !e.2.released.isEmpty) then s.bindWaiting else s

/-- SY_OWNER written by a master (R298). The steward's changes keep to R306; a cell of a SAVED context whose VALID it clears while the partition has no free cell is released with its record where the context is the one to release from, and stays in place where it is not (R295); the mappings of a SHARED cell end with its owner's (R292); and a binding that waits for a cell is tried when one frees. -/
def State.syOwnerSet (s : State) (site v master : Nat) : State :=
  let i := s.sySel site
  let owner := s.rd (F.SY_OWNER_OWNER.at site 0 i)
  let plain (s : State) : State :=
    if s.heldBack site master then s
    else
      let was := s.cellValid site i
      let shared := was && s.on (F.SY_OWNER_SHARED.at site 0 i)
      let s := s.syOwnerWrite site v
      let s := if shared && !(s.cellValid site i && s.on (F.SY_OWNER_SHARED.at site 0 i)) then s.unmapCells owner [(site, i)] else s
      if was && !(s.cellValid site i) then s.cellFreed else s
  if isSteward master ∧ bits v 9 0 = owner ∧ bits v 16 16 = 0 ∧ s.releasable site i ∧ (s.freeCells (s.cxPart owner)).isEmpty then
    if s.releaseFrom (s.cxPart owner) ≠ some owner then s
    else
      let r := s.releaseCell site i
      if r.1 then r.2.cellFreed else plain r.2
  else plain s

/-- The words of core memory that a save reads and that fail their parity twice are lost, and saved as they stand; a program slot with a failing word is reloaded (R194, R195; the requester of the records is a DESIGN CHOICE, log 63). -/
def State.saveLost (s : State) (c : CoreId) : State :=
  let s := each (List.range 4) (fun n s =>
    (s.checkSlot c { op := 0, daddr := 0, req := 0 } n (fun ws => decide (imageCause false ws = (0, 0) ∨ imageCause true ws = (0, 0)))).2) s
  each (s.parBad.filter (fun e => decide (e.1 = 0 ∧ coreAddr c 0 ≤ e.2 ∧ e.2 < coreAddr c (s.savedUnits c * 65536)))) (fun e s =>
    s.cmLost c (e.2 - coreAddr c 0) { op := 0, daddr := 0, req := 0 }) s

/-- CORE_SAVE_DONE (R313, R315 step 4). -/
def State.coreSaveDone (s : State) (c : CoreId) : State :=
  if s.coreState c ≠ 6 ∨ (s.core c).saving % 2 = 0 then s
  else
    let ctx := s.ctxOf c
    let v := s.rd (F.CORE_BIND_VCORE.core c)
    let r := (s.saveLost c).writePieces (s.saveAsker c 2) (s.slotBase ctx v) (s.savePieces c)
    match r.1 with
    | .error _ => r.2.saveFail ctx v
    | .ok _ => ((r.2.tellSteward c 4 []).leaveContext c).setCoreState c 1

/-- The step restart record or sequencer state that 256 bytes hold, with the mask of byte 38 (R495, R564). -/
def seqOf (b : List Byte) : StepRec × Nat :=
  let f (i n : Nat) : Nat := leNat ((b.drop i).take n)
  ({ pc := f 0 8, ix := (List.range 7).map (fun i => f (8 + 4 * i) 4),
     loops := (List.range (min (f 36 1) 4)).map (fun i =>
       let o := 48 + 16 * i
       ({ first := f o 6, body := f (o + 6) 2 % 4096, ix := bits (f (o + 6) 2) 14 12, left := f (o + 8) 3, depth := f (o + 11) 1,
          stride := f (o + 12) 4 } : LoopEnt)),
     calls := (List.range (min (f 37 1) 8)).map (fun i => f (112 + 8 * i) 8 % 2 ^ 48), step := f 40 4 }, f 38 1)

/-- The sequencer takes a state: address, index registers, stacks, mask (R125). -/
def State.loadSeq (s : State) (c : CoreId) (r : StepRec) (mask : Nat) : State :=
  ((s.setPc c r.pc).setIxs c r.ix).onCore c (fun k => { k with loops := r.loops, calls := r.calls, consumed := mask, fetched := [], cand := none })

/-- The step restart record a core holds, with SQ_STEP_PC (R146, R494). -/
def State.holdStep (s : State) (c : CoreId) (r : StepRec) : State :=
  (s.onCore c (fun k => { k with stepRec := r })).wr (F.SQ_STEP_PC.core c) (r.pc >>> 6)

/-- Pieces read one after another, each handed to a function. -/
def State.readPieces (s : State) (q : Asker) (base : Nat) (l : List (Nat × Nat × (List Byte → State → State))) : Except Nat Unit × State :=
  l.foldl (fun (a : Except Nat Unit × State) e =>
    match a.1 with
    | .error c => (.error c, a.2)
    | .ok _ =>
      let r := a.2.panelRead q (base + e.1) e.2.1
      match r.1 with
      | .error c => (.error c, r.2)
      | .ok b => (.ok (), e.2.2 b r.2)) (.ok (), s)

/-- What the header of a save slot records, read back (R313). -/
def State.loadSlot (s : State) (c : CoreId) (base : Nat) (h : List Byte) : Except Nat Unit × State :=
  let f (i n : Nat) : Nat := leNat ((h.drop i).take n)
  let cur := seqOf (h.take 256)
  let s := ((s.loadSeq c cur.1 cur.2).wr (F.SQ_STEP_NUM_STEP.core c) cur.1.step).holdStep c (seqOf ((h.drop 256).take 256)).1
  let s := s.onCore c (fun k => { k with gen := genOf ((h.drop 512).take 32) })
  let s := s.wr (F.MX_STAT_TILE_VALID.core c) (f 544 2)
  let tiles := (ones (f 544 2) 16).map (fun t =>
    (0x1000 + 0x4000 * t, 0x4000, fun (b : List Byte) (s : State) => loopN 4096 (fun k s => s.setAcc c t k (leNat ((b.drop (4 * k)).take 4))) s))
  let progs := ((List.range 4).filter (fun n => decide (f (546 + 2 * n) 2 ≠ 0))).map (fun n =>
    (0x41000 + 0x800 * n, 4 * f (546 + 2 * n) 2, fun (b : List Byte) (s : State) =>
      ((s.putProg c n ((pieces 4 b.length b).map leNat)).wr (slotLenLoc c n) (f (546 + 2 * n) 2)).onCore c (fun k =>
        { k with slotAddr := k.slotAddr.set n (f (576 + 8 * n) 8 % 2 ^ 48) })))
  let mem := if f 555 1 = 0 then [] else [(0x80000, f 555 1 * 65536, fun (b : List Byte) (s : State) => s.corePut c 0 b)]
  s.readPieces (s.saveAsker c 1) base (tiles ++ progs ++ mem)

/-- CORE_RESTORE_DONE (R310, R313, R145): a virtual core with a dispatch in progress resumes it, HALTED when it was saved so (DEDUCED, log 27). -/
def State.coreRestoreDone (s : State) (c : CoreId) : State :=
  if s.coreState c ≠ 6 ∨ (s.core c).saving ≠ 2 then s
  else
    let ctx := s.ctxOf c
    let v := s.rd (F.CORE_BIND_VCORE.core c)
    let base := s.slotBase ctx v
    let r := s.panelRead (s.saveAsker c 1) base 608
    match r.1 with
    | .error _ => r.2.saveFail ctx v
    | .ok h =>
      let q := r.2.loadSlot c base h
      match q.1 with
      | .error _ => q.2.saveFail ctx v
      | .ok _ =>
        let s := q.2.onCore c (fun k => { k with saving := 0 })
        let halted := (leNat ((h.drop 556).take 1)).testBit 0
        let s := if halted then s.wr (F.CORE_CTL_HALT.core c) 1 else s
        let s := match s.dispatchOf ctx v with
          | some (q, e) => (s.onCore c (fun k => { k with queue := q, ring := e.ix % 65536 })).setCoreState c (if halted then 5 else 2)
          | none => s.setCoreState c 1
        s.tellSteward c 5 []

/-- Core memory from an offset on holds zeros. -/
def State.wipe (s : State) (c : CoreId) (start : Nat) : State :=
  { s with cmem := mzero s.cmem (coreAddr c start) (0x400000 - start),
           parBad := s.parBad.filter (fun e => decide (¬ (e.1 = 0 ∧ coreAddr c start ≤ e.2 ∧ e.2 < coreAddr c 0x400000))) }

/-- A BIND that a powered core acts on (R310, R146): it starts with core memory zero, whatever the debug window wrote into it while no context was bound (R200). -/
def State.takeBind (s : State) (c : CoreId) (m : CtlMsg) : State :=
  let ctx := noticeCtx m
  let v := noticeVcore m
  if s.bound c ∨ !((s.cx ctx).binding) ∨ (s.cx ctx).cores[v]? ≠ some c ∨ !((s.cx ctx).wait.contains v) then s
  else
    let s := ((s.wr (F.CORE_BIND_CTX.core c) ctx).wr (F.CORE_BIND_VCORE.core c) v).wr (F.CORE_BIND_BOUND.core c) 1
    let s := (s.loadCtx c ctx).wipe c 0
    if (m.words.getD 1 0) % 2 = 1 then (s.onCore c (fun k => { k with saving := 2 })).setCoreState c 6
    else
      let s := s.onCore c (fun k => { k with gen := genSeed ((s.rd (F.CX_SEED.at stw 0 ctx) + v) % 2 ^ 64) })
      (s.setCoreState c 1).tellSteward c 5 []

/-- The working part of a core's memory holds zeros at the start of a dispatch, whatever the debug window wrote since the last one (R190, R200). -/
def State.clearWorking (s : State) (c : CoreId) : State := s.wipe c (s.rd (F.CB_RES_RES.core c) * 65536)

/-- A DISPATCH that a powered core acts on: the entry starts, with a step restart record (R322, R494). -/
def State.takeDispatch (s : State) (c : CoreId) (m : CtlMsg) : State :=
  let ctx := noticeCtx m
  let v := noticeVcore m
  let w (i : Nat) : Nat := m.words.getD i 0
  if !(s.bound c) ∨ s.ctxOf c ≠ ctx ∨ s.rd (F.CORE_BIND_VCORE.core c) ≠ v ∨ ¬ (s.coreState c ≤ 1) ∨ (s.dispatchOf ctx v).isNone then s
  else
    let pc := w 2 + (w 3 % 65536) <<< 32
    let ix := [w 4, w 5, w 6, 0, 0, 0, 0]
    let s := (s.loadCtx c ctx).clearWorking c
    let s := s.loadSeq c { pc := pc, ix := ix, loops := [], calls := [], step := 0 } 0
    let s := (s.wr (F.CB_STAT_HWM.core c) 0).onCore c (fun k => { k with queue := w 1 % 4096, ring := bits (w 1) 31 16, stopReq := .none })
    let r := s.restartPoint c { pc := pc, ix := ix, loops := [], calls := [], step := 0xFFFFFFFF }
    match r.1 with
    | .ok _ => r.2.setCoreState c 2
    | .error code => (r.2.setCoreState c 2).stopCore c code

/-- A notice kept by a core that is OFF, with a request for a token (R438, R440). -/
def State.keepNotice (s : State) (c : CoreId) (m : CtlMsg) : State :=
  let s := s.onCore c (fun k => { k with notices := k.notices ++ [m] })
  if s.admq.contains c ∨ (s.core c).token then s
  else { s.onCore c (fun k => { k with askedAt := s.now c.site }) with admq := s.admq ++ [c] }

/-- Does a NOTICE from the steward reach a core: it is of the kind, and the core's die is not dark. -/
def State.coreNotice (s : State) (kind : Nat) (m : CtlMsg) : Bool :=
  decide (m.type = 7 ∧ noticeKind m = kind ∧ m.tag < 18) && isDie m.dest && !(s.dark m.dest)

/-- NOTICE_BIND (R310, R438). -/
def State.noticeBind (s : State) (m : CtlMsg) : State :=
  if !(s.coreNotice 1 m) then s
  else
    let s := s.takeCtl (.ctl m) m.src m.dest
    let c := noticeCore m
    if s.coreState c = 0 then s.keepNotice c m else s.takeBind c m

/-- NOTICE_DISPATCH (R322, R438). -/
def State.noticeDispatch (s : State) (m : CtlMsg) : State :=
  if !(s.coreNotice 2 m) ∨ s.quiesced m.dest (0x40 + 4 * m.tag) then s
  else
    let s := s.takeCtl (.ctl m) m.src m.dest
    let c := noticeCore m
    if s.coreState c = 0 then s.keepNotice c m else s.takeDispatch c m

/-- NOTICE_PREEMPT (R125, R145, R315): an idle, halted or gated core is at a boundary already. -/
def State.noticePreempt (s : State) (m : CtlMsg) : State :=
  if !(s.coreNotice 3 m) then s
  else
    let s := s.takeCtl (.ctl m) m.src m.dest
    let c := noticeCore m
    if !(s.bound c) ∨ s.ctxOf c ≠ noticeCtx m ∨ (s.core c).stopReq = .stop ∨ s.coreState c = 6 then s
    else
      let st := s.coreState c
      let s := s.onCore c (fun k => { k with stopReq := if (m.words.getD 1 0) % 2 = 1 then .preemptStep else .preempt })
      if st ≤ 1 then s.enterBoundary c true
      else if st = 5 then s.enterBoundary c
      else s.tryStop c

/-- NOTICE_STOP (R498). -/
def State.noticeStop (s : State) (m : CtlMsg) : State :=
  if !(s.coreNotice 10 m) then s
  else (s.takeCtl (.ctl m) m.src m.dest).stopNow (noticeCore m)

/-- Must a pre-emption of a context wait: a core STOPPED, or a replay of its partition in progress (R316). -/
def State.preemptWaits (s : State) (ctx : Nat) : Bool :=
  let rp := s.rd (F.RP_STAT_STATE.at stw 0 (s.cxPart ctx))
  decide (1 ≤ rp ∧ rp ≤ 3) || (s.cx ctx).cores.any (fun c => decide (s.coreState c = 4))

/-- Pre-emption starts: SAVING, and a PREEMPT to every core (R315 step 1). -/
def State.preemptStart (s : State) (ctx : Nat) (step : Bool) : State :=
  let s := (s.setCx ctx 3).wr (F.CX_STATE_PRE_PEND.at stw 0 ctx) 1
  let s := s.onCx ctx (fun k => { k with wait := List.range k.cores.length, pre := 0 })
  each ((s.cx ctx).cores.mapIdx (fun v c => (v, c))) (fun e s => s.tellCore e.2 3 ctx e.1 [bnat step]) s

/-- Pre-emption of a context is decided: started, or left waiting (R315, R316). -/
def State.preempt (s : State) (ctx : Nat) (step : Bool) : State :=
  let st := s.cxState ctx
  if st = 5 ∨ (st = 1 ∧ (s.cx ctx).binding) ∨ (st = 2 ∧ s.preemptWaits ctx) then
    (s.onCx ctx (fun k => { k with pre := if step then 2 else 1 })).wr (F.CX_STATE_PRE_PEND.at stw 0 ctx) 1
  else if st = 2 then s.preemptStart ctx step
  else s

/-- A pre-emption that waited goes on when nothing holds it back any more (R316). -/
def State.preemptRetry (s : State) (ctx : Nat) : State :=
  if (s.cx ctx).pre ≠ 0 ∧ s.cxState ctx = 2 ∧ !(s.preemptWaits ctx) then s.preemptStart ctx (decide ((s.cx ctx).pre = 2)) else s

/-- Does a NOTICE from a core reach the active steward. -/
def State.stwNotice (s : State) (kind : Nat) (m : CtlMsg) : Bool := decide (m.type = 7 ∧ noticeKind m = kind ∧ m.dest = s.steward)

/-- NOTICE_SAVED (R315 step 5, R311). -/
def State.noticeSaved (s : State) (m : CtlMsg) : State :=
  let ctx := noticeCtx m
  if !(s.stwNotice 4 m) then s
  else
    let s := s.takeCtl (.ctl m) m.src m.dest
    if s.cxState ctx ≠ 3 ∨ !((s.cx ctx).wait.contains (noticeVcore m)) then s
    else
      let s := s.onCx ctx (fun k => { k with wait := k.wait.erase (noticeVcore m) })
      if !((s.cx ctx).wait.isEmpty) then s
      else
        let s := (s.setCx ctx 4).wr (F.CX_STATE_PRE_PEND.at stw 0 ctx) 0
        let s := s.onCx ctx (fun k => { k with cores := [], was := k.cores, blocked := if s.hasDispatch ctx ∨ s.hasEntry ctx then s.time + 1 else 0, savedAt := s.time + 1 })
        if (s.cx ctx).remap then (s.bindTry ctx).bindWaiting else s.bindWaiting

/-- CX_PREEMPT (R314, R315, R337). -/
def State.cxPreempt (s : State) : State :=
  let x := s.cxSel
  if s.cxState x ≠ 2 then s.cxResult 0x5405
  else (s.preempt x (s.on (F.CX_CFG_PRE_AT.at stw 0 x))).cxResult 0

/-- CX_REMAP (R311, R337, R428). -/
def State.cxRemap (s : State) : State :=
  let x := s.cxSel
  if ¬ (s.cxState x = 2 ∨ s.cxState x = 4) ∨ s.epochBusy then s.cxResult 0x5405
  else if s.cxState x = 4 then s.cxResult 0
  else ((s.onCx x (fun k => { k with remap := true })).preempt x true).cxResult 0

/-- CX_RESET (R317, R337). -/
def State.cxReset (s : State) : State :=
  if s.cxState s.cxSel = 0 then s.cxResult 0x5405 else (s.ctxReset s.cxSel false).cxResult 0

/-- CX_TEARDOWN (R317, R337). -/
def State.cxTeardown (s : State) : State :=
  if s.cxState s.cxSel = 0 then s.cxResult 0x5405 else (s.ctxReset s.cxSel true).cxResult 0

/-- PRE_TMO_EXPIRE (R316): LATE. -/
def State.preTmo (s : State) (ctx : Nat) : State :=
  if s.cxState ctx = 3 ∧ s.rd (F.CX_PRE_TMO_PRE_TMO.at stw 0 ctx) ≠ 0 then
    s.wr (F.PG_EVT_EVT.at stw 0x22) (setBit (s.rd (F.PG_EVT_EVT.at stw 0x22)) 0)
  else s

end Sys2Proof.Machine
end

