-- ==== Sys2Proof/Machine/Queues.lean ====
section
/-! DEFINITION. Queues (R318 to R326, R338): doorbells, ring entries, reservation and start of entries, completion, and the end of a context's reset (R317). -/

namespace Sys2Proof.Machine

/-- KIND of an entry (R321). -/
def qKind (e : Nat) : Nat := df e 0 7 0
/-- First virtual core of an entry. -/
def qFirst (e : Nat) : Nat := df e 16 15 0
/-- Virtual cores of an entry. -/
def qCount (e : Nat) : Nat := df e 18 15 0
/-- First descriptor of an entry. -/
def qPc (e : Nat) : Nat := df e 8 47 0

/-- Is an entry refused with 0x5301 when it is read (R321)? With SIG.EN 0 the four bytes of SIGINC are ignored. -/
def State.entryBad (s : State) (q e : Nat) : Bool :=
  let vf := s.rd (F.QU_TARGET_VFIRST.at stw 0 q)
  let vc := s.rd (F.QU_TARGET_VCOUNT.at stw 0 q)
  decide (¬ (qKind e = 1 ∨ qKind e = 2)) ||
  decide (df e 1 7 1 ≠ 0 ∨ df e 2 15 0 ≠ 0 ∨ df e 14 15 0 ≠ 0 ∨ df e 20 14 12 ≠ 0 ∨ df e 22 15 0 ≠ 0 ∨ (df e 20 15 15 = 1 ∧ df e 27 7 0 ≠ 0) ∨ df e 28 31 0 ≠ 0 ∨
          df e 40 191 0 ≠ 0) ||
  decide (df e 20 15 15 = 1 ∧ df e 24 23 0 = 0) ||
  (if qKind e = 2 then decide (qPc e ≠ 0 ∨ qFirst e ≠ 0 ∨ qCount e ≠ 0 ∨ df e 32 63 0 ≠ 0)
   else decide (qPc e % 64 ≠ 0 ∨ qCount e = 0 ∨ qCount e > 2048 ∨ qFirst e < vf ∨ qFirst e + qCount e > vf + vc))

/-- A queue becomes STOPPED (R325); one that is STOPPED already keeps its code and its offending entry. -/
def State.quStop (s : State) (q code off info1 : Nat) : State :=
  let s := if s.on (F.QU_STAT_STOPPED.at stw 0 q) then s
    else ((s.wr (F.QU_STAT_STOPPED.at stw 0 q) 1).wr (F.QU_STAT_CODE.at stw 0 q) code).onQueue q (fun k => { k with off := off })
  s.cxRecord code (s.quCtx q) q info1

/-- An entry of a ring has been read, or could not be (R319, R321, R325). -/
def State.entryRead (s : State) (q : Nat) (b : Option Nat) : State :=
  let k := s.queue q
  let keep (e st : Nat) (s : State) : State :=
    s.onQueue q (fun k => { k with rd := (k.rd + 1) % 2 ^ 32,
                                   ents := k.ents ++ [{ ix := k.rd, e := e, st := st, left := [], dies := [], lsite := 0, lslot := 0xFF }] })
  match b with
  | none => (keep 0 3 s).quStop q 0x5305 (k.rd + 1) k.rd
  | some e => if s.entryBad q e then (keep e 3 s).quStop q 0x5301 (k.rd + 1) k.rd else keep e 0 s

/-- May a queue read another entry (R319, R325). -/
def State.mayRead (s : State) (q : Nat) : Bool :=
  s.on (F.QU_CFG_ENABLE.at stw 0 q) && !(s.on (F.QU_STAT_STOPPED.at stw 0 q)) && decide ((s.queue q).rd ≠ s.rd (F.QU_TAIL_TAIL.at stw 0 q) ∧ (s.rd (F.QU_TAIL_TAIL.at stw 0 q) + 2 ^ 32 - (s.queue q).rd) % 2 ^ 32 ≤ 65536)

/-- The address of a ring's entry (R318). -/
def State.ringAddr (s : State) (q i : Nat) : Nat :=
  (s.rd (F.QU_RING.at stw 0 q)) <<< 12 + 64 * (i % 2 ^ s.rd (F.QU_CFG_LOG2SIZE.at stw 0 q))

/-- The index of the entry of a host ring that is read next: one that a flush has discarded, for its work record (R324), or a new one. -/
def State.nextIndex (s : State) (q : Nat) : Nat := if (s.queue q).dropN = 0 then (s.queue q).rd else (s.queue q).dropAt

/-- A read of a host ring's entry over CXL.cache (R349): a port has at most CP_CACHE.MAX outstanding, and a further one waits its turn, first come first served (DESIGN CHOICE, log 65); with the link down or without CXL it fails. -/
def State.askHost (s : State) (port q : Nat) : State :=
  if s.crds.contains (port, q) then s
  else if !(s.on (F.CP_LINK_UP.at (304 + port)) && s.on (F.CP_LINK_CXL.at (304 + port))) then
    if (s.queue q).dropN = 0 then s.entryRead q none else s.onQueue q (fun k => { k with dropN := 0 })
  else if s.rd (F.CP_CACHE_MAX.at (304 + port)) ≤ (s.crds.filter (fun e => decide (e.1 = port))).length then
    { s with crdWait := if s.crdWait.contains (port, q) then s.crdWait else s.crdWait ++ [(port, q)] }
  else ({ s with crds := s.crds ++ [(port, q)] } : State).send (.hostRead port (s.ringAddr q (s.nextIndex q)))

/-- The next entry read: from panel memory at once, or asked of the host over CXL.cache (R318, R319, R349). -/
def State.readNext (s : State) (q : Nat) : State :=
  if !(s.mayRead q) ∧ (s.queue q).dropN = 0 then s
  else
    match s.rd (F.QU_CFG_LOC.at stw 0 q) with
    | 0 =>
      let r := s.stwRead (s.ringAddr q (s.queue q).rd % 2 ^ 48) 64
      r.2.entryRead q (match r.1 with | .ok b => some (leNat b) | .error _ => none)
    | 1 => s.askHost 0 q
    | 2 => s.askHost 1 q
    | _ => s

/-- Reads of host rings that waited for a place are made, in the order in which they came (R349). -/
def State.moreReads (s : State) : State := each s.crdWait (fun e s => ({ s with crdWait := s.crdWait.erase e } : State).readNext e.2) s

/-- Every new entry read (R319); a TAIL moved back leaves none to read. -/
def State.readRing (s : State) (q : Nat) : State :=
  let n := (s.rd (F.QU_TAIL_TAIL.at stw 0 q) + 2 ^ 32 - (s.queue q).rd) % 2 ^ 32
  if n ≤ 65536 then loopN n (fun _ s => s.readNext q) s else s

/-- The physical cores of an entry of an ACTIVE context (R322). -/
def State.entryCores (s : State) (q : Nat) (e : QEnt) : List CoreId := ((s.cx (s.quCtx q)).cores.drop (qFirst e.e)).take (qCount e.e)

/-- The compute dies an entry needs, in increasing order (R323). -/
def State.entryDies (s : State) (q : Nat) (e : QEnt) : List Nat :=
  let l := s.entryCores q e
  allDies.filter (fun d => l.any (fun c => decide (c.site = d)))

/-- The entry a queue may reserve cores for: a DISPATCH of an ACTIVE context, inside NCORES (R321 to R323). -/
def State.waitingEntry (s : State) (q : Nat) : Option QEnt :=
  match s.nextEntry q with
  | some e =>
    if qKind e.e = 1 ∧ s.cxState (s.quCtx q) = 2 ∧ qFirst e.e + qCount e.e ≤ s.rd (F.CX_CFG_NCORES.at stw 0 (s.quCtx q)) then some e else none
  | none => none

/-- Cores of a die reserved by the waiting entries of other queues (R323). -/
def State.reservedBy (s : State) (q site : Nat) : List CoreId :=
  (s.liveQueues.filter (fun x => decide (x ≠ q))).flatMap (fun x =>
    match s.waitingEntry x with
    | some e => if e.dies.contains site then (s.entryCores x e).filter (fun c => decide (c.site = site)) else []
    | none => [])

/-- May a queue's waiting entry reserve its cores on a die now: it holds every lower die it needs and not this one, and no other entry holds a core it wants (R323). -/
def State.wantsDie (s : State) (q site : Nat) : Bool :=
  match s.waitingEntry q with
  | none => false
  | some e =>
    let need := s.entryDies q e
    need.contains site && !(e.dies.contains site) && need.all (fun d => decide (site ≤ d) || e.dies.contains d) &&
      ((s.entryCores q e).filter (fun c => decide (c.site = site))).all (fun c => !((s.reservedBy q site).contains c))

/-- The place of a queue in the round of its class on a die (R323). -/
def State.roundPos (s : State) (site q : Nat) : Nat :=
  (q + 4096 - tget 0 s.rr [site, s.rd (F.QU_CFG_CLASS.at stw 0 q), 0]) % 4096

/-- The queue a die chooses: the highest class, then the round (R323). -/
def State.chooseQueue (s : State) (site : Nat) : Option Nat :=
  (s.liveQueues.filter (fun q => s.wantsDie q site)).foldl (fun (b : Option Nat) q =>
    let rank (q : Nat) : Nat := (3 - s.rd (F.QU_CFG_CLASS.at stw 0 q)) * 4096 + s.roundPos site q
    match b with
    | none => some q
    | some x => if rank q < rank x then some q else some x) none

/-- One entry of a queue changed. -/
def State.onEntry (s : State) (q ix : Nat) (f : QEnt → QEnt) : State :=
  s.onQueue q (fun k => { k with ents := k.ents.map (fun e => if e.ix = ix then f e else e) })

/-- Reservations made on one die while an entry can take them (R323). -/
def State.reserveDie (s : State) (site : Nat) : State :=
  loopN s.liveQueues.length (fun _ s =>
    match s.chooseQueue site with
    | none => s
    | some q =>
      match s.waitingEntry q with
      | some e => s.onEntry q e.ix (fun e => { e with dies := e.dies ++ [site] })
      | none => s) s

/-- Reservations made on every die some waiting entry needs, in increasing site order (R323). -/
def State.reserve (s : State) : State :=
  let need := s.liveQueues.flatMap (fun q => match s.waitingEntry q with | some e => s.entryDies q e | none => [])
  each (allDies.filter (fun d => need.contains d)) (fun d s => s.reserveDie d) s

/-- The queue block looks at its queues again after an event: waiting contexts are bound where nothing blocks them, cores are reserved (R314, R323). -/
def State.kick (s : State) : State := s.bindWaiting.reserve

/-- An entry's signal, sent by the queue block (R114, R324): the steward performs it at the cell as its SY_CMD SIGNAL would be (R269, R299; DEDUCED, log 26). Whether it was sent. -/
def State.queueSignal (s : State) (ctx vid inc : Nat) : Bool × State :=
  let r := s.stwRead (s.rd (F.CX_SXLT.at stw 0 ctx) + 4 * vid) 4
  match r.1 with
  | .error _ => (false, r.2)
  | .ok b =>
    let x := leNat b
    if !(x.testBit 31) then (false, r.2.cxRecord 0x4101 ctx vid 0)
    else
      let site := bits x 8 0
      let cell := bits x 19 9
      (true, if r.2.cellValid site cell then r.2.signalCell site cell inc r.2.steward 0x1F else r.2)

/-- HEAD advances over the completed entries at its front (R324). -/
def State.advanceHead (s : State) (q : Nat) : State :=
  loopN (s.queue q).ents.length (fun _ s =>
    match (s.queue q).ents with
    | e :: r =>
      if e.st = 2 ∧ e.ix = s.rd (F.QU_HEAD_HEAD.at stw 0 q) then
        (s.onQueue q (fun k => { k with ents := r })).add (F.QU_HEAD_HEAD.at stw 0 q) 1
      else s
    | [] => s) s

/-- An entry completes: its signal, its work record, HEAD (R324). -/
def State.completeEntry (s : State) (q ix status : Nat) : State :=
  match (s.queue q).ents.find? (fun e => decide (e.ix = ix)) with
  | none => s
  | some e =>
    let sg := if status = 0 ∧ df e.e 20 15 15 = 1 then s.queueSignal (s.quCtx q) (df e.e 20 11 0) (df e.e 24 23 0) else (false, s)
    let s := sg.2
    let site := if e.lslot = 0xFF then s.steward else e.lsite
    let s := if df e.e 1 0 0 = 1 then
        s.evqPut (s.rd (F.QU_EVQ_EVQ.at stw 0 q)) 2 (doneBytes status 0 sg.1 site e.lslot (s.now s.steward) (df e.e 4 31 0) q (qPc e.e))
      else s
    (s.onEntry q ix (fun e => { e with st := 2, dies := [] })).advanceHead q

/-- The work record of an entry that is discarded before it was read for its queue (R324). -/
def State.dropRecord (s : State) (q e : Nat) : State :=
  if df e 1 0 0 = 1 then
    s.evqPut (s.rd (F.QU_EVQ_EVQ.at stw 0 q)) 2 (doneBytes 0x5403 0 false s.steward 0xFF (s.now s.steward) (df e 4 31 0) q (qPc e))
  else s

/-- The entries of a ring that have not been read, `n` from `i` on, discarded (R324): a ring in panel memory is read for their work records at once, and one in host memory over CXL.cache. -/
def State.dropUnread (s : State) (q i n : Nat) : State :=
  if s.rd (F.QU_CFG_LOC.at stw 0 q) = 0 then
    loopN n (fun k s =>
      let r := s.stwRead (s.ringAddr q ((i + k) % 2 ^ 32) % 2 ^ 48) 64
      match r.1 with
      | .ok b => r.2.dropRecord q (leNat b)
      | .error _ => r.2) s
  else
    (s.onQueue q (fun k => { k with dropAt := if k.dropN = 0 then i else k.dropAt, dropN := k.dropN + n })).readNext q

/-- Every pending and running entry of a queue discarded, read or not; HEAD is TAIL then (R324). -/
def State.flushQueue (s : State) (q : Nat) : State :=
  let s := each ((s.queue q).ents.filter (fun e => decide (e.st ≠ 2))) (fun e s => s.completeEntry q e.ix 0x5403) s
  let t := s.rd (F.QU_TAIL_TAIL.at stw 0 q)
  let i := (s.queue q).rd
  let n := (t + 2 ^ 32 - i) % 2 ^ 32
  let s := (s.wr (F.QU_HEAD_HEAD.at stw 0 q) t).onQueue q (fun k => { k with rd := t, ents := [], off := 0 })
  if n = 0 ∨ 65536 < n then s else s.dropUnread q i n

/-- The right of a master at a queue (R327). -/
def State.quAllowed (s : State) (q master : Nat) (wr : Bool) : Bool := s.aclBit s.steward 1 master (q / 64) wr

/-- Is a master's doorbell refused at the queue block: FENCE first, then the table (R328, R332): the code, 0 where it passes. -/
def State.quCheck (s : State) (q master : Nat) : Nat :=
  if !(isSteward master) ∧ master ≠ 0xFFF ∧ s.fenceBit s.steward 1 (q / 64) then 0x5202
  else if !(s.quAllowed q master true) then 0x5201 else 0

/-- A refused doorbell (R328, R335). -/
def State.quDeny (s : State) (q master src slot : Nat) : State :=
  s.deny s.steward 1 master true (s.quCheck q master, if s.quCheck q master = 0x5202 then 0 else 2, q / 64) 5 q src slot

/-- A doorbell is refused by its queue's state: disabled or of the other producer (R320). -/
def State.quRefusal (s : State) (q op : Nat) : Nat :=
  if !(s.on (F.QU_CFG_ENABLE.at stw 0 q)) then 0x5303
  else if decide (op = 0) == s.on (F.QU_CFG_PRODUCER.at stw 0 q) then 0x5304 else 0

/-- Does a DOORBELL of an operation reach the active steward (R326). -/
def State.isDoorbell (s : State) (op : Nat) (m : CtlMsg) : Bool :=
  decide (m.type = 5 ∧ m.dest = s.steward ∧ bits (m.words.headD 0) 13 12 = op)

/-- Queue of a DOORBELL. -/
def dbQueue (m : CtlMsg) : Nat := m.words.headD 0 % 4096
/-- Master of a DOORBELL. -/
def dbMaster (m : CtlMsg) : Nat := bits (m.words.headD 0) 25 14
/-- Second word of a DOORBELL. -/
def dbArg (m : CtlMsg) : Nat := m.words.getD 1 0

/-- Is a new TAIL outside the range (R319): it moves TAIL, and leaves more than a ring of entries. -/
def State.tailBad (s : State) (q new : Nat) : Bool :=
  decide ((new + 2 ^ 32 - s.rd (F.QU_TAIL_TAIL.at stw 0 q)) % 2 ^ 32 ≠ 0 ∧
    2 ^ s.rd (F.QU_CFG_LOG2SIZE.at stw 0 q) < (new + 2 ^ 32 - s.rd (F.QU_HEAD_HEAD.at stw 0 q)) % 2 ^ 32)

/-- DOORBELL_TAIL (R319, R320). -/
def State.doorbellTail (s : State) (m : CtlMsg) : State :=
  let q := dbQueue m
  if !(s.isDoorbell 0 m) then s
  else
    let s := s.takeCtl (.ctl m) m.src m.dest
    if s.quCheck q (dbMaster m) ≠ 0 then s.quDeny q (dbMaster m) m.src 0x1F
    else if s.quRefusal q 0 ≠ 0 then s.cxRecord (s.quRefusal q 0) (s.quCtx q) q 0
    else if s.tailBad q (dbArg m) then s.quStop q 0x5302 0 0
    else if (dbArg m + 2 ^ 32 - s.rd (F.QU_TAIL_TAIL.at stw 0 q)) % 2 ^ 32 = 0 then s
    else ((s.wr (F.QU_TAIL_TAIL.at stw 0 q) (dbArg m)).readRing q).kick

/-- The core or unit a NOTICE of the queue block answers (log 15). -/
def State.answerDoorbell (s : State) (m : CtlMsg) (kind : Nat) (words : List Nat) : State :=
  s.tellCore ⟨m.src, m.tag⟩ kind (dbMaster m) (s.rd (F.CORE_BIND_VCORE.core ⟨m.src, m.tag⟩)) words

/-- An ENQ refused at the queue block fails with the code (R124, R320): the record is made here. -/
def State.enqRefused (s : State) (m : CtlMsg) (code : Nat) : State :=
  let c : CoreId := ⟨m.src, m.tag⟩
  match (s.core c).held with
  | some h => if h.op = 0x18 then s.seqFail c h.addr h.desc { code := code, info0 := 0, form := 2 } else s
  | none => s

/-- DOORBELL_RESERVE (R320). -/
def State.doorbellReserve (s : State) (m : CtlMsg) : State :=
  let q := dbQueue m
  if !(s.isDoorbell 1 m) then s
  else
    let s := s.takeCtl (.ctl m) m.src m.dest
    if s.quCheck q (dbMaster m) ≠ 0 then (s.quDeny q (dbMaster m) m.src m.tag).enqRefused m (s.quCheck q (dbMaster m))
    else if s.quRefusal q 1 ≠ 0 then (s.cxRecord (s.quRefusal q 1) (s.quCtx q) q 0).enqRefused m (s.quRefusal q 1)
    else
      let r := (s.queue q).resv
      if (r + 2 ^ 32 - s.rd (F.QU_HEAD_HEAD.at stw 0 q)) % 2 ^ 32 ≥ 2 ^ s.rd (F.QU_CFG_LOG2SIZE.at stw 0 q) then s.answerDoorbell m 8 []
      else (s.onQueue q (fun k => { k with resv := (r + 1) % 2 ^ 32 })).answerDoorbell m 7 [r]

/-- TAIL raised over published slots in index order (R320). -/
def State.raiseTail (s : State) (q : Nat) : State :=
  loopN (s.queue q).pub.length (fun _ s =>
    let t := s.rd (F.QU_TAIL_TAIL.at stw 0 q)
    if (s.queue q).pub.contains t then
      (s.onQueue q (fun k => { k with pub := k.pub.erase t })).wr (F.QU_TAIL_TAIL.at stw 0 q) (t + 1)
    else s) s

/-- DOORBELL_PUBLISH (R320). -/
def State.doorbellPublish (s : State) (m : CtlMsg) : State :=
  let q := dbQueue m
  if !(s.isDoorbell 2 m) then s
  else
    let s := s.takeCtl (.ctl m) m.src m.dest
    if s.quCheck q (dbMaster m) ≠ 0 then (s.quDeny q (dbMaster m) m.src m.tag).enqRefused m (s.quCheck q (dbMaster m))
    else if s.quRefusal q 2 ≠ 0 then (s.cxRecord (s.quRefusal q 2) (s.quCtx q) q 0).enqRefused m (s.quRefusal q 2)
    else
      let s := (s.onQueue q (fun k => { k with pub := if k.pub.contains (dbArg m) then k.pub else k.pub ++ [dbArg m] })).raiseTail q
      ((s.answerDoorbell m 9 []).readRing q).kick

/-- NOTICE_GRANT (R320). -/
def State.noticeGrant (s : State) (m : CtlMsg) : State :=
  if !(s.coreNotice 7 m) then s else (s.takeCtl (.ctl m) m.src m.dest).enqGrant (noticeCore m) (m.words.getD 1 0)

/-- NOTICE_FULL (R142, R320). -/
def State.noticeFull (s : State) (m : CtlMsg) : State :=
  if !(s.coreNotice 8 m) then s else (s.takeCtl (.ctl m) m.src m.dest).enqFull (noticeCore m)

/-- NOTICE_DB_ACK (R142, R320). -/
def State.noticeDbAck (s : State) (m : CtlMsg) : State :=
  if !(s.coreNotice 9 m) then s else (s.takeCtl (.ctl m) m.src m.dest).enqDone (noticeCore m)

/-- The round of a class on a die moves on after a start (R323). -/
def State.roundStep (s : State) (site q : Nat) : State :=
  let cl := s.rd (F.QU_CFG_CLASS.at stw 0 q)
  let n := (if tget 0 s.rr [site, cl, 0] = q then tget 0 s.rr [site, cl, 1] else 0) + 1
  let put (s : State) (i v : Nat) : State := { s with rr := tset 0 s.rr [site, cl, i] v }
  if n ≥ s.rd (F.QU_CFG_WEIGHT.at stw 0 q) then put (put s 0 ((q + 1) % 4096)) 1 0 else put (put s 0 q) 1 n

/-- ENTRY_START (R322): the next entry of a queue starts: a MARKER completes, a DISPATCH goes to its cores once all are reserved and idle (an idle core that is OFF is powered by the notice, R438). -/
def State.entryStart (s : State) (q : Nat) : State :=
  match if s.quiesced stw 0x23 then none else s.nextEntry q with
  | none => s
  | some e =>
    let ctx := s.quCtx q
    if qKind e.e = 2 then ((s.bump (F.QU_STARTS_COUNT.at stw 0 q)).completeEntry q e.ix 0).kick
    else if s.cxState ctx ≠ 2 then s
    else if qFirst e.e + qCount e.e > s.rd (F.CX_CFG_NCORES.at stw 0 ctx) then
      (s.onEntry q e.ix (fun e => { e with st := 3, dies := [] })).quStop q 0x5301 (e.ix + 1) e.ix
    else
      let s := s.reserve
      let l := s.entryCores q e
      let held := match s.waitingEntry q with | some x => x.dies | none => []
      let vs := (List.range (qCount e.e)).map (· + qFirst e.e)
      if !((s.entryDies q e).all (fun d => held.contains d)) ∨
          !(l.all (fun c => decide (s.coreState c ≤ 1) && s.bound c && decide (s.ctxOf c = ctx))) ∨ vs.any (fun v => (s.dispatchOf ctx v).isSome) then s
      else
        let dies := s.entryDies q e
        let s := s.onEntry q e.ix (fun e => { e with st := 1, left := vs, dies := [] })
        let s := s.bump (F.QU_STARTS_COUNT.at stw 0 q)
        let s := each dies (fun d s => s.roundStep d q) s
        let s := each (l.mapIdx (fun i c => (i, c))) (fun x s =>
          s.tellCore x.2 2 ctx (qFirst e.e + x.1)
            [q + (e.ix % 65536) <<< 16, qPc e.e % 2 ^ 32, qPc e.e >>> 32, x.1, df e.e 32 31 0, df e.e 36 31 0]) s
        s.reserve

/-- The dies of a context's virtual cores: of those it is bound to, or was when it was SAVED, a replaced die's by its substitute (R508). -/
def State.coreDies (s : State) (ctx : Nat) : List Nat :=
  if (s.cx ctx).cores.isEmpty then
    (s.cx ctx).was.map (fun c => match s.substSite.find? (fun e => e.1 == c.site) with | some e => e.2 | none => c.site)
  else (s.cx ctx).cores.map (fun c => c.site)

/-- Working die regions of a context with no dispatch in progress on a die, running or pre-empted, are zero-filled through SCRUB (R190). -/
def State.scrubWorking (s : State) (ctx site : Nat) : State :=
  let here := s.liveQueues.any (fun q => decide (s.quCtx q = ctx) && (s.queue q).ents.any (fun e => decide (e.st = 1) &&
    e.left.any (fun v => decide ((s.coreDies ctx)[v]? = some site))))
  let runs := (s.cx ctx).cores.any (fun c => decide (c.site = site ∧ 2 ≤ s.coreState c ∧ s.ctxOf c = ctx) && s.bound c)
  if here ∨ runs then s
  else
    loopN 48 (fun g s =>
      if s.on (F.DIEMEM_REGION_VALID.at site 0 g) ∧ s.rd (F.DIEMEM_REGION_OWNER.at site 0 g) = ctx ∧ !(s.on (F.DIEMEM_REGION_RESIDENT.at site 0 g)) ∧
          !(s.on (F.DIEMEM_REGION_SCRUB.at site 0 g)) then s.scrubStart site g else s) s

/-- NOTICE_HALTED (R324, R190). -/
def State.noticeHalted (s : State) (m : CtlMsg) : State :=
  if !(s.stwNotice 6 m) then s
  else
    let s := s.takeCtl (.ctl m) m.src m.dest
    let ctx := noticeCtx m
    match s.dispatchOf ctx (noticeVcore m) with
    | none => s.scrubWorking ctx m.src
    | some (q, e) =>
      let left := e.left.erase (noticeVcore m)
      let s := s.onEntry q e.ix (fun e => { e with left := left, lsite := m.src, lslot := m.tag })
      let s := if left.isEmpty then s.completeEntry q e.ix 0 else s
      (s.scrubWorking ctx m.src).kick

/-- NOTICE_BOUND (R310, R316). -/
def State.noticeBound (s : State) (m : CtlMsg) : State :=
  let ctx := noticeCtx m
  if !(s.stwNotice 5 m) then s
  else
    let s := s.takeCtl (.ctl m) m.src m.dest
    if !((s.cx ctx).binding) ∨ !((s.cx ctx).wait.contains (noticeVcore m)) then s
    else
      let s := s.onCx ctx (fun k => { k with wait := k.wait.erase (noticeVcore m) })
      if !((s.cx ctx).wait.isEmpty) then s
      else (((s.setCx ctx 2).onCx ctx (fun k => { k with binding := false })).preemptRetry ctx).kick

/-- PREEMPT_DECISION (R314): the head entry of a queue is looked at; its context is bound, or the contexts that block it are switched out, pre-empted or left. A request for one that is being restored or bound is kept until that has ended (R316). -/
def State.preemptDecision (s : State) (q : Nat) : State :=
  let e := s.quCtx q
  if ¬ (s.cxState e = 1 ∨ s.cxState e = 4) ∨ !(s.hasEntry e || (decide (s.cxState e = 4) && s.hasDispatch e)) then s
  else
    let s := s.bindTry e
    if (s.cx e).binding then s
    else
      let r := s.readMap e
      match r.1 with
      | .error _ => s
      | .ok l =>
        each (s.holders e l) (fun d s =>
          if ¬ (s.cxState d = 2 ∨ s.cxState d = 5 ∨ (s.cxState d = 1 ∧ (s.cx d).binding)) ∨ (s.cx d).pre ≠ 0 then s
          else if !(s.hasDispatch d) ∧ !(s.hasEntry d) then s.preempt d false
          else if s.hasDispatch d ∧ s.rd (F.CX_CFG_PRIO.at stw 0 d) < s.rd (F.CX_CFG_PRIO.at stw 0 e) then
            s.preempt d (s.on (F.CX_CFG_PRE_AT.at stw 0 d))
          else s) s

/-- Does a value of LOC name a host port in non-CXL operation, which refuses the queue (R341). -/
def State.locShut (s : State) (loc : Nat) : Bool :=
  decide (loc = 1 ∨ loc = 2) && s.on (F.CP_LINK_UP.at (303 + loc)) && !(s.on (F.CP_LINK_CXL.at (303 + loc)))

/-- QU_ENABLE_WRITE (R338): a write of ENABLE; 0 to 1 empties the queue, and is refused with 0x5405 where LOC names a port without CXL (R341). -/
def State.quEnable (s : State) (q : Nat) (v : Bool) : State :=
  let was := s.on (F.QU_CFG_ENABLE.at stw 0 q)
  if v ∧ !was ∧ s.locShut (s.rd (F.QU_CFG_LOC.at stw 0 q)) then s.cxResult 0x5405 else
  let s := s.wr (F.QU_CFG_ENABLE.at stw 0 q) (bnat v)
  if v ∧ !was then
    let s := (s.wr (F.QU_HEAD_HEAD.at stw 0 q) 0).wr (F.QU_TAIL_TAIL.at stw 0 q) 0
    let s := (s.wr (F.QU_STAT_STOPPED.at stw 0 q) 0).wr (F.QU_STAT_CODE.at stw 0 q) 0
    { s with queues := tset queueInit s.queues [q] queueInit, crds := s.crds.filter (fun e => decide (e.2 ≠ q)), crdWait := s.crdWait.filter (fun e => decide (e.2 ≠ q)) }
  else s

/-- QU_RESTART (R325): the offending entry completes with the stopping code and the queue resumes. -/
def State.quRestart (s : State) (q : Nat) : State :=
  if !(s.on (F.QU_STAT_STOPPED.at stw 0 q)) then s
  else
    let code := s.rd (F.QU_STAT_CODE.at stw 0 q)
    let off := (s.queue q).off
    let s := ((s.wr (F.QU_STAT_STOPPED.at stw 0 q) 0).wr (F.QU_STAT_CODE.at stw 0 q) 0).onQueue q (fun k => { k with off := 0 })
    let s := if off = 0 then s else s.completeEntry q (off - 1) code
    (s.readRing q).kick

/-- QU_FLUSH (R324), and the regions of a context that has no dispatch left on a die (R190). -/
def State.quFlush (s : State) (q : Nat) : State :=
  let ctx := s.quCtx q
  let busy := (s.queue q).ents.any (fun e => decide (e.st = 1))
  let s := s.flushQueue q
  (if busy then each (s.ptDies (s.cxPart ctx)) (fun d s => s.scrubWorking ctx d) s else s).kick

/-- R296 on the sync cells of a context being reset: PURGE for its cores, BREAK, VALID cleared, mappings removed. -/
def State.resetCells (s : State) (ctx : Nat) (cores : List CoreId) : State :=
  let dies := s.ptDies (s.cxPart ctx)
  let s := each dies (fun d s => each cores (fun c s => s.purgeDie d c) s) s
  let l := s.ownCells ctx
  let s := each l (fun e s => (s.breakCell e.1 e.2).wr (F.SY_OWNER_VALID.at e.1 0 e.2) 0) s
  s.unmapCells ctx (l.filter (fun e => s.on (F.SY_OWNER_SHARED.at e.1 0 e.2)))

/-- Die-memory regions of a context taken away through a scrub (R190, R202). -/
def State.dropRegions (s : State) (ctx : Nat) : State :=
  each (s.ptDies (s.cxPart ctx)) (fun d s => loopN 48 (fun g s =>
    if s.on (F.DIEMEM_REGION_VALID.at d 0 g) ∧ s.rd (F.DIEMEM_REGION_OWNER.at d 0 g) = ctx then
      { s.scrubStart d g with regionPend := tset 0 s.regionPend [d, g] (regionPack ctx 0 0) }
    else s) s) s

/-- Every grant of a master removed (R317). -/
def State.dropGrants (s : State) (master : Nat) : State :=
  each (allSites.filter hasAcl) (fun site s =>
    let s := s.setMasks site 0 master 0 0
    if hasRes site then s.setMasks site 1 master 0 0 else s) s

/-- The end of a context's RESET or TEARDOWN, after its drain (R317 steps 3 to 7); at a TEARDOWN its own entries for shared cells go with it (R292). -/
def State.ctxResetEnd (s : State) (ctx : Nat) (tear : Bool) (cores : List CoreId) : State :=
  let mine := cores.filter (fun c => !(s.bound c) || decide (s.ctxOf c = ctx))
  let s := s.resetCells ctx mine
  let qs := (List.range 4096).filter (fun q => decide (s.quCtx q = ctx) && (s.on (F.QU_CFG_ENABLE.at stw 0 q) || s.liveQueues.contains q))
  let s := each qs (fun q s => s.flushQueue q) s
  let s := each mine (fun c s =>
    let s := s.leaveContext c
    if s.coreState c = 0 then s else s.setCoreState c 1) s
  let s := s.onCx ctx (fun _ => ctxInit)
  let s := if tear then
      let s := (s.dropRegions ctx).leavePart ctx
      let s := each ((List.range 4096).filter (fun q => decide (s.quCtx q = ctx) && s.on (F.QU_CFG_ENABLE.at stw 0 q))) (fun q s => s.wr (F.QU_CFG_ENABLE.at stw 0 q) 0) s
      (s.dropGrants ctx).setCx ctx 0
    else
      (each (s.ptDies (s.cxPart ctx)) (fun d s => s.scrubWorking ctx d) s).setCx ctx 1
  s.kick

end Sys2Proof.Machine
end

