-- ==== Sys2Proof/Machine/Guest.lean ====
section
/-! DEFINITION. Guest ports (R374 to R378, R380, R382): training, the capability exchange, packets from a guest, responses to it, retrains and losses of its link. -/

namespace Sys2Proof.Machine

/-- Is a guest fitted at the site (R23). -/
def isGuest (site : Nat) : Bool := decide (partOf site = .guest)

/-- GU_STAT.STATE. -/
def State.guState (s : State) (site : Nat) : Nat := s.rd (F.GU_STAT_STATE.at site)

/-- GU_STAT.STATE set. -/
def State.setGu (s : State) (site v : Nat) : State := s.wr (F.GU_STAT_STATE.at site) v

/-- The guest site's pages other than 0x00 read READY while its link is up (R378). -/
def State.guReady (s : State) (site : Nat) (v : Bool) : State :=
  each [1, 2, 3, 4, 5, 6, 0xA, 0x20] (fun pg s => s.wr (F.PG_STAT_READY.at site pg) (bnat v)) s

/-- The guest's master ID (R302). -/
def guestMaster (site : Nat) : Nat := 1107 + site - 320

/-- A record of a guest port (R380). -/
def State.guRecord (s : State) (site code sev typ cause : Nat) : State :=
  s.report { code := code, site := site, unit := 0xFF, sev := sev, master := guestMaster site, info0 := s.guState site + typ <<< 4, info1 := cause }

/-- A guest link has come up or is down: the packets that were on it are discarded, and the steward commits routes with or without the guest site (R248, R250, R378). -/
def State.guRoutes (s : State) (site : Nat) : State :=
  let s := s.loseCrossing ((attachNodes site).headD 0) site
  { s with ep := { s.ep with todo := s.ep.todo ++ [(10, 0, 0)] } }

/-- GU_ENABLE: 1 starts UCIe training from RESET or FAILED, 0 holds the link in reset (R378, R382). -/
def State.guEnable (s : State) (site : Nat) (v : Bool) : State :=
  if !(isGuest site) then s
  else
    let s := s.wr (F.GU_CTL_ENABLE.at site) (bnat v)
    if !v then (((if s.guState site = 6 ∨ s.guState site = 7 then s.guRoutes site else s).setGu site 0).wr (F.GU_STAT_SPEED.at site) 0).guReady site false
    else if s.guState site = 0 ∨ s.guState site = 8 then s.setGu site 1
    else s

/-- GU_RETRAIN: a UCIe retrain while ACTIVE (R382). -/
def State.guRetrain (s : State) (site : Nat) : State :=
  if isGuest site ∧ s.guState site = 6 then (s.bump (F.GU_RETRAINS_COUNT.at site)).setGu site 7 else s

/-- A guest port's training or exchange fails (R375, R379): 1 no CAP_RSP, 2 version, 3 RXBUF, 4 UCIe training. -/
def State.guFail (s : State) (site cause : Nat) : State :=
  let s := s.setGu site 8
  let s := if cause = 4 then s else s.send (.guestCap site 3 0)
  s.guRecord site 0x6201 2 0 cause

/-- UCIE_TRAINING_DONE: link initialisation ends at a speed (1 16 GT/s, 2 32 GT/s) with lanes repaired, and CAP_REQ is sent; or training fails (R374, R375). -/
def State.ucieDone (s : State) (site : Nat) (ok : Bool) (speed repaired : Nat) : State :=
  if !(isGuest site) ∨ s.guState site = 0 ∨ 4 < s.guState site then s
  else if !ok then s.guFail site 4
  else
    let v := if s.on (F.GU_CTL_SPEED_CAP.at site) then 1 else max 1 (min 2 speed)
    let s := ((s.setGu site 5).wr (F.GU_STAT_SPEED.at site) v).wr (F.GU_STAT_REPAIRED.at site) repaired
    s.send (.guestCap site 1 1)

/-- CAP_RSP: accepted, the port ACTIVE, or refused (R375). -/
def State.capRsp (s : State) (site version rxbuf ident : Nat) : State :=
  if !(isGuest site) ∨ s.guState site ≠ 5 then s
  else if version ≠ 1 then s.guFail site 2
  else if rxbuf < 32 ∨ 1024 < rxbuf then s.guFail site 3
  else
    let s := ((s.wr (F.GU_ID_ID.at site) ident).wr (F.GU_CAP_RXBUF.at site) rxbuf).wr (F.GU_CAP_VERSION.at site) version
    (((s.guRoutes site).setGu site 6).guReady site true).send (.guestCap site 3 1)

/-- CAP_RSP_TIMEOUT (R375). -/
def State.capTimeout (s : State) (site : Nat) : State :=
  if isGuest site ∧ s.guState site = 5 then s.guFail site 1 else s

/-- May a guest send a packet of this TYPE on this VC, in panel memory (R377)? -/
def guestMaySend (p : Pkt) : Bool :=
  decide (((p.type = 1 ∨ p.type = 2 ∨ p.type = 3 ∨ p.type = 5) ∧ p.vc = 0 ∨ p.type = 6 ∧ p.vc = 3) ∧ p.space = 0)

/-- The response TYPE of a request (R242). -/
def rspType (t : Nat) : Nat := if t = 1 ∨ t = 4 then 8 else if t = 6 then 0xA else 9

/-- The operation of a guest's request (R226). -/
def guestOp (type : Nat) : Nat := if type = 2 then 1 else if type = 3 then 9 else if type = 6 then 2 else 0

/-- Does a guest's contribution wait at its port, its die at the limit of R257. -/
def State.guestWaits (s : State) (site : Nat) (p : Pkt) : Bool :=
  decide (p.type = 6) && (match s.xlate ((attachNodes site).headD 0) p.addr with
    | .ok (k, _) => decide (32768 < tget 0 s.accOut [site, k] + p.data.length)
    | .error _ => false)

/-- GUEST_PACKET_RECEIVE: a packet from the guest, after `retries` of the D2D adapter (R377). -/
def State.guestPacket (s : State) (site : Nat) (p : Pkt) (retries : Nat) : State :=
  if !(isGuest site) ∨ s.guState site ≠ 6 ∨ s.guestWaits site p then s
  else
    let s := s.bump (F.GU_ADAPT_RETRY_COUNT.at site) retries
    if p.crc ≠ pktCrc p then s.discard site
    else if !(guestMaySend p) then
      let s := s.bump (F.GU_DISCARD_COUNT.at site)
      let told := tget 0 s.guestTold [site]
      if told ≠ 0 ∧ s.now site < told - 1 + 1000000 then s
      else (s.guRecord site 0x6202 0 p.type 0) |> fun s => { s with guestTold := tset 0 s.guestTold [site] (s.now site + 1) }
    else
      let node := (attachNodes site).headD 0
      let p := { p with src := site, sunit := 0x1F, master := guestMaster site, fence := s.fenceOf site 0x1F, lane := 0 }
      match s.xlate node p.addr with
      | .error cause =>
        let s := s.badAddr { master := p.master, site := site, slot := 0x1F, type := p.type, op := guestOp p.type } p.addr cause
        s.send (.guestOut site (respond { p with dest := site, dunit := 0x1F } (rspType p.type) 0x2202 []))
      | .ok (k, off) =>
        let q := sealPkt { p with dest := 4 * k + 2, dunit := 0x1F, addr := stkAddr k off }
        if !(s.routed site q.dest) then
          (s.noRoute { master := p.master, site := site, slot := 0x1F, type := p.type, op := 0 } p.addr q.dest).send
            (.guestOut site (respond { p with dest := site, dunit := 0x1F } (rspType p.type) 0x3103 []))
        else
          let s : State := if p.type = 5 then s else
            { s with outst := s.outst ++ [({ site := site, unit := 0x1F, pkt := q, tries := 0, why := 7, ref := 0 } : Req)] }
          let s : State := if p.type = 6 then { s with accOut := tset 0 s.accOut [site, k] (tget 0 s.accOut [site, k] + p.data.length) } else s
          s.inject q

/-- A response reaches a guest port and is passed to the guest without its lane, while the link is ACTIVE; any other TYPE is discarded at the port (R376, R377, R378). -/
def State.guestResponse (s : State) (site : Nat) (p : Pkt) : State :=
  if s.guState site = 6 then s.send (.guestOut site { p with lane := 0 }) else s

/-- GUEST_LINK_DOWN: a guest link has retrained and is ACTIVE again, or goes down and stays down; partial packets are discarded, and routes change when it stays down (R248, R250, R378). -/
def State.guestDown (s : State) (site : Nat) (back : Bool) : State :=
  if !(isGuest site) ∨ (s.guState site ≠ 6 ∧ s.guState site ≠ 7) then s
  else
    let s := if s.guState site = 6 ∧ back then s.bump (F.GU_RETRAINS_COUNT.at site) else s
    if back then ((s.loseCrossing ((attachNodes site).headD 0) site).setGu site 6).guRecord site 0x6204 0 0 0
    else ((((s.guRoutes site).setGu site 8).wr (F.GU_STAT_SPEED.at site) 0).guReady site false).guRecord site 0x6203 2 0 0

end Sys2Proof.Machine
end

