-- ==== Sys2Proof/Machine/Sha3.lean ====
section
/-! DEFINITION. SHA3-512 (FIPS 202, R547), over bytes: 25 lanes of 64 bits, lane 5y + x in row y. -/

namespace Sys2Proof.Machine

/-- A lane turned left. -/
def turn (v n : Nat) : Nat := v <<< n % 2 ^ 64 ||| v >>> (64 - n)

/-- Step θ: every lane takes the parities of the columns beside its own. -/
def sponge1 (a : List Nat) : List Nat :=
  let par := (pieces 5 5 a).foldl (List.zipWith (· ^^^ ·)) [0, 0, 0, 0, 0]
  let mix := List.zipWith (fun l r => l ^^^ turn r 1) (par.drop 4 ++ par.take 4) (par.drop 1 ++ par.take 1)
  (pieces 5 5 a).flatMap (List.zipWith (· ^^^ ·) mix)

/-- Steps ρ and π as one walk: from lane (1, 0), each lane turned by the next triangular number goes where the walk moves on to. -/
def sponge2 (a : List Nat) : List Nat :=
  (loopN 24 (fun t (w : List Nat × Nat) =>
    let next := w.2 / 5 + 5 * ((2 * (w.2 % 5) + 3 * (w.2 / 5)) % 5)
    (w.1.set next (turn (a.getD w.2 0) ((t + 1) * (t + 2) / 2 % 64)), next)) (a, 1)).1

/-- Step χ on one row. -/
def sponge3 (row : List Nat) : List Nat :=
  let after (k : Nat) : List Nat := row.drop k ++ row.take k
  List.zipWith (fun v m => v ^^^ m) row (List.zipWith (fun p q => q - (p &&& q)) (after 1) (after 2))

/-- Step ι's constant from the shift register x^8 + x^6 + x^5 + x^4 + 1, and the register seven bits on. -/
def sponge4 (reg : Nat) : Nat × Nat :=
  loopN 7 (fun j (w : Nat × Nat) =>
    (w.1 + w.2 % 2 * 2 ^ (2 ^ j - 1), if w.2 < 128 then 2 * w.2 else (2 * w.2) ^^^ 0x171)) (0, reg)

/-- The permutation: 24 rounds. -/
def permute (a : List Nat) : List Nat :=
  (loopN 24 (fun _ (w : List Nat × Nat) =>
    let c := sponge4 w.2
    let b := (pieces 5 5 (sponge2 (sponge1 w.1))).flatMap sponge3
    (b.set 0 (b.getD 0 0 ^^^ c.1), c.2)) (a, 1)).1

/-- One 72-byte block absorbed. -/
def sha3Absorb (a : List Nat) (blk : List Byte) : List Nat :=
  permute (List.zipWith (· ^^^ ·) a ((pieces 8 9 blk).map leNat ++ List.replicate 16 0))

/-- SHA3-512: 64 bytes. -/
def sha3 (m : List Byte) : List Byte :=
  let fill := 71 - m.length % 72
  let p := m ++ (if fill = 0 then [0x86] else 0x06 :: List.replicate (fill - 1) 0 ++ [0x80])
  ((pieces 72 (p.length / 72) p).foldl sha3Absorb (List.replicate 25 0)).take 8 |>.flatMap (fun v => natLe v 8)

end Sys2Proof.Machine
end

