-- ==== Sys2Proof/Machine/Orchard.lean ====
section
/-! DEFINITION. The orchard map in the repair store (R525 to R533, R545, R546): image, journal, commits, image switches, and the map's entries. -/

namespace Sys2Proof.Machine

/-- Bytes of the repair store (R525). -/
def storeSize : Nat := 0x800000

/-- Offset of an image slot in the store (R525). -/
def slotBaseOf (slot : Nat) : Nat := if slot = 0 then 0x10000 else 0x210000

/-- Offset and size of the journal ring (R525). -/
def ringBase : Nat := 0x410000
/-- Bytes of the journal ring. -/
def ringSize : Nat := 4032 * 1024

/-- Bundles in the bundle table (R526). -/
def bundleCount : Nat := 7460

/-- Bytes of an image before its signature (R526). -/
def imageBytes : Nat := 1185920 + 24 * bundleCount

/-- Bytes of a signature (R547). -/
def sigBytes : Nat := 4627

/-- A byte of the repair store as the panel left the factory: free (log 5), but that the site table of each image slot records the TYPE of every site, and of a guest site whether it is EMPTY, as it was fitted (R23, R527). -/
def assemblyByte (a : Nat) : Byte :=
  let free := Config.storeAtAssembly a
  let off := if a < 0x210000 then a - 0x10000 else a - 0x210000
  let n := (off - 64) / 16
  if a < 0x10000 ∨ off < 64 ∨ 324 ≤ n then free
  else if off % 16 = 1 then BitVec.ofNat 8 (partCode (partOf n))
  else if off % 16 ≠ 0 ∨ n < 320 then free
  else if partOf n = .noGuest then 5
  else if free.toNat % 8 = 5 then 1
  else free

/-- A byte of the repair store, which is kept as it differs from assembly (log 5). -/
def State.storeByte (s : State) (a : Nat) : Byte := mget s.store a ^^^ assemblyByte a

/-- Bytes of the repair store. -/
def State.storeBytes (s : State) (a n : Nat) : List Byte := (List.range n).map (fun i => s.storeByte (a + i))

/-- A little-endian number of the repair store. -/
def State.storeNat (s : State) (a n : Nat) : Nat := leNat (s.storeBytes a n)

/-- Bytes written to the repair store. -/
def State.storePut (s : State) (a : Nat) (bs : List Byte) : State :=
  { s with store := (bs.zipIdx).foldl (fun m e => mset m (a + e.2) (e.1 ^^^ assemblyByte (a + e.2))) s.store }

/-- The address in the store of an offset of the journal ring. -/
def journalAddr (off : Nat) : Nat := ringBase + off % ringSize

/-- Bytes of the journal from an offset of its ring. -/
def State.ringBytes (s : State) (off n : Nat) : List Byte := (List.range n).map (fun i => s.storeByte (journalAddr (off + i)))

/-- Bytes written to the journal at an offset of its ring. -/
def State.ringPut (s : State) (off : Nat) (bs : List Byte) : State :=
  (bs.zipIdx).foldl (fun s e => s.storePut (journalAddr (off + e.2)) [e.1]) s

/-- The slot in use, OR_STAT.SLOT (R545). -/
def State.slotNow (s : State) : Nat := s.rd (F.OR_STAT_SLOT.at stw)

/-- A byte of the map: the image in use with every change since (R526, R532). -/
def State.mapByte (s : State) (a : Nat) : Byte :=
  match tget 0 s.omap [a] with
  | 0 => s.storeByte (slotBaseOf s.slotNow + a)
  | v + 1 => BitVec.ofNat 8 v

/-- Bytes of the map. -/
def State.mapBytes (s : State) (a n : Nat) : List Byte := (List.range n).map (fun i => s.mapByte (a + i))

/-- A little-endian number of the map. -/
def State.mapNat (s : State) (a n : Nat) : Nat := leNat (s.mapBytes a n)

/-- Bytes of the map changed. -/
def State.mapPut (s : State) (a : Nat) (bs : List Byte) : State :=
  { s with omap := (bs.zipIdx).foldl (fun m e => tset 0 m [a + e.2] (e.1.toNat + 1)) s.omap }

/-- The module's serial number (R526). -/
def State.serial (s : State) : List Byte := s.mapBytes 8 16

/-- Place of a site's entry (R526, R527). -/
def siteEntry (n : Nat) : Nat := 64 + 16 * n

/-- Place of a substitution entry (R526, R528). -/
def substEntry (i : Nat) : Nat := 5248 + 4 * i

/-- Place of a channel entry's row word (R526, R528). -/
def rowEntry (p ch bank spare : Nat) : Nat := 6272 + 512 * (32 * p + ch) + 16 * bank + 2 * spare

/-- Place of the bundle entry of a receiving end (R528), found by what it names. -/
def State.bundleEntry (s : State) (site page bundle : Nat) : Option Nat :=
  ((List.range bundleCount).map (fun i => 1185920 + 24 * i)).find? (fun a =>
    decide (s.mapNat a 2 = site ∧ s.mapNat (a + 2) 1 = page ∧ s.mapNat (a + 3) 1 = bundle))

/-- A site's state in the map (R527). The map records an unfitted guest site as EMPTY, and which guest sites are fitted does not change (R23, R30; DEDUCED, log 10). -/
def State.mapState (s : State) (n : Nat) : Nat := if partOf n = .noGuest then 5 else s.mapNat (siteEntry n) 1 % 8

/-- The sites a graft concerns: all of p and q, or stack p, stack s and its regulator (R510, R512). -/
def graftSites (stack : Bool) (p q : Nat) : List Nat :=
  if stack then [4 * p + 2, 4 * q + 2, 4 * q + 3] else [0, 1, 2, 3].flatMap (fun k => [4 * p + k, 4 * q + k])

/-- A record's effect on the map (R529, R532); what GRAFT_BEGIN and GRAFT_END say of a graft left open and of a stack replaced is kept beside it (R512, R533). -/
def State.applyRec (s : State) (r : JRec) : State :=
  let n (i k : Nat) : Nat := leNat ((r.data.drop i).take k)
  if r.kind = 1 then s.mapPut (siteEntry (n 0 2)) ((r.data.drop 2).take 16)
  else if r.kind = 2 then
    match s.bundleEntry (n 0 2) (n 2 1) (n 3 1) with
    | some a => s.mapPut a (r.data.take 24)
    | none => s
  else if r.kind = 3 then s.mapPut (rowEntry (n 0 2) (n 2 1) (n 3 1) (n 4 1)) ((r.data.drop 5).take 2)
  else if r.kind = 4 then s.mapPut (substEntry (n 0 2)) ((r.data.drop 2).take 4)
  else if r.kind = 5 then
    let s := ((s.wr (F.OR_GRAFT_KIND.at stw) (n 0 1)).wr (F.OR_GRAFT_SRC.at stw) (n 1 1)).wr (F.OR_GRAFT_DEST.at stw) (n 2 1)
    { s.wr (F.OR_GRAFT_OPEN.at stw) 1 with
      gf := { s.gf with former := ((graftSites (decide (n 0 1 = 1)) (n 1 1) (n 2 1)).map (fun x => (x, s.mapState x))).filter (fun e => decide (e.2 ≠ 3)) } }
  else if r.kind = 6 then
    let s := s.wr (F.OR_GRAFT_OPEN.at stw) 0
    if n 0 1 = 1 ∧ n 3 1 = 0 then
      { s with substStack := s.substStack.map (fun e => (e.1, if e.2 = 4 * n 1 1 + 2 then 4 * n 2 1 + 2 else e.2)) ++ [(4 * n 1 1 + 2, 4 * n 2 1 + 2)] }
    else s
  else s

/-- A journal record collected for the next group; the steward's map has the change at once (R530). -/
def State.journal (s : State) (kind : Nat) (data : List Byte) : State :=
  let r : JRec := { kind := kind, time := s.now s.steward, data := (data ++ List.replicate 32 0).take 32 }
  let s : State := { s with jpend := s.jpend ++ [r] }
  (s.applyRec r).wr (F.OR_STAT_PENDING.at stw) 1

/-- The 48 bytes of a journal record (R529). -/
def jrecBytes (seq : Nat) (r : JRec) : List Byte := natLe seq 4 ++ natLe r.kind 1 ++ natLe 0 3 ++ natLe r.time 8 ++ r.data

/-- Bytes of a commit group of n records (R530). -/
def groupBytes (n : Nat) : Nat := 48 * (n + 1) + 4704

/-- Bytes of the journal in use. -/
def State.jUsed (s : State) : Nat := s.rd (F.OR_JUSED_BYTES.at stw)

/-- A commit starts when none is being written, records wait, and the ring has room (R530, R531). -/
def State.jCommit (s : State) : State :=
  if s.jpend = [] then s
  else if s.jopen ≠ [] then { s with jwant := true }
  else if ringSize < s.jUsed + groupBytes s.jpend.length then { s with jwant := true }
  else
    { (s.wr (F.OR_STAT_COMMITTING.at stw) 1).wr (F.OR_STAT_PENDING.at stw) 0 with
      jopen := s.jpend, jpend := [], jwant := false, logMark := s.rd (F.EL_NEXT_SEQ.at stw) }

/-- A new image begins to be written into the slot not in use (R531): its JSEQ and its place in the ring. -/
def State.jCompact (s : State) : State :=
  if s.jimg.isSome then s
  else { (s.wr (F.OR_STAT_COMMITTING.at stw) 1) with jimg := some ((s.jseq + s.jopen.length + bnat (s.jopen ≠ [])) % 2 ^ 32, s.jtail + (if s.jopen = [] then 0 else groupBytes s.jopen.length)) }

/-- COMMITTING reads 1 while a commit or an image switch is in progress (R545). -/
def State.jBusy (s : State) : State := s.wr (F.OR_STAT_COMMITTING.at stw) (bnat (s.jopen ≠ [] ∨ s.jimg.isSome))

/-- The control block's journal head and tail (R525), in the order it names them after the slot words (DEDUCED, log 32). -/
def State.jControl (s : State) : State := (s.storePut 8 (natLe s.jhead 4)).storePut 12 (natLe s.jtail 4)

/-- SITE registers loaded from the bytes of a site's entry (R28): state and core masks, GEN counting a change; a site that is no compute die has no mask, and no slot of a STANDBY or GRAFT_PENDING die serves (R562). -/
def State.loadEntry (s : State) (n : Nat) (entry : List Byte) : State :=
  let st := if partOf n = .noGuest then 5 else leNat (entry.take 1) % 8
  let cores := if isDie n ∧ st ≠ 2 ∧ st ≠ 4 then leNat ((entry.drop 4).take 4) % 2 ^ 18 else 0
  let husk := if isDie n then leNat ((entry.drop 8).take 4) % 2 ^ 18 else 0
  if s.siteState n = st ∧ s.rd (F.SITE_CORES_SERVICE.at n) = cores ∧ s.rd (F.SITE_HUSKCORES_HUSK.at n) = husk then s
  else
    (((s.wr (F.SITE_STATE_STATE.at n) st).wr (F.SITE_CORES_SERVICE.at n) cores).wr (F.SITE_HUSKCORES_HUSK.at n) husk).add (F.SITE_STATE_GEN.at n) 1

/-- SITE registers loaded from the map, as bring-up does (R28). -/
def State.loadSite (s : State) (n : Nat) : State := s.loadEntry n (s.mapBytes (siteEntry n) 16)

/-- SITE registers of the entries of a group that is committed (R28, R31): each site's from its last record in the group, not from records that still wait. -/
def State.loadGroup (s : State) (l : List JRec) : State :=
  let entries := l.filter (fun r => decide (r.kind = 1))
  let site (r : JRec) : Nat := leNat (r.data.take 2)
  each (entries.zipIdx.filter (fun e => !((entries.drop (e.2 + 1)).any (fun r => site r == site e.1)))) (fun e s =>
    s.loadEntry (site e.1) ((e.1.data.drop 2).take 16)) s

/-- ORCHARD_COMMIT_DONE: the group is written, GEN advances, an image switch starts at 75% fill, and a waiting commit starts (R530, R531). -/
def State.jCommitDone (s : State) : State :=
  if s.jopen = [] then s
  else
    let gen := (s.rd (F.OR_GEN_GEN.at stw) + 1) % 2 ^ 32
    let k := s.jopen.length
    let recs := (s.jopen.zipIdx).flatMap (fun e => jrecBytes ((s.jseq + e.2) % 2 ^ 32) e.1)
    let close := jrecBytes ((s.jseq + k) % 2 ^ 32)
      { kind := 8, time := s.now s.steward, data := (natLe gen 4 ++ natLe k 4 ++ List.replicate 24 0) }
    let d := sha3 (s.jprev ++ recs ++ close)
    let grpRecs := s.jopen
    let f := s.freeBytes sigBytes
    let grp := recs ++ close ++ d ++ f.1.take sigBytes ++ List.replicate 13 0
    let s := f.2.ringPut s.jtail grp
    let s : State := { s with jopen := [], jseq := (s.jseq + k + 1) % 2 ^ 32, jtail := (s.jtail + grp.length) % ringSize, jprev := d, jgen := gen }
    let s := (s.wr (F.OR_GEN_GEN.at stw) gen).wr (F.OR_JUSED_BYTES.at stw) (s.jUsed + grp.length)
    let s := s.jControl.loadGroup grpRecs
    let s := if 4 * s.jUsed ≥ 3 * ringSize then s.jCompact else s
    let s := if s.jwant then s.jCommit else s
    s.jBusy

/-- The bytes of an image of the map before its signature (R526). -/
def State.imageOf (s : State) (jseq : Nat) : List Byte :=
  natLe 1 4 ++ natLe (s.rd (F.OR_GEN_GEN.at stw)) 4 ++ s.serial ++ natLe jseq 4 ++ natLe bundleCount 2 ++ List.replicate 34 0 ++
    s.mapBytes 64 (imageBytes - 64)

/-- IMAGE_SWITCH_DONE: the image is written, the slot word is switched, and commits that waited go on (R531). -/
def State.jSwitchDone (s : State) : State :=
  match s.jimg with
  | none => s
  | some (seq, at_) =>
    let img := s.imageOf seq
    let slot := 1 - s.slotNow
    let f := s.freeBytes sigBytes
    let s := f.2.storePut (slotBaseOf slot) (img ++ f.1.take sigBytes)
    let s := (s.storePut 0 (natLe slot 4)).storePut 4 (natLe slot 4)
    let s := s.wr (F.OR_STAT_SLOT.at stw) slot
    let s : State := { s with omap := [], jimg := none, jhead := at_ % ringSize, jtold := false,
                              jprev := if s.jseq = seq then sha3 img else s.jprev }
    let s := s.wr (F.OR_JUSED_BYTES.at stw) ((s.jtail + ringSize - s.jhead) % ringSize)
    let s := s.jControl
    let s := if s.jwant then s.jCommit else s
    s.jBusy

/-- An error record kept for the repair store (R515); when the journal is full it is dropped and counted, and 0xB203 is reported once (R531). -/
def State.jError (s : State) (rec : List Byte) : State :=
  if ringSize < s.jUsed + groupBytes (s.jpend.length + 1) then
    let s := s.bump (F.OR_DROPPED_COUNT.at stw)
    if s.jtold then s
    else
      { s with jtold := true }.report { code := 0xB203, site := s.steward, unit := 0xFF, sev := 0, info0 := s.jseq, info1 := 1 }
  else s.journal 7 rec

/-- The slots that serve on a die in service (R562): the 16 lowest that are no husk. -/
def lowestSlots (husk : Nat) : Nat := (((List.range 18).filter (fun i => !(husk.testBit i))).take 16).foldl setBit 0

/-- The slots of a die that serve when it comes into a state (R562): none in STANDBY or GRAFT_PENDING, the 16 lowest that are no husk when it becomes IN_SERVICE; a die that is husked keeps its mask (DESIGN CHOICE, log 63: R28 does not say). -/
def serviceFor (n st was cores husk : Nat) : Nat :=
  if !(isDie n) then 0
  else if st = 2 ∨ st = 4 then 0
  else if st = 1 ∧ was ≠ 1 then lowestSlots husk
  else cores

/-- A site entry journaled (R527, R529). -/
def State.journalSite (s : State) (n st cores husk test : Nat) : State :=
  let a := siteEntry n
  s.journal 1 (natLe n 2 ++ natLe st 1 ++ natLe (partCode (partOf n)) 1 ++ s.mapBytes (a + 2) 2 ++ natLe cores 4 ++ natLe husk 4 ++
    s.mapBytes (a + 12) 2 ++ natLe test 2)

/-- A site put into a state of R30, journaled and committed at once (R530); its SITE registers follow at the commit (R28, R31). -/
def State.setSite (s : State) (n st test : Nat) : State :=
  let was := s.mapState n
  if was = st then s
  else
    let husk := s.mapNat (siteEntry n + 8) 4
    (s.journalSite n st (serviceFor n st was (s.mapNat (siteEntry n + 4) 4) husk) husk test).jCommit

/-- A die's core masks changed, journaled and committed at once (R507, R530); a die that is STANDBY or GRAFT_PENDING keeps SERVICE 0 (R562). -/
def State.setCores (s : State) (n cores husk test : Nat) : State :=
  let st := s.mapState n
  (s.journalSite n st (if st = 2 ∨ st = 4 then 0 else cores) husk test).jCommit

/-- A substitution recorded in the first unused entry of the table (R508, R528). -/
def State.journalSubst (s : State) (entry : Nat) : State :=
  match (List.range 256).find? (fun i => s.mapNat (substEntry i) 4 = 0) with
  | some i => s.journal 4 (natLe i 2 ++ natLe entry 4)
  | none => s

/-- OR_RDATA_READ: the word at ADDR, and ADDR advanced where INC is set (R545, R546). -/
def State.orRdata (s : State) : Nat × State :=
  let a := 4 * s.rd (F.OR_RADDR_ADDR.at stw)
  (s.storeNat a 4, if s.on (F.OR_RADDR_INC.at stw) then s.wr (F.OR_RADDR_ADDR.at stw) (a / 4 + 1) else s)

/-- The records of one journal group from an offset of the ring, up to its COMMIT record: records, GEN, bytes up to and including COMMIT; none where it is incomplete (R530, R532). -/
def State.readGroup (s : State) : Nat → Nat → Nat → List JRec → Option (List JRec × Nat × Nat)
  | 0, _, _, _ => none
  | k + 1, off, seq, acc =>
    let b := s.ringBytes off 48
    let kind := leNat ((b.drop 4).take 1)
    if leNat (b.take 4) ≠ seq ∨ kind = 0 ∨ 9 ≤ kind then none
    else if kind = 8 then
      (if leNat ((b.drop 20).take 4) = acc.length then some (acc, leNat ((b.drop 16).take 4), off + 48) else none)
    else s.readGroup k (off + 48) ((seq + 1) % 2 ^ 32) (acc ++ [{ kind := kind, time := leNat ((b.drop 8).take 8), data := b.drop 16 }])

/-- The journal's groups applied in order to a map, until one fails (R532): from a place of the ring, a JSEQ, and the digest before it. -/
def State.applyGroups (s : State) : Nat → State
  | 0 => s
  | k + 1 =>
    if s.jUsed + 48 > (s.jtail + ringSize - s.jhead) % ringSize then s
    else
      let off := s.jhead + s.jUsed
      match s.readGroup (ringSize / 48) off s.jseq [] with
      | none => { s with jbad := (1, s.jseq) }
      | some (recs, gen, stop) =>
        let d := s.ringBytes stop 64
        let sig := s.ringBytes (stop + 64) sigBytes
        if sha3 (s.jprev ++ s.ringBytes off (stop - off)) ≠ d ∨ !(Config.mldsaVerify Config.deviceKey d sig) then
          { s with jbad := (recs.length + 1, s.jseq) }
        else
          let s := each recs (fun r s => s.applyRec r) s
          let s := (s.wr (F.OR_GEN_GEN.at stw) gen).wr (F.OR_JUSED_BYTES.at stw) (s.jUsed + (stop - off) + 4704)
          let s : State := { s with jseq := (s.jseq + recs.length + 1) % 2 ^ 32, jprev := d, jgen := gen }
          s.applyGroups k

/-- Does an image slot verify under the identity key (R532, R554)? -/
def State.imageGood (s : State) (slot : Nat) : Bool :=
  let b := slotBaseOf slot
  let img := s.storeBytes b imageBytes
  decide (s.storeNat b 4 = 1 ∧ s.storeNat (b + 28) 2 = bundleCount) &&
    Config.mldsaVerify Config.deviceKey (sha3 img) (s.storeBytes (b + imageBytes) sigBytes)

/-- The map verified at step 4 (R532): none where no image verifies, else the map and whether the other slot was used. -/
def State.verifyMap (s : State) (identity : Bool) : Option (Bool × State) :=
  let first := s.storeNat 0 4
  let second := s.storeNat 4 4
  let cands := if first = second then [first, 1 - first] else [first, second]
  if !identity then none
  else
    match cands.zipIdx.find? (fun e => s.imageGood e.1) with
    | none => none
    | some (slot, i) =>
      let b := slotBaseOf slot
      let s := (s.wr (F.OR_STAT_SLOT.at stw) slot).wr (F.OR_GEN_GEN.at stw) (s.storeNat (b + 4) 4)
      let s := s.wr (F.OR_JUSED_BYTES.at stw) 0
      let s : State := { s with omap := [], jpend := [], jopen := [], jwant := false, jimg := none, jtold := false,
                                jseq := s.storeNat (b + 24) 4, jhead := s.storeNat 8 4 % ringSize, jtail := s.storeNat 12 4 % ringSize,
                                jprev := sha3 (s.storeBytes b imageBytes), jgen := s.storeNat (b + 4) 4, jbad := (0, 0) }
      let s := s.applyGroups (ringSize / 4752)
      let s : State := { s with jtail := (s.jhead + s.jUsed) % ringSize }
      some (i ≠ 0, s.wr (F.OR_STAT_VALID.at stw) 1)

/-- A spare slot stands for a failed one, and for every slot that the failed one stood for (R508). -/
def State.addSubst (s : State) (site failed spare : Nat) : State :=
  let old := (List.range 18).filter (fun x => decide (tget 0 s.substCore [site, x] = failed + 1))
  { s with substCore := each (failed :: old) (fun x t => tset 0 t [site, x] (spare + 1)) s.substCore }

/-- A plot's dies stand for another's, and for every die that those stood for (R508). -/
def State.addPlotSubst (s : State) (p q : Nat) : State :=
  { s with substSite := s.substSite.map (fun e => (e.1, if e.2 = 4 * p then 4 * q else if e.2 = 4 * p + 1 then 4 * q + 1 else e.2)) ++
      [(4 * p, 4 * q), (4 * p + 1, 4 * q + 1)] }

/-- The substitutions the map records (R508, R528). -/
def State.loadSubst (s : State) : State :=
  loopN 256 (fun i s =>
    let e := s.mapNat (substEntry i) 4
    if e = 0 then s
    else if e % 2 = 0 then s.addPlotSubst (bits e 7 1) (bits e 14 8)
    else s.addSubst (bits e 9 1) (bits e 14 10) (bits e 19 15)) s

end Sys2Proof.Machine
end

