-- ==== Sys2Proof/Machine/Mesoax.lean ====
section
/-! DEFINITION. Mesoax links (R244 to R248, R363 to R373, R379 to R381): the frame word and its CRC, the retry loop, credits, the wire test, width and pips, training and retraining. -/

namespace Sys2Proof.Machine

/-- The far end of a link: its site and its link number (R381). -/
def linkPeer (site n : Nat) : Option (Nat × Nat) := linkPeerPage site n

/-- The end of a link that keeps its training record and reports it: the lower site number (R380). -/
def lowEnd (site n : Nat) : Nat × Nat :=
  match linkPeer site n with
  | some (q, m) => if q < site then (q, m) else (site, n)
  | none => (site, n)

/-- A link's class and bundles; 0 where no link is. -/
def linkClass (site n : Nat) : Nat := match linkInfo site n with | some (c, _, _) => c | none => 0
/-- A link's bundles. -/
def linkBundles (site n : Nat) : Nat := match linkInfo site n with | some (_, b, _) => b | none => 0

/-- A link end's record at its start: credits full (R248). -/
def linkEndReset : LinkEnd :=
  { resv := [0, 0, 0, 0, 0, 0, 0, 0], pool := [], times := [], dead := false, first := true, before := [], active := 0 }

/-- A bundle end's record after training (R366, R373 step 7). -/
def bundleReset : BundleEnd :=
  { next := 0, replay := [], expect := 0, nak := false, naks := 0, failRun := 0, slots := 0, got := false }

/-- A link end's record. -/
def State.linkEnd (s : State) (site n : Nat) : LinkEnd := tget linkEndReset s.ends [site, n]
/-- A link end's record replaced. -/
def State.setLinkEnd (s : State) (site n : Nat) (r : LinkEnd) : State := { s with ends := tset linkEndReset s.ends [site, n] r }
/-- A bundle end's record. -/
def State.bundle (s : State) (site n b : Nat) : BundleEnd := tget bundleReset s.lanes [site, n, b]
/-- A bundle end's record replaced. -/
def State.setBundle (s : State) (site n b : Nat) (r : BundleEnd) : State := { s with lanes := tset bundleReset s.lanes [site, n, b] r }

/-- CRC-16 of a flit (R222, R367): its 64 data bytes, then frame bits [23:16] and [31:24]. -/
def flitCrc (data : List Byte) (frameHi : Nat) : Nat := crc16 (data ++ natLe frameHi 2)

/-- The frame bits above the CRC (R366). -/
def frameHi (f : Flit) : Nat := f.seq % 64 + (f.ctl % 16) <<< 6 + (f.arg % 64) <<< 10

/-- A beat of a flit (R365): 8 of its bytes, and 4 bits of its frame word on the frame wire. -/
def flitBeat (data : List Byte) (frame i : Nat) : Nat := leNat ((data.drop (8 * i)).take 8) + (bits frame (4 * i + 3) (4 * i)) <<< 64

/-- The 8 beats of a flit in the order they are dealt to the live sub-bundles, 68 bits each (R365, R366). -/
def flitBits (f : Flit) : Nat :=
  let d := (f.data ++ List.replicate 64 0).take 64
  let frame := flitCrc d (frameHi f) + (frameHi f) <<< 16
  (List.range 8).foldl (fun v i => v + (flitBeat d frame i) <<< (68 * i)) 0

/-- The data bytes of the beats received. -/
def beatsData (v : Nat) : List Byte := (List.range 8).flatMap (fun i => natLe (bits v (68 * i + 63) (68 * i)) 8)

/-- The frame word of the beats received. -/
def beatsFrame (v : Nat) : Nat := (List.range 8).foldl (fun w i => w + (bits v (68 * i + 67) (68 * i + 64)) <<< (4 * i)) 0

/-- ML_STAT.STATE of a link. -/
def State.linkState (s : State) (site n : Nat) : Nat := s.rd (F.ML_STAT_STATE.at site n)
/-- ML_BSTAT.STATE of a bundle. -/
def State.bundleState (s : State) (site n b : Nat) : Nat := s.rd (F.ML_BSTAT_STATE.at site n b)
/-- ML_BSTAT.LIVE of a bundle. -/
def State.live (s : State) (site n b : Nat) : Nat := s.rd (F.ML_BSTAT_LIVE.at site n b)

/-- Both ends of a link. -/
def bothEnds (site n : Nat) : List (Nat × Nat) := (site, n) :: (match linkPeer site n with | some e => [e] | none => [])

/-- The slots of the port's shared pool (R245). -/
def poolSize (site n : Nat) : Nat := 64 * linkBundles site n - 32

/-- Is a pool credit allowed to a VC: the pool is not full, MCAST and ACCUM within half of it, REQ within three quarters (R246). -/
def poolAllows (size : Nat) (pool : List Nat) (vc : Nat) : Bool :=
  decide (pool.length < size) &&
    (if vc = 2 ∨ vc = 3 then decide (2 * ((pool.filter (fun v => v = 2 ∨ v = 3)).length + 1) ≤ size)
     else if vc = 0 then decide (4 * ((pool.filter (fun v => v = 0)).length + 1) ≤ 3 * size) else true)

/-- A credit taken for a new flit (R245): a pool credit first (counter 8), then the pair's reserve; none where neither is left. -/
def takeCredit (size : Nat) (e : LinkEnd) (pair : Nat) : Option (Nat × LinkEnd) :=
  if poolAllows size e.pool (pair / 2) then some (8, { e with pool := e.pool ++ [pair / 2] })
  else if e.resv.getD pair 0 < 4 then some (pair, { e with resv := e.resv.set pair (e.resv.getD pair 0 + 1) })
  else none

/-- CTL_CREDIT: credits returned to a reserved counter or to the pool (R247, R368); a pool return frees the oldest charges (DESIGN CHOICE, log 33). -/
def State.creditBack (s : State) (site n ctr count : Nat) : State :=
  let e := s.linkEnd site n
  if ctr = 8 then s.setLinkEnd site n { e with pool := e.pool.drop count }
  else s.setLinkEnd site n { e with resv := e.resv.set ctr (e.resv.getD ctr 0 - count) }

/-- The wire test's outcome of one sub-bundle at a receiver: bits 0 to 31 data, 32 frame, 33 clock, 34 and 35 pips failed. The pips chosen (R371): none where the sub-bundle is not live. -/
def subPips (memory : Bool) (w : Nat) : Option (Nat × Nat) :=
  let bad := ones w 33
  if w.testBit 33 then none
  else if bad = [] then some (0x3F, 0x3F)
  else if !memory then none
  else
    let pips := [0, 1].filter (fun m => !(w.testBit (34 + m)))
    if bad.length > pips.length then none
    else
      let put (m : Nat) : Nat := match (pips.zip bad).find? (fun e => e.1 == m) with | some e => e.2 | none => 0x3F
      some (put 0, put 1)

/-- The link's flits and its loops start afresh (R248, R373 step 7): replay buffers emptied, credits full. -/
def State.clearLoops (s : State) (site n : Nat) : State :=
  each (bothEnds site n) (fun e s =>
    let s := s.setLinkEnd e.1 e.2 { s.linkEnd e.1 e.2 with resv := linkEndReset.resv, pool := [] }
    let s := loopN (linkBundles site n) (fun b s => s.setBundle e.1 e.2 b bundleReset) s
    { s with msgs := s.msgs.filter (fun m => match m with
        | .flit a pg _ _ => !(a == e.1 && pg == e.2)
        | .linkCtl a pg _ _ _ => !(a == e.1 && pg == e.2)
        | _ => true) }) s

/-- The record of a link event (R380), at the lower end. -/
def State.linkRecord (s : State) (site n code sev before changed after first : Nat) : State :=
  let e := lowEnd site n
  let k := linkBundles site n
  let f := if k ≤ 8 then 0 else min first (k - 8)
  let mask (i : Nat) : Nat := if f + i < k then (s.live e.1 e.2 (f + i)) <<< (8 * (i % 4)) else 0
  let more := (ones changed k).any (fun b => decide (b < f ∨ f + 8 ≤ b))
  s.report { code := code, site := e.1, unit := e.2, sev := sev,
             info0 := (match linkPeer e.1 e.2 with | some p => p.1 | none => 0x1FF) + first <<< 9 + bnat more <<< 13 + before <<< 16 + after <<< 20 + f <<< 24,
             info1 := mask 0 + mask 1 + mask 2 + mask 3, info2 := mask 4 + mask 5 + mask 6 + mask 7 }

/-- What a bundle carries: its LIVE mask while it is ACTIVE, nothing else (R371, R379). -/
def State.bundleWidth (s : State) (site n b : Nat) : Nat := if s.bundleState site n b = 2 then s.live site n b else 0

/-- A link starts training (R373): its state machines start together; a first training takes the wires as they test, a retrain keeps exclusions (R372). -/
def State.startTraining (s : State) (site n : Nat) (first : Bool) : State :=
  match linkPeer site n with
  | none => s
  | some _ =>
    let e := lowEnd site n
    if (s.linkEnd e.1 e.2).dead ∨ s.linkState e.1 e.2 = 1 then s
    else
      let k := linkBundles site n
      let s := s.clearLoops site n
      let s := s.setLinkEnd e.1 e.2 { s.linkEnd e.1 e.2 with
        first := first, before := (List.range k).map (s.bundleWidth e.1 e.2), active := s.rd (F.ML_STAT_ACTIVE.at e.1 e.2) }
      each (bothEnds site n) (fun e s =>
        let s := (s.wr (F.ML_STAT_STATE.at e.1 e.2) 1).wr (F.PG_STAT_BUSY.at e.1 (0x10 + e.2)) 1
        loopN k (fun b s =>
          if !first && s.bundleState e.1 e.2 b == 3 then s
          else (s.wr (F.ML_BSTAT_STATE.at e.1 e.2 b) 1).wr (F.ML_BSTAT_TSTEP.at e.1 e.2 b) 1) s) s

/-- A link goes DOWN for the rest of the power-on (R370, R248). -/
def State.linkDead (s : State) (site n : Nat) : State :=
  let e := lowEnd site n
  let before := s.rd (F.ML_STAT_ACTIVE.at e.1 e.2)
  let k := linkBundles site n
  let s := s.clearLoops site n
  let s := (match linkPeer site n with | some (q, _) => s.loseCrossing site q | none => s)
  let s := s.setLinkEnd e.1 e.2 { s.linkEnd e.1 e.2 with dead := true }
  let s := each (bothEnds site n) (fun e s =>
    let s := ((s.wr (F.ML_STAT_STATE.at e.1 e.2) 3).wr (F.ML_STAT_ACTIVE.at e.1 e.2) 0).wr (F.ML_STAT_FULL.at e.1 e.2) 0
    loopN k (fun b s => (s.wr (F.ML_BSTAT_STATE.at e.1 e.2 b) 3).wr (F.ML_BSTAT_LIVE.at e.1 e.2 b) 0) s) s
  s.linkRecord site n 0x6103 2 before (2 ^ k - 1) 0 0

/-- The whole link retrains, all its bundles together (R370); a link in training, off, or down for good is unaffected; the ninth retrain within 1 s puts it DOWN. -/
def State.retrain (s : State) (site n : Nat) : State :=
  let e := lowEnd site n
  let r := s.linkEnd e.1 e.2
  let st := s.linkState e.1 e.2
  if linkPeer site n = none ∨ r.dead ∨ st = 0 ∨ st = 1 then s
  else
    let now := s.now e.1
    let times := (r.times.filter (fun t => decide (now < t + 1000000000))) ++ [now]
    let s := s.setLinkEnd e.1 e.2 { r with times := times }
    let s := each (bothEnds site n) (fun e s => s.bump (F.ML_RETRAINS_COUNT.at e.1 e.2)) s
    if times.length > 8 then s.linkDead site n else s.startTraining site n false

/-- A credit returned in the reverse direction: it joins a return of the same counter that still waits on the bundle (R247). -/
def State.sendCredit (s : State) (site n b ctr : Nat) : State :=
  match linkPeer site n with
  | none => s
  | some (q, m) =>
    match s.msgs.find? (fun x => match x with | .linkCtl a c d e k => a == q && c == m && d == b && e == ctr && k < 63 | _ => false) with
    | some (.linkCtl a c d e k) => { s with msgs := s.msgs.map (fun x => if x = .linkCtl a c d e k then .linkCtl a c d e (k + 1) else x) }
    | _ => s.send (.linkCtl q m b ctr 1)

/-- A CTL sent in the reverse direction (R368). -/
def State.sendCtl (s : State) (site n b ctl arg : Nat) : State :=
  match linkPeer site n with
  | some (q, m) => s.send (.linkCtl q m b ctl arg)
  | none => s

/-- A NAK sent by a receiver: it discards later flits until the expected SEQ arrives; the fourth for one SEQ retrains the link (R369, R370, R505). -/
def State.sendNak (s : State) (site n b : Nat) : State :=
  let r := s.bundle site n b
  let s := s.setBundle site n b { r with nak := true, naks := r.naks + 1 }
  let s := (s.sendCtl site n b 0xA r.expect).bump (F.ML_NAK_COUNT.at site n)
  let e := lowEnd site n
  let s := s.charge (.bundle e.1 (0x10 + e.2) b) 1 0
  if r.naks + 1 ≥ 4 then s.retrain site n else s

/-- An ACK: every flit before SEQ `a` has arrived, and leaves the replay buffer (R369). -/
def ackReplay (l : List (Flit × Nat)) (next a : Nat) : List (Flit × Nat) :=
  if a = next then [] else if l.any (fun e => e.1.seq == a) then l.dropWhile (fun e => e.1.seq != a) else l

/-- A NAK: every buffered flit from SEQ `a` onward is resent in order (R369). -/
def State.nakReplay (s : State) (site n b a : Nat) : State :=
  let l := (s.bundle site n b).replay.dropWhile (fun e => e.1.seq != a)
  match linkPeer site n with
  | none => s
  | some (q, m) => (each l (fun e s => s.send (.flit q m b e.1)) s).bump (F.ML_REPLAY_COUNT.at site n) l.length

/-- A CTL has arrived intact at a sender (R368): credits, ACK, NAK, RETRAIN; the reserved codes and 0xF do nothing. -/
def State.linkCtl (s : State) (site n b ctl arg : Nat) : State :=
  if ctl ≤ 8 then s.creditBack site n ctl arg
  else if ctl = 9 then
    let r := s.bundle site n b
    s.setBundle site n b { r with replay := ackReplay r.replay r.next arg }
  else if ctl = 0xA then s.nakReplay site n b arg
  else if ctl = 0xB then s.retrain site n
  else s

/-- What waits to be carried to a bundle end as CTL, each with its ARG (R368). -/
def State.ctlWaiting (s : State) (site n b : Nat) : List (Nat × Nat) :=
  s.msgs.filterMap (fun m => match m with | .linkCtl a c d k x => if a = site ∧ c = n ∧ d = b then some (k, x) else none | _ => none)

/-- May a slot carry a CTL toward a bundle end (R368): a NAK that waits goes first, then a RETRAIN, which the far end may ask for at any time, then credits and ACKs, none only where none of these waits. Which of credits and an ACK goes first rests on cycles that the model does not count: any of them may (log 62). -/
def State.ctlFits (s : State) (site n b ctl arg : Nat) : Bool :=
  let l := s.ctlWaiting site n b
  if l.any (fun e => e.1 == 0xA) then decide (ctl = 0xA) && l.contains (ctl, arg)
  else decide (ctl = 0xB) || (if l = [] then decide (ctl = 0xF) else l.contains (ctl, arg))

/-- Is a bundle of a link ACTIVE, and the link UP. -/
def State.bundleUp (s : State) (site n b : Nat) : Bool :=
  decide (s.linkState site n = 2 ∧ b < linkBundles site n ∧ s.bundleState site n b = 2)

/-- A flit leaves its sender (R365, R369): a new flit takes the next SEQ, a credit and a place in the replay buffer; a resent flit is in the buffer; an idle flit repeats the last SEQ with zero data. None where the sender sends no such flit. -/
def State.flitSent (s : State) (q m b : Nat) (f : Flit) : Option State :=
  let r := s.bundle q m b
  let old := r.replay.find? (fun e => e.1.seq == f.seq)
  match old with
  | some e => if e.1.data = f.data ∨ (f.seq = (r.next + 63) % 64 ∧ leNat f.data = 0) then some s else none
  | none =>
    if f.seq = r.next then
      if r.replay.length ≥ 63 then none
      else
        match takeCredit (poolSize q m) (s.linkEnd q m) f.pair with
        | none => none
        | some (ctr, e) =>
          some ((s.setLinkEnd q m e).setBundle q m b { r with next := (r.next + 1) % 64, replay := r.replay ++ [(f, ctr)] })
    else if f.seq = (r.next + 63) % 64 ∧ leNat f.data = 0 then some s
    else none

/-- MESOAX_FLIT_RECEIVE: a flit crosses a bundle, `flip` naming the wire bits that changed on the way, and reaches its receiver (R365 to R370). -/
def State.flitReceive (s : State) (site n b : Nat) (f : Flit) (flip : Nat) : State :=
  match linkPeer site n with
  | none => s
  | some (q, m) =>
    if !(s.bundleUp site n b) ∨ !(s.ctlFits site n b f.ctl f.arg) then s
    else
      match s.flitSent q m b f with
      | none => s
      | some s =>
        let s := s.take (.flit site n b f)
        let v := flitBits f ^^^ (flip % 2 ^ 544)
        let hi := beatsFrame v >>> 16
        let ok := decide (flitCrc (beatsData v) hi = beatsFrame v % 65536)
        let r := s.bundle site n b
        let r := { r with slots := r.slots + 1 }
        if !ok then
          let s := s.setBundle site n b { r with failRun := r.failRun + 1 }
          let s := s.sendNak site n b
          if r.failRun + 1 ≥ 16 then s.retrain site n else s
        else
          let r := { r with failRun := 0 }
          let seq := hi % 64
          let hit := decide (seq = r.expect)
          let r := if hit then { r with expect := (r.expect + 1) % 64, nak := false, naks := 0, got := true } else r
          let send := decide (r.slots ≥ 8) && r.got
          let s := s.setBundle site n b (if send then { r with slots := 0, got := false } else r)
          let s := if send then s.sendCtl site n b 9 r.expect else s
          let s :=
            if hit then
              match (s.bundle q m b).replay.find? (fun e => e.1.seq == seq) with
              | some e => s.sendCredit site n b e.2
              | none => s
            else s
          (s.take (.linkCtl site n b (bits hi 9 6) (bits hi 15 10))).linkCtl site n b (bits hi 9 6) (bits hi 15 10)

/-- A slot that carries a CTL arrives intact at a sender (R368). -/
def State.ctlReceive (s : State) (site n b ctl arg : Nat) : State :=
  if s.bundleUp site n b then (s.take (.linkCtl site n b ctl arg)).linkCtl site n b ctl arg else s

/-- NAK_REPEAT_TIMEOUT: the expected SEQ has not arrived, so the NAK is sent again (R369). -/
def State.nakRepeat (s : State) (site n b : Nat) : State :=
  if s.bundleUp site n b && (s.bundle site n b).nak then s.sendNak site n b else s

/-- BUNDLE_TRAIN_TIMEOUT: a bundle still training ends DOWN at both ends (R373). -/
def State.bundleTimeout (s : State) (site n b : Nat) : State :=
  if s.linkState site n = 1 ∧ b < linkBundles site n ∧ s.bundleState site n b = 1 then
    each (bothEnds site n) (fun e s =>
      ((s.wr (F.ML_BSTAT_STATE.at e.1 e.2 b) 3).wr (F.ML_BSTAT_TSTEP.at e.1 e.2 b) 0).wr (F.ML_BSTAT_LIVE.at e.1 e.2 b) 0) s
  else s

/-- The bytes of a receiving end's bundle entry, from its registers (R528). -/
def State.bundleRec (s : State) (site n b : Nat) : List Byte :=
  let pips := (List.range 8).foldl (fun a j =>
    a + (s.rd (F.ML_PIP_PIP0.at site n (8 * b + j)) + (s.rd (F.ML_PIP_PIP1.at site n (8 * b + j))) <<< 6) <<< (12 * j)) 0
  natLe site 2 ++ natLe n 1 ++ natLe b 1 ++ natLe (s.live site n b) 1 ++ natLe (s.bundleState site n b) 1 ++ natLe pips 12 ++ natLe 0 6

/-- One bundle's training ends (R371, R372): `subs` gives the wire tests of the low end's receiver in entries 0 to 7 and of the far end's in 8 to 15; LIVE counts a sub-bundle that both ends pass (DEDUCED, log 34). -/
def State.bundleDone (s : State) (site n b : Nat) (first : Bool) (subs : List Nat) : State :=
  if s.bundleState site n b ≠ 1 then s
  else
    let mem := decide (linkClass site n = 1)
    let lo := lowEnd site n
    let was := s.live lo.1 lo.2 b
    let s := each (bothEnds lo.1 lo.2).zipIdx (fun x s =>
      let e := x.1
      loopN 8 (fun j s =>
        let w := subs.getD (8 * x.2 + j) 0
        let p := (subPips mem w).getD (0x3F, 0x3F)
        let i := 8 * b + j
        let s := (s.wr (F.ML_PIP_PIP0.at e.1 e.2 i) p.1).wr (F.ML_PIP_PIP1.at e.1 e.2 i) p.2
        let s := (s.wr (F.ML_FAILW_DATA.at e.1 e.2 i) w).wr (F.ML_FAILX_FRAME.at e.1 e.2 i) (bit w 32).toNat
        (s.wr (F.ML_FAILX_CLOCK.at e.1 e.2 i) (bit w 33).toNat).wr (F.ML_FAILX_PIPS.at e.1 e.2 i) (if mem then w >>> 34 else 0)) s) s
    let good := (List.range 8).foldl (fun a j =>
      if (subPips mem (subs.getD j 0)).isSome && (subPips mem (subs.getD (8 + j) 0)).isSome then setBit a j else a) 0
    let live := if first then good else good &&& was
    let need := (bothEnds site n).foldl (fun a e => max a (s.rd (F.ML_CTL_MIN_WIDTH.at e.1 e.2))) 0
    let up := if mem then decide (live = 0xFF) else decide (popcount live 8 ≥ need)
    each (bothEnds site n) (fun e s =>
      ((s.wr (F.ML_BSTAT_LIVE.at e.1 e.2 b) live).wr (F.ML_BSTAT_STATE.at e.1 e.2 b) (if up then 2 else 3)).wr (F.ML_BSTAT_TSTEP.at e.1 e.2 b) 0) s

/-- LINK_TRAINING_DONE: every bundle of the link has ended training, so it comes UP or is DOWN, and the change is reported once (R371 to R373, R379, R505). -/
def State.trainingDone (s : State) (site n : Nat) (tests : List (List Nat)) (rtt : Nat) : State :=
  if s.linkState site n ≠ 1 then s
  else
    let lo := lowEnd site n
    let rec_ := s.linkEnd lo.1 lo.2
    let k := linkBundles site n
    let s := loopN k (fun b s => s.bundleDone site n b rec_.first (tests.getD b [])) s
    let act := (List.range k).filter (fun b => s.bundleState site n b == 2)
    let full := decide (act.length = k) && (List.range k).all (fun b => s.live site n b == 0xFF)
    let s := s.clearLoops site n
    let s := (match linkPeer site n with | some (q, _) => s.loseCrossing site q | none => s)
    let s := each (bothEnds site n) (fun e s =>
      let s := (s.wr (F.ML_STAT_STATE.at e.1 e.2) (if act = [] then 3 else 2)).wr (F.ML_STAT_ACTIVE.at e.1 e.2) act.length
      let s := (s.wr (F.ML_STAT_FULL.at e.1 e.2) (bnat full)).wr (F.ML_RTT_CYCLES.at e.1 e.2) rtt
      (s.wr (F.PG_STAT_BUSY.at e.1 (0x10 + e.2)) 0).wr (F.PG_STAT_READY.at e.1 (0x10 + e.2)) 1) s
    let differ := (List.range k).filter (fun b => (bothEnds site n).any (fun e =>
      match s.bundleEntry e.1 e.2 b with
      | some a => s.mapBytes a 24 != s.bundleRec e.1 e.2 b
      | none => true))
    let s := each differ (fun b s => each (bothEnds site n) (fun e s =>
      match s.bundleEntry e.1 e.2 b with
      | some a => if s.mapBytes a 24 = s.bundleRec e.1 e.2 b then s else s.journal 2 (s.bundleRec e.1 e.2 b)
      | none => s.journal 2 (s.bundleRec e.1 e.2 b)) s) s
    let lost := (List.range k).filter (fun b => s.bundleWidth site n b != rec_.before.getD b 0)
    let m (l : List Nat) : Nat := l.foldl setBit 0
    let s := if rec_.first ∧ differ ≠ [] then s.linkRecord site n 0x6104 0 rec_.active (m differ) act.length (differ.headD 0) else s
    if act = [] then s.linkRecord site n 0x6103 2 rec_.active (m (List.range k)) 0 0
    else if rec_.first then s
    else if lost = [] then
      let s := s.linkRecord site n 0x6101 0 rec_.active 0 act.length 0
      each (List.range k) (fun b s => s.charge (.bundle lo.1 (0x10 + lo.2) b) 256 0x6101) s
    else
      let s := s.linkRecord site n 0x6102 0 rec_.active (m lost) act.length (lost.headD 0)
      each lost (fun b s => s.charge (.bundle lo.1 (0x10 + lo.2) b) 1024 0x6102) s

/-- A bundle excluded as a DOWN bundle and its link retrained (R506). -/
def State.excludeBundle (s : State) (site n b : Nat) : State :=
  each (bothEnds site n) (fun e s => (s.wr (F.ML_BSTAT_STATE.at e.1 e.2 b) 3).wr (F.ML_BSTAT_LIVE.at e.1 e.2 b) 0) (s.retrain site n)

/-- Every Mesoax link of a site, by its number. -/
def linksOf (site : Nat) : List Nat := (List.range 16).filter (fun n => (linkInfo site n).isSome)

end Sys2Proof.Machine
end

