-- ==== Sys2Proof/Machine/Routes.lean ====
section
/-! DEFINITION. Tables the steward computes (R250, R251, R258, R265, R413, R511): bulk and sync routes with their detours, multicast trees, interleave lists after a stack is replaced, the control tree and the reference parents. -/

namespace Sys2Proof.Machine

/-- Place of a mesh node among the 216 (R237). -/
def nodeIx (n : Nat) : Nat := 3 * (n / 4) + n % 4
/-- The mesh node at a place. -/
def nodeOf (i : Nat) : Nat := 4 * (i / 3) + i % 3

/-- Is a site of the source plot of a graft whose commit is being made: the plot goes dark after it, and the tables of the commit leave it out (R252, R510, R513). -/
def State.leaving (s : State) (n : Nat) : Bool :=
  decide (n < 288 ∧ s.rd (F.GF_STAT_STATE.at stw) = 5 ∧ plotOf n = s.rd (F.GF_STAT_SRC.at stw) ∧ s.gf.stage = 3) && !(s.on (F.GF_STAT_KIND.at stw))

/-- Is a site no place for a route: dark, or about to go dark (R252). -/
def State.offMesh (s : State) (n : Nat) : Bool := s.dark n || s.leaving n

/-- The node over a port's link, where both ends are on the mesh and the link is up or training; a guest's is up from the exchange of R375 until it goes down (R250, R378). -/
def State.usable (s : State) (n port : Nat) : Option Nat :=
  match portPeer n port with
  | none => none
  | some m =>
    if s.offMesh n ∨ s.offMesh m then none
    else if m ≥ 320 then (if s.rd (F.GU_STAT_STATE.at m) = 6 ∨ s.rd (F.GU_STAT_STATE.at m) = 7 then some m else none)
    else if s.linkState n port = 1 ∨ s.linkState n port = 2 then some m else none

/-- The next port in X then Y order (R250). -/
def dorPort (n d : Nat) : Nat :=
  if gridX d < gridX n then 0 else if gridX n < gridX d then 1 else if gridY d < gridY n then 2 else 3

/-- Hops from every node to one place, one more round of neighbours at a time; 999 where none is known yet. -/
def relax (nb : Array (List Nat)) : Nat → Array Nat → Array Nat
  | 0, d => d
  | k + 1, d =>
    let e := (Array.range 216).map (fun i => ((nb.getD i []).foldl (fun m j => min m (d.getD j 999 + 1)) (d.getD i 999)))
    if e = d then d else relax nb k e

/-- Is the X then Y route between two nodes free of dark nodes and down links (R250)? -/
def State.dorClean (s : State) (d : Nat) : Nat → Nat → Bool
  | 0, n => decide (n = d)
  | k + 1, n =>
    if n = d then true
    else match s.usable n (dorPort n d) with
      | none => false
      | some m => s.dorClean d k m

/-- What a route computation rests on: which ports of each node are usable, and the hops between nodes. -/
structure Net where
  up : Array (List (Nat × Nat))
  dist : Array (Array Nat)

/-- The mesh as it stands. -/
def State.net (s : State) : Net :=
  let up := (Array.range 216).map (fun i => [0, 1, 2, 3].filterMap (fun p => (s.usable (nodeOf i) p).map (fun m => (p, nodeIx m))))
  let nb := up.map (fun l => l.map (fun e => e.2))
  { up := up,
    dist := (Array.range 216).map (fun d =>
      relax nb 216 ((Array.range 216).map (fun i => if i = d ∧ !(s.offMesh (nodeOf d)) then 0 else 999))) }

/-- Hops between two nodes; 999 where no way leads. -/
def Net.hops (w : Net) (n d : Nat) : Nat := (w.dist.getD (nodeIx d) #[]).getD (nodeIx n) 999

/-- The port by which a detour leaves a node toward another: one hop of a shortest way round, the first port of an order among equals (DESIGN CHOICE, log 38). -/
def Net.shortest (w : Net) (order : List Nat) (n d : Nat) : Option Nat :=
  order.find? (fun p => (w.up.getD (nodeIx n) []).any (fun e => e.1 == p && w.hops (nodeOf e.2) d + 1 == w.hops n d))

/-- The entry of a node toward another: port and DETOUR; X then Y where that route is whole, else the port that a choice of detours names (R250). -/
def State.nodeEntry (s : State) (w : Net) (detour : Nat → Nat → Option Nat) (n d : Nat) : Option (Nat × Nat) :=
  if n = d then (if s.offMesh n then none else some (4, 0))
  else if s.offMesh n ∨ s.offMesh d then none
  else if s.dorClean d 40 n then some (dorPort n d, 0)
  else if w.hops n d ≥ 999 then none
  else (detour n d).map (fun p => (p, 1))

/-- The attachment node by which a node reaches a rind site: fewest hops, then lower y, then lower x (R239). -/
def State.attachFor (s : State) (w : Net) (n r : Nat) : Option Nat :=
  let ok := (attachNodes r).filter (fun a => ((rindAt a).zipIdx.any (fun e => e.1 == r && (s.usable a (5 + e.2)).isSome)))
  ok.foldl (fun (b : Option Nat) a =>
    let h (x : Nat) := (w.dist.getD (nodeIx x) #[]).getD (nodeIx n) 999
    match b with
    | none => if h a ≥ 999 then none else some a
    | some c =>
      if h a < h c ∨ (h a = h c ∧ (gridY a < gridY c ∨ (gridY a = gridY c ∧ gridX a < gridX c))) then some a else some c) none

/-- The entry of a node toward any site (R250). -/
def State.routeEntry (s : State) (w : Net) (detour : Nat → Nat → Option Nat) (n d : Nat) : Option (Nat × Nat) :=
  if isNode d then s.nodeEntry w detour n d
  else if (attachNodes d).isEmpty ∨ s.dark d ∨ s.offMesh n then none
  else
    match s.attachFor w n d with
    | none => none
    | some a =>
      if a = n then ((rindAt n).zipIdx.find? (fun e => e.1 == d)).map (fun e => (5 + e.2, 0))
      else s.nodeEntry w detour n a

/-- The entry of a rind die toward a site (R239, R250): its attachment fewest hops from the destination, ties to the lower y, then the lower x, among those whose link can carry it. -/
def State.rindEntry (s : State) (w : Net) (r d : Nat) : Option (Nat × Nat) :=
  if r = d ∨ s.dark r ∨ s.offMesh d then none
  else
    let hops (a : Nat) : Nat :=
      let at_ (x : Nat) : Nat := (w.dist.getD (nodeIx x) #[]).getD (nodeIx a) 999
      if isNode d then at_ d else match s.attachFor w a d with | some x => at_ x | none => 999
    let ok := (attachNodes r).zipIdx.filter (fun e =>
      (rindAt e.1).zipIdx.any (fun x => x.1 == r && (s.usable e.1 (5 + x.2)).isSome) && decide (hops e.1 < 999))
    (ok.foldl (fun (b : Option (Nat × Nat)) e =>
      match b with
      | none => some e
      | some c =>
        if hops e.1 < hops c.1 ∨ (hops e.1 = hops c.1 ∧ (gridY e.1 < gridY c.1 ∨ (gridY e.1 = gridY c.1 ∧ gridX e.1 < gridX c.1))) then some e else some c) none).map
      (fun e => (e.2, 0))

/-- The rind dies with a route table of their own: those with a BULK page (R37, R250, R252). -/
def rindRouters : List Nat := allSites.filter (fun n => decide (288 ≤ n) && decide (blockOf n 4 = some .bulk))

/-- The routers' entry in force toward a site. -/
def State.activeEntry (s : State) (n d : Nat) : Option (Nat × Nat) :=
  let i := 512 * s.activeCopy n 1 + d
  if s.on (F.BK_RT_ENTRY_VALID.at n 0 i) then some (s.rd (F.BK_RT_ENTRY_PORT.at n 0 i), s.rd (F.BK_RT_ENTRY_DETOUR.at n 0 i)) else none

/-- The lane-1 links that a packet takes one after another from a node toward a site (R250, R251): a link is 4 × node + port. -/
def laneOne (entry : Nat → Nat → Option (Nat × Nat)) (d : Nat) : Nat → Nat → Bool → Option Nat → List (Nat × Nat)
  | 0, _, _, _ => []
  | k + 1, n, lane, last =>
    match entry n d with
    | none => []
    | some (port, detour) =>
      match portPeer n port with
      | none => []
      | some m =>
        if !(isNode m) then []
        else
          let one := lane || detour == 1
          let here := 4 * nodeIx n + port
          let more := laneOne entry d k m one (if one then some here else none)
          if one then (match last with | some l => (l, here) :: more | none => more) else more

/-- Every dependency between lane-1 link buffers of a set of tables (R251), as marks of link × 4 + next port. -/
def laneGraph (entry : Nat → Nat → Option (Nat × Nat)) : List (Nat × Nat) :=
  allSites.flatMap (fun d => allNodes.flatMap (fun n =>
    match entry n d with
    | some (_, 1) => laneOne entry d 64 n false none
    | _ => []))

/-- Links with no dependency on a link that remains are removed, until none is. -/
def peel (edges : List (Nat × Nat)) : Nat → List (Nat × Nat)
  | 0 => edges
  | k + 1 =>
    let srcs := edges.map (fun e => e.1)
    let rest := edges.filter (fun e => srcs.contains e.2)
    if rest.length = edges.length then rest else peel rest k

/-- Is a dependency graph acyclic (R251)? -/
def acyclic (edges : List (Nat × Nat)) : Bool := (peel edges.eraseDups 865).isEmpty

/-- The orders of detour ports that the steward tries (DESIGN CHOICE, log 38). -/
def detourOrders : List (List Nat) := [[0, 1, 2, 3], [1, 0, 3, 2], [2, 3, 0, 1], [3, 2, 1, 0]]

/-- Does a route from a node end at a node within as many hops as there are nodes? -/
def routeEnds (entry : Nat → Nat → Option (Nat × Nat)) (d : Nat) : Nat → Nat → Bool
  | 0, n => decide (n = d)
  | k + 1, n => decide (n = d) || (match (entry n d).bind (fun e => portPeer n e.1) with
    | some m => routeEnds entry d k m
    | none => false)

/-- Every choice of a port for each of a list of pairs, one after another, until one is fit. -/
def findDetours (ports : Nat → List Nat) (fit : List (Nat × Nat × Nat) → Bool) : List (Nat × Nat) → List (Nat × Nat × Nat) → Option (List (Nat × Nat × Nat))
  | [], l => if fit l then some l else none
  | e :: rest, l => (ports e.1).findSome? (fun p => findDetours ports fit rest ((e.1, e.2, p) :: l))

/-- Detour ports as a list chooses them. -/
def pickDetour (l : List (Nat × Nat × Nat)) (n d : Nat) : Option Nat := (l.find? (fun e => e.1 == n && e.2.1 == d)).map (fun e => e.2.2)

/-- The pairs of nodes that need a detour: a way leads from one to the other, and the X then Y route is broken (R250). -/
def State.brokenPairs (s : State) (w : Net) : List (Nat × Nat) :=
  allNodes.flatMap (fun n => (allNodes.filter (fun d => decide (n ≠ d ∧ w.hops n d < 999) && !(s.offMesh n) && !(s.offMesh d) && !(s.dorClean d 40 n))).map (fun d => (n, d)))

/-- A set of tables that the steward accepts (R251), as the detour ports that give it: shortest ways by the orders tried first; where none of these is acyclic, any choice of ports that leads every packet to its place and is; none where no such set exists. -/
def State.acceptable (s : State) : Option (Nat → Nat → Option Nat) :=
  let w := s.net
  let fit (c : Nat → Nat → Option Nat) : Bool := acyclic (laneGraph (s.routeEntry w c))
  match (detourOrders.map w.shortest).find? fit with
  | some c => some c
  | none =>
    let pairs := s.brokenPairs w
    let ends (l : List (Nat × Nat × Nat)) : Bool := pairs.all (fun e => routeEnds (s.nodeEntry w (pickDetour l)) e.2 216 e.1)
    (findDetours (fun n => (w.up.getD (nodeIx n) []).map (fun e => e.1)) (fun l => ends l && fit (pickDetour l)) pairs []).map pickDetour

/-- One entry of a router's pending tables written: the bulk table and the sync table alike (R250, R269). -/
def State.putRoute (s : State) (n d : Nat) (e : Option (Nat × Nat)) : State :=
  let v := e.getD (7, 0)
  let i := 512 * s.viewCopy n 1 1 + d
  let j := 512 * s.viewCopy n 3 1 + d
  let s := ((s.wr (F.BK_RT_ENTRY_PORT.at n 0 i) v.1).wr (F.BK_RT_ENTRY_DETOUR.at n 0 i) v.2).wr (F.BK_RT_ENTRY_VALID.at n 0 i) (bnat e.isSome)
  ((s.wr (F.SN_RT_ENTRY_PORT.at n 0 j) v.1).wr (F.SN_RT_ENTRY_DETOUR.at n 0 j) v.2).wr (F.SN_RT_ENTRY_VALID.at n 0 j) (bnat e.isSome)

/-- The sync routers' entry in force and pending toward a site (R269). -/
def State.activeSync (s : State) (n d : Nat) : Option (Nat × Nat) := s.hop 3 n d

/-- Are two sets of tables acyclic together (R251)? -/
def together (a b : Nat → Nat → Option (Nat × Nat)) : Bool := acyclic (laneGraph a ++ laneGraph b)

/-- An intermediate set (R251): one whose union with the old tables and whose union with the new ones are acyclic, by the first order that gives one; where none does, the new set without the entries that change (DESIGN CHOICE, log 38). -/
def State.midRoutes (s : State) (w : Net) (old new : Nat → Nat → Option (Nat × Nat)) : Nat → Nat → Option (Nat × Nat) :=
  match detourOrders.find? (fun o => together old (s.routeEntry w (w.shortest o)) && together (s.routeEntry w (w.shortest o)) new) with
  | some o => s.routeEntry w (w.shortest o)
  | none => fun n d => if new n d == old n d then new n d else none

/-- New route tables written into every router's pending tables, and every rind die's (R250, R251): none where no set is acceptable; the flag says that they are an intermediate set, because old and new tables together have a cycle. -/
def State.prepRoutes (s : State) : Option (Bool × State) :=
  match s.acceptable with
  | none => none
  | some detour =>
    let w := s.net
    let new := s.routeEntry w detour
    let whole := together s.activeEntry new && together s.activeSync new
    let put := if whole then new else s.midRoutes w (if together s.activeEntry new then s.activeSync else s.activeEntry) new
    let t := each (allNodes.filter (fun n => !(s.dark n))) (fun n s0 => each allSites (fun d s0 => s0.putRoute n d (put n d)) s0) s
    some (!whole, each (rindRouters.filter (fun n => !(s.dark n))) (fun n s0 => each allSites (fun d s0 => s0.putRoute n d (s.rindEntry w n d)) s0) t)

/-- The pending entry of a router toward a site. -/
def State.pendingEntry (s : State) (n d : Nat) : Option (Nat × Nat) :=
  let i := 512 * s.viewCopy n 1 1 + d
  if s.on (F.BK_RT_ENTRY_VALID.at n 0 i) then some (s.rd (F.BK_RT_ENTRY_PORT.at n 0 i), s.rd (F.BK_RT_ENTRY_DETOUR.at n 0 i)) else none

/-- The pending entry of a sync router toward a site (R269). -/
def State.pendingSync (s : State) (n d : Nat) : Option (Nat × Nat) :=
  let i := 512 * s.viewCopy n 3 1 + d
  if s.on (F.SN_RT_ENTRY_VALID.at n 0 i) then some (s.rd (F.SN_RT_ENTRY_PORT.at n 0 i), s.rd (F.SN_RT_ENTRY_DETOUR.at n 0 i)) else none

/-- Does the steward accept the pending route tables that a commit names as they stand (R251, R269): they are acyclic, and so is their union with the tables in force. -/
def State.routesFit (s : State) (mask : Nat) : Bool :=
  (!(mask.testBit 1) || together s.activeEntry s.pendingEntry) && (!(mask.testBit 3) || together s.activeSync s.pendingSync)

/-- Has a pending route table that a commit names a cycle of its own (R251, R269)? -/
def State.routesBad (s : State) (mask : Nat) : Bool :=
  (mask.testBit 1 && !(acyclic (laneGraph s.pendingEntry))) || (mask.testBit 3 && !(acyclic (laneGraph s.pendingSync)))

/-- One entry of a router's pending table written: `unit` 1 the bulk table, 3 the sync table. -/
def State.putOne (s : State) (unit n d : Nat) (e : Option (Nat × Nat)) : State :=
  let v := e.getD (7, 0)
  let i := 512 * s.viewCopy n unit 1 + d
  if unit = 1 then ((s.wr (F.BK_RT_ENTRY_PORT.at n 0 i) v.1).wr (F.BK_RT_ENTRY_DETOUR.at n 0 i) v.2).wr (F.BK_RT_ENTRY_VALID.at n 0 i) (bnat e.isSome)
  else ((s.wr (F.SN_RT_ENTRY_PORT.at n 0 i) v.1).wr (F.SN_RT_ENTRY_DETOUR.at n 0 i) v.2).wr (F.SN_RT_ENTRY_VALID.at n 0 i) (bnat e.isSome)

/-- Every pending entry of one of the routers' tables, and an intermediate set in their place (R251). -/
def State.stepAside (s : State) (unit : Nat) (old new : Nat → Nat → Option (Nat × Nat)) : List (Nat × Nat × Nat × Option (Nat × Nat)) × State :=
  let nodes := allNodes.filter (fun n => !(s.dark n))
  let mid := s.midRoutes s.net old new
  (nodes.flatMap (fun n => allSites.map (fun d => (unit, n, d, new n d))),
   each nodes (fun n s0 => each allSites (fun d s0 => s0.putOne unit n d (mid n d)) s0) s)

/-- A plot's site replaced by the site of equal place in another plot. -/
def replaceSite (p q n : Nat) : Nat := if plotOf n = p ∧ n < 288 then 4 * q + n % 4 else n

/-- The multicast groups that some router holds (R258). -/
def State.groupsHeld (s : State) : List Nat :=
  (s.fld.filterMap (fun e => match e.1 with
    | [site, 4, 0x93b, i] => if i / 4096 = s.activeCopy site 2 then some (i % 4096) else none
    | _ => none)).eraseDups

/-- The nodes and ports of the routes from a root to a die, by the pending route tables (R258). -/
def State.treeHops (s : State) (d : Nat) : Nat → Nat → List (Nat × Nat)
  | 0, _ => []
  | k + 1, n =>
    if n = d then [(n, 4)]
    else
      let i := 512 * s.viewCopy n 1 1 + d
      if !(s.on (F.BK_RT_ENTRY_VALID.at n 0 i)) then []
      else
        let port := s.rd (F.BK_RT_ENTRY_PORT.at n 0 i)
        match portPeer n port with
        | none => []
        | some m => (n, port) :: s.treeHops d k m

/-- One group's tree rebuilt in the pending tables, with plot p's sites replaced by plot q's (R258, R511 step 4). -/
def State.prepGroup (s : State) (p q g : Nat) : State :=
  let at_ (f : Fld) (n : Nat) (v : Nat) : Loc := f.at n 0 (4096 * s.viewCopy n 2 v + g)
  let holds := allNodes.filter (fun n => s.on (at_ F.BK_MC_ENTRY_VALID n 0))
  match holds with
  | [] => s
  | h :: _ =>
    let root := replaceSite p q (s.rd (at_ F.BK_MC_ENTRY_ROOTSITE h 0))
    let owner := s.rd (at_ F.BK_MC_ENTRY_OWNER h 0)
    let tmo := s.rd (at_ F.BK_MC_TMO_TMO h 0)
    let nd := s.rd (at_ F.BK_MC_NDIES_NDIES h 0)
    let targets := (holds.filter (fun n => (s.rd (at_ F.BK_MC_ENTRY_PORTS n 0)).testBit 4)).map (fun n => (replaceSite p q n, s.rd (at_ F.BK_MC_CORES_CORES n 0)))
    let hops := targets.flatMap (fun t => s.treeHops t.1 64 root)
    each allNodes (fun n s0 =>
      let ports := (hops.filter (fun e => e.1 == n)).foldl (fun m e => setBit m e.2) 0
      let on := decide (ports ≠ 0)
      let cores := ((targets.find? (fun t => t.1 == n)).map (fun t => t.2)).getD 0
      if !on && !(s.on (at_ F.BK_MC_ENTRY_VALID n 0)) && !(s.on (at_ F.BK_MC_ENTRY_VALID n 1)) then s0
      else
        let s0 := (s0.wr (at_ F.BK_MC_ENTRY_PORTS n 1) ports).wr (at_ F.BK_MC_ENTRY_ROOT n 1) (bnat (on && n == root))
        let s0 := (s0.wr (at_ F.BK_MC_ENTRY_ROOTSITE n 1) (if on then root else 0)).wr (at_ F.BK_MC_ENTRY_OWNER n 1) (if on then owner else 0)
        let s0 := (s0.wr (at_ F.BK_MC_ENTRY_VALID n 1) (bnat on)).wr (at_ F.BK_MC_CORES_CORES n 1) cores
        (s0.wr (at_ F.BK_MC_TMO_TMO n 1) (if on then tmo else 0)).wr (at_ F.BK_MC_NDIES_NDIES n 1) (if on then nd else 0)) s

/-- Every group's tree rebuilt (R511). -/
def State.prepGroups (s : State) (p q : Nat) : State := each s.groupsHeld (fun g s => s.prepGroup p q g) s

/-- The sites with an ADDRMAP page that can be reached (R44). -/
def State.mapSites (s : State) : List Nat := allSites.filter (fun n => decide (blockOf n 7 = some .addrmap) && !(s.dark n))

/-- Every ADDRMAP page's pending table: the active one with stack p replaced by q (R44, R511, R512). -/
def State.prepMaps (s : State) (p q : Nat) : State :=
  let ref := (s.mapSites.find? (fun n => decide (plotOf n ≠ q ∨ 288 ≤ n))).getD 0
  each s.mapSites (fun n s => loopN 64 (fun i s =>
    let a := 64 * s.viewCopy ref 0 0 + i
    let b := 64 * s.viewCopy n 0 1 + i
    let s := each [F.AM_SET_VALID, F.AM_SET_N, F.AM_BASE_BASE, F.AM_SIZE_SIZE, F.AM_START_START] (fun f s => s.wr (f.at n 0 b) (s.rd (f.at ref 0 a))) s
    loopN 64 (fun j s =>
      let v := s.rd (F.AM_LIST_P.at ref 0 (64 * a + j))
      s.wr (F.AM_LIST_P.at n 0 (64 * b + j)) (if v = p ∧ j < s.rd (F.AM_SET_N.at ref 0 a) then q else v)) s) s) s

/-- Depths of the control tree over the nodes that are not dark (R265): the trunk nodes at 1. -/
def State.treeDepths (s : State) : Array Nat :=
  let nb := (Array.range 216).map (fun i => [0, 1, 2, 3].filterMap (fun p =>
    match portPeer (nodeOf i) p with
    | some m => if s.dark m ∨ s.dark (nodeOf i) then none else some (nodeIx m)
    | none => none))
  relax nb 216 ((Array.range 216).map (fun i => if trunkNodes.contains (nodeOf i) ∧ !(s.dark (nodeOf i)) then 1 else 999))

/-- The control tree rebuilt by the rule of R265; each node whose parent changes is reported with 0x3401 where `tell` is set; a node that no path of depth 16 at most reaches is fenced and reported with 0x3402 (R265, R273, R274). A regulator goes with the die it is a leaf below; below a dark die it keeps its place, since R512 has it work there (DEDUCED, log 65). -/
def State.rebuildTree (s : State) (tell : Bool) : State :=
  let d := s.treeDepths
  let s := each (allNodes.filter (fun n => !(s.dark n))) (fun n s =>
    let here := d.getD (nodeIx n) 999
    let up := if here = 1 then some (s.steward, 0)
      else ([0, 1, 2, 3].findSome? (fun p => match portPeer n p with
        | some m => if !(s.dark m) && d.getD (nodeIx m) 999 + 1 == here then some (m, p ^^^ 1) else none
        | none => none))
    match if here ≤ 16 then up else none with
    | none =>
      if s.on (F.PG_STAT_FENCED.at n) then s
      else
        let near := s.rd (F.CN_TREE_PARENT.at n)
        let port := match [0, 1, 2, 3].find? (fun p => portPeer n p == some near) with | some p => p ^^^ 1 | none => 0
        (s.fenceSite n true).report { code := 0x3402, site := n, unit := 0xFF, sev := 2, info0 := near + port <<< 9, info1 := 0 }
    | some (m, port) =>
      if s.rd (F.CN_TREE_PARENT.at n) = m ∧ s.rd (F.CN_TREE_DEPTH.at n) = here then s
      else
        let s := (s.wr (F.CN_TREE_PARENT.at n) m).wr (F.CN_TREE_DEPTH.at n) here
        if tell then s.report { code := 0x3401, site := n, unit := 0xFF, sev := 0, info0 := m + port <<< 9, info1 := here } else s) s
  let s := each ((List.range 72).map (fun p => 4 * p + 3)) (fun r s =>
    let n := treeParentOf r
    let here := s.rd (F.CN_TREE_DEPTH.at n) + 1
    if s.dark n ∨ s.rd (F.PG_STAT_FENCED.at n) = 1 ∨ s.rd (F.CN_TREE_DEPTH.at r) = here then s
    else
      let s := (s.wr (F.CN_TREE_PARENT.at r) n).wr (F.CN_TREE_DEPTH.at r) here
      if tell then s.report { code := 0x3401, site := r, unit := 0xFF, sev := 0, info0 := n, info1 := here } else s) s
  let s := (s.wr (F.CN_TREE_PARENT.at s.steward) 0x1FF).wr (F.CN_TREE_DEPTH.at s.steward) 0
  each (allSites.filter (fun n => decide (288 ≤ n ∧ blockOf n 5 = some .ctrlnet ∧ n ≠ s.steward))) (fun n s =>
    (s.wr (F.CN_TREE_PARENT.at n) s.steward).wr (F.CN_TREE_DEPTH.at n) 1) s

/-- Hops of the reference from node (12, 0) over nodes that are not dark (R413). -/
def State.refDepths (s : State) (lost : Nat) : Array Nat :=
  let ok (n : Nat) : Bool := !(s.dark n) && n != lost
  let nb := (Array.range 216).map (fun i => [0, 1, 2, 3].filterMap (fun p =>
    match portPeer (nodeOf i) p with
    | some m => if ok m ∧ ok (nodeOf i) then some (nodeIx m) else none
    | none => none))
  let root := nodeAt 12 0
  relax nb 216 ((Array.range 216).map (fun i => if nodeOf i = root ∧ ok root then 0 else 999))

/-- The reference parent that the steward chooses for a site, by least depth and avoiding dark nodes (R413, R414). -/
def State.refChoice (s : State) (n lost : Nat) : Option Nat :=
  let d := s.refDepths lost
  if isNode n then
    if n = nodeAt 12 0 then (if lost = 309 then none else some 309)
    else
      let nb := ([0, 1, 2, 3].filterMap (portPeer n)).filter (fun m => !(s.dark m) && m != lost && m != n && d.getD (nodeIx m) 999 != 999)
      let best := nb.foldl (fun k m => min k (d.getD (nodeIx m) 999)) 999
      nb.find? (fun m => d.getD (nodeIx m) 999 == best)
  else if n < 288 then some (treeParentOf n)
  else (attachNodes n).find? (fun a => !(s.dark a) && a != lost)

end Sys2Proof.Machine
end

