-- ==== Sys2Proof/Machine/Clock.lean ====
section
/-! DEFINITION. Clocks, frequency and panel time (R412 to R432): the reference and its inputs, PLLs, droop, the frequency ladder, panel time, and epoch commits. -/

namespace Sys2Proof.Machine

/-- A clock record (R429): a related site, 0x1FF where there is none, EP_MASK, and T or an offset. -/
def State.clockRec (s : State) (code site sev rel mask t : Nat) : State :=
  s.report { code := code, site := site, unit := 0xFF, sev := sev, info0 := rel + mask <<< 9, info1 := t % 2 ^ 32, info2 := (t >>> 32) % 2 ^ 32 }

/-- The sites with a CLK page (R37, R421). -/
def hasClk (n : Nat) : Bool := decide (blockOf n 1 = some .clk)

/-- Does the reference reach a site: along CK_REFPARENT over sites that are not dark, up to the clock die (R413, R414). -/
def State.refReach (s : State) : Nat → Nat → Bool
  | 0, n => decide (n = 309)
  | k + 1, n => if n = 309 then true else if s.dark n then false else s.refReach k (s.rd (F.CK_REFPARENT_SITE.at n))

/-- Panel time moved by a command of the time frames (R422, R424): every site that the frames reach follows; the others keep their own count. -/
def State.setTime (s : State) (t : Nat) : State :=
  let t := t % 2 ^ 64
  let stay := allSites.filter (fun n => hasClk n && !(s.refReach 40 n))
  { s with time := t,
           drift := each stay (fun n d => tset 0 d [n] ((tget 0 s.drift [n] + s.time + 2 ^ 64 - t) % 2 ^ 64)) s.drift }

/-- TIME_LOAD: every tick counter takes the carried value V at one moment, and TVALID sets (R414, R422); the frame carries V / 4. -/
def State.timeLoad (s : State) (v4 : Nat) : State :=
  let s := s.setTime (4 * (v4 % 2 ^ 62))
  each (allSites.filter (fun n => hasClk n && s.refReach 40 n && !(s.dark n))) (fun n s =>
    ({ s with drift := tset 0 s.drift [n] 0 } : State).wr (F.CK_STAT_TVALID.at n) 1) s

/-- TIME_SLEW: the 64 ticks of the frame pass, 1 ns added or withheld at each INTERVAL-th (R422). -/
def State.timeSlew (s : State) (sign : Bool) (interval : Nat) : State :=
  let k := if interval = 0 then 0 else 64 / interval
  let s : State := { s with ticks := s.ticks + 64 }
  let out : State := { s with time := s.time + 640 }
  if sign then out.setTime (s.time + 640 + 2 ^ 64 - k) else out.setTime (s.time + 640 + k)

/-- One tick of the reference (R421), with the slew that RC_ADJ sets (R424, R431). -/
def State.tick (s : State) : State :=
  let iv := s.rd (F.RC_ADJ_INTERVAL.at 309)
  let n := s.ticks + 1
  let s : State := { s with ticks := n, time := (s.time + 10) % 2 ^ 64 }
  if iv < 100 ∨ n % iv ≠ 0 then s
  else if s.on (F.RC_ADJ_SIGN.at 309) then s.setTime (s.time + 2 ^ 64 - 1) else s.setTime (s.time + 1)

/-- RC_STEP_CMD: panel time steps by the signed RC_STEP; a backward step is discarded while a partition is VALID (R424). -/
def State.rcStep (s : State) : State :=
  let v := s.rd (F.RC_STEP.at 309)
  if v.testBit 63 ∧ (List.range 64).any (fun p => s.ptValid p) then s
  else (s.setTime (s.time + v)).clockRec 0x9301 309 0 0x1FF 0 v

/-- Is a reference input present: 0 A, 1 B (R431). -/
def refOk (input : Nat) : Fld := if input = 0 then F.RC_STAT_A_OK else F.RC_STAT_B_OK

/-- The clock die takes an input (R412). -/
def State.takeInput (s : State) (input : Nat) : State :=
  ((s.wr (F.RC_STAT_ACTIVE.at 309) input).bump (F.RC_SWITCHES_COUNT.at 309)).clockRec 0x9101 309 0 0x1FF 0 0

/-- REF_INPUT_LOST: an input misses 4 edges; the clock die switches where AUTO is set and the other input is present, else holds over, with 0x9102 once both are lost (R412). -/
def State.refLost (s : State) (input : Nat) : State :=
  let i := input % 2
  if !(s.on ((refOk i).at 309)) then s
  else
    let s := s.wr ((refOk i).at 309) 0
    let other := s.on ((refOk (1 - i)).at 309)
    let act := s.rd (F.RC_STAT_ACTIVE.at 309)
    if act = i ∧ s.on (F.RC_CTL_AUTO.at 309) ∧ other then s.takeInput (1 - i)
    else
      let s := if act = i then s.wr (F.RC_STAT_ACTIVE.at 309) 2 else s
      if other then s else s.clockRec 0x9102 309 0 0x1FF 0 0

/-- A reference input is present again: in holdover, one that is not the preferred input is taken where AUTO is set (R412; DEDUCED, log 39). -/
def State.refBack (s : State) (input : Nat) : State :=
  let i := input % 2
  let s := s.wr ((refOk i).at 309) 1
  if s.rd (F.RC_STAT_ACTIVE.at 309) = 2 ∧ s.on (F.RC_CTL_AUTO.at 309) ∧ i ≠ s.rd (F.RC_CTL_SEL.at 309) then s.takeInput i else s

/-- RC_SEL_WRITE: RC_CTL written; the clock die goes to the preferred input where it is present (R412, R431). -/
def State.rcSel (s : State) (v : Nat) : State :=
  let s := (s.wr (F.RC_CTL_SEL.at 309) (v % 2)).wr (F.RC_CTL_AUTO.at 309) (v / 2 % 2)
  let s := if v / 4 % 4 = 3 then s else s.wr (F.RC_CTL_SRC.at 309) (v / 4 % 4)
  let i := v % 2
  if s.on ((refOk i).at 309) ∧ s.rd (F.RC_STAT_ACTIVE.at 309) ≠ i then s.takeInput i else s

/-- REF_PARENT_LOST: a die whose reference parent is dark or stopped holds over; the steward names a new one and measures its delay (R414). -/
def State.refParentLost (s : State) (n tdly : Nat) : State :=
  if !(hasClk n) ∨ n = 309 ∨ s.dark n then s
  else
    let s := s.wr (F.CK_STAT_TVALID.at n) 0
    match s.refChoice n (s.rd (F.CK_REFPARENT_SITE.at n)) with
    | none => s
    | some m => ((s.wr (F.CK_REFPARENT_SITE.at n) m).wr (F.CK_TDLY_PS.at n) tdly).clockRec 0x9103 n 0 m 0 0

/-- PLL_LOCK_LOST: every clock of the site is gated (R415). -/
def State.pllDrop (s : State) (n : Nat) : State :=
  if !(s.on (F.CK_STAT_LOCK.at n)) then s
  else { s.wr (F.CK_STAT_LOCK.at n) 0 with pllLost := n :: s.pllLost }

/-- PLL_RELOCK: within 100 µs; the site's links retrain and its cores resume (R415). -/
def State.pllBack (s : State) (n : Nat) : State :=
  if !(s.pllLost.contains n) then s
  else
    let s : State := { s.wr (F.CK_STAT_LOCK.at n) 1 with pllLost := s.pllLost.erase n }
    each (linksOf n) (fun l s => s.retrain n l) (s.clockRec 0x9104 n 0 0x1FF 0 0)

/-- PLL_RELOCK_TIMEOUT: 0x9105 and the site fenced (R415). -/
def State.pllFail (s : State) (n : Nat) : State :=
  if !(s.pllLost.contains n) then s
  else (({ s with pllLost := s.pllLost.erase n } : State).fenceSite n true).clockRec 0x9105 n 2 0x1FF 0 0

/-- A die's ladder at panel reset. -/
def ladderReset : Ladder := { next := 0, dwell := false, vready := false, gates := [], low := 0 }
/-- A die's ladder. -/
def State.lad (s : State) (n : Nat) : Ladder := tget ladderReset s.ladder [n]
/-- A die's ladder replaced. -/
def State.setLad (s : State) (n : Nat) (l : Ladder) : State := { s with ladder := tset ladderReset s.ladder [n] l }

/-- CK_CFG.MAXSTEP in force (R426). -/
def State.maxStep (s : State) (n : Nat) : Nat := s.rd (F.CK_CFG_MAXSTEP.at n 0 (s.activeCopy n 4))

/-- The step a die is to run at: the highest at or below every ceiling (R419). -/
def State.ladderTarget (s : State) (n : Nat) : Nat :=
  min (min (s.maxStep n) (s.rd (F.CK_CEIL_POWER.at n))) (min (s.rd (F.CK_CEIL_THERM.at n)) (s.rd (F.CK_CEIL_MON.at n)))

/-- The ladder step in force. -/
def State.ckStep (s : State) (n : Nat) : Nat := s.rd (F.CK_STAT_STEP.at n)

/-- The MON ceiling one step lower. -/
def State.lowerMon (s : State) (n : Nat) : State := s.wr (F.CK_CEIL_MON.at n) (s.rd (F.CK_CEIL_MON.at n) - 1)
/-- The MON ceiling one step higher, to 9. -/
def State.raiseMon (s : State) (n : Nat) : State := s.wr (F.CK_CEIL_MON.at n) (min 9 (s.rd (F.CK_CEIL_MON.at n) + 1))

/-- Does a core's clock run: its die powered and locked, no ladder change, no gate of R417, R464 or R467. -/
def State.clocked (s : State) (c : CoreId) : Bool :=
  s.powered c.site && s.on (F.CK_STAT_LOCK.at c.site) && !(s.on (F.CK_STAT_CHANGING.at c.site)) && !((s.core c).clkGated) &&
    decide (s.rd (F.TH_STAT_STATE.at c.site) ≠ 3) && !(s.on (F.TH_STAT_SHED.at c.site))

/-- What a core does while its clock runs; a gated core keeps its state (R417, R464, R467). -/
def State.whenClocked (s : State) (c : CoreId) (f : State → State) : State := if s.clocked c then f s else s

/-- CLOCK_STRETCH: an episode of lengthened cycles begins and is counted (R417). -/
def State.stretch (s : State) (c : CoreId) : State :=
  (s.bump (F.CK_STRETCH_COUNT.at c.site 0 c.slot)).onCore c (fun k => { k with stretched := 1 })

/-- DROOP_GATE: the core gates its clock; the seventeenth gate of a die within 100 µs lowers its MON ceiling for 1 ms (R417, R418). -/
def State.droopGate (s : State) (c : CoreId) : State :=
  if (s.core c).clkGated then s
  else
    let s := (s.bump (F.CK_GATE_COUNT.at c.site 0 c.slot)).onCore c (fun k => { k with stretched := 0, clkGated := true })
    let l := s.lad c.site
    let now := s.now c.site
    let gates := (l.gates.filter (fun t => decide (now < t + 100000))) ++ [now]
    if gates.length > 16 then (s.setLad c.site { l with gates := [], low := l.low + 1 }).lowerMon c.site
    else s.setLad c.site { l with gates := gates }

/-- DROOP_RESUME: the supply has held for 16 ns (R417). -/
def State.droopResume (s : State) (c : CoreId) : State := s.onCore c (fun k => { k with stretched := 0, clkGated := false })

/-- MON_CEILING_RESTORE: the 1 ms of R418 ends. -/
def State.monRestore (s : State) (n : Nat) : State :=
  let l := s.lad n
  if l.low = 0 then s else (s.setLad n { l with low := l.low - 1 }).raiseMon n

/-- LADDER_CHANGE: a fall takes effect at once in one change; a rise by one step, after DWELL and with the voltage ready (R419, R420). -/
def State.ladderChange (s : State) (n : Nat) : State :=
  let l := s.lad n
  let t := s.ladderTarget n
  let at_ := s.ckStep n
  if !(isDie n) ∨ s.dark n ∨ s.on (F.CK_STAT_CHANGING.at n) ∨ t = at_ then s
  else if at_ < t ∧ (l.dwell ∨ !l.vready) then s
  else
    let s := (s.setLad n { l with next := if t < at_ then t else at_ + 1 }).wr (F.CK_STAT_CHANGING.at n) 1
    loopN 18 (fun i s => s.onCore ⟨n, i⟩ (fun k => { k with stretched := 0 })) s

/-- LADDER_CHANGE_DONE: clocks resume at the new step, CK_STEPS counts one, DWELL begins (R419, R420). -/
def State.ladderDone (s : State) (n : Nat) : State :=
  if !(s.on (F.CK_STAT_CHANGING.at n)) then s
  else
    let l := s.lad n
    let s := ((s.wr (F.CK_STAT_CHANGING.at n) 0).wr (F.CK_STAT_STEP.at n) l.next).bump (F.CK_STEPS_COUNT.at n)
    s.setLad n { l with dwell := true, vready := false }

/-- DWELL_EXPIRE (R419). -/
def State.dwellEnd (s : State) (n : Nat) : State := s.setLad n { s.lad n with dwell := false }

/-- VOLTAGE_READY: the group reports the higher voltage while the die waits for an up-step (R419, R436). -/
def State.voltageReady (s : State) (n : Nat) : State :=
  if s.ckStep n < s.ladderTarget n ∧ !(s.on (F.CK_STAT_CHANGING.at n)) then s.setLad n { s.lad n with vready := true } else s

/-- Panel time slewed so that it loses `ahead` ns within a second, at no more than 1 ns in 100 ticks (R424; DESIGN CHOICE, log 44). -/
def State.steer (s : State) (ahead : Int) : State :=
  let n := ahead.natAbs
  let s := s.wr (F.RC_ADJ_SIGN.at 309) (bnat (decide (0 < ahead)))
  s.wr (F.RC_ADJ_INTERVAL.at 309) (if n = 0 then 0 else max 100 (min 65535 (100000000 / n)))

/-- PPS_EDGE: panel time latched into RC_PPS; an edge within 0.9 s of the last is ignored (R425, R479). -/
def State.ppsEdge (s : State) : State :=
  let t := s.now 309
  if s.on (F.RC_STAT_PPS_OK.at 309) ∧ t < s.rd (F.RC_PPS.at 309) + 900000000 then s
  else
    let s := (s.wr (F.RC_PPS.at 309) t).wr (F.RC_STAT_PPS_OK.at 309) 1
    let frac : Int := (t % 1000000000 : Nat)
    if s.rd (F.RC_CTL_SRC.at 309) = 2 then s.steer (if frac < 500000000 then frac else frac - 1000000000) else s

/-- TIME_SOURCE_SILENT: 0x9302; panel time runs free (R425). -/
def State.sourceSilent (s : State) : State :=
  let src := s.rd (F.RC_CTL_SRC.at 309)
  if src = 0 then s
  else
    let s := (s.wr (F.RC_ADJ_INTERVAL.at 309) 0)
    let s := if src = 2 then s.wr (F.RC_STAT_PPS_OK.at 309) 0 else s
    s.clockRec 0x9302 309 0 0x1FF 0 0

/-- The units of a commit's mask at a site, as the numbers of State.bankOf (R426, R430). -/
def epUnits (n mask : Nat) : List Nat :=
  (if mask.testBit 0 ∧ blockOf n 7 = some .addrmap then [0] else []) ++ (if mask.testBit 1 ∧ blockOf n 4 = some .bulk then [1] else []) ++
    (if mask.testBit 2 ∧ isNode n then [2] else []) ++ (if mask.testBit 3 ∧ blockOf n 6 = some .syncnet then [3] else []) ++
    (if mask.testBit 4 ∧ isDie n then [4] else [])

/-- CK_EP_STAT.STATE of a unit: 0 IDLE, 1 ARMED, 2 SWITCHED, 3 MISSED, 4 REFUSED, 5 ROLLBACK_ARMED (R430). -/
def State.epState (s : State) (n : Nat) : Nat := s.rd (F.CK_EP_STAT_STATE.at n)

/-- A set of a pending table as its unit checks it: its entries (R44). -/
def State.pendList (s : State) (n set : Nat) : List Nat :=
  let b := 64 * s.viewCopy n 0 1 + set
  (List.range (s.rd (F.AM_SET_N.at n 0 b))).map (fun j => s.rd (F.AM_LIST_P.at n 0 (64 * b + j)))

/-- Does a VALID set of a pending table fail the check of R44? -/
def State.setBroken (s : State) (n set : Nat) : Bool :=
  let at_ (f : Fld) (i : Nat) : Nat := s.rd (f.at n 0 (64 * s.viewCopy n 0 1 + i))
  let k := at_ F.AM_SET_N set
  let l := s.pendList n set
  let b := at_ F.AM_BASE_BASE set
  let z := at_ F.AM_SIZE_SIZE set
  decide (at_ F.AM_SET_VALID set = 1) &&
    (decide (k = 0 ∨ 64 < k) || l.any (fun p => decide (71 < p)) || hasDup l || decide (z = 0 ∨ z % k ≠ 0) ||
      decide (96 < at_ F.AM_START_START set + z / k) || decide (2 ^ 17 < b + z) ||
      (List.range set).any (fun i => decide (at_ F.AM_SET_VALID i = 1 ∧ at_ F.AM_BASE_BASE i < b + z ∧ b < at_ F.AM_BASE_BASE i + at_ F.AM_SIZE_SIZE i)))

/-- Does PG_ERR_MASK suppress the record of an error bit that a page has set (R40)? -/
def State.errMasked (s : State) (n page b : Nat) : Bool :=
  (s.rd (F.PG_ERR_ERR.at n page)).testBit b && (s.rd (F.PG_ERR_MASK_MASK.at n page)).testBit b

/-- An error that a page names in PG_ERR (R40): its bit, the count, and the first error's code and word. PG_ERR_FIRST and INFO0 stand until the next first error, also while PG_ERR is clear (DESIGN CHOICE, log 63: R40 does not say). -/
def State.pgError (s : State) (n page b code info : Nat) : State :=
  let was := s.rd (F.PG_ERR_ERR.at n page)
  let s := if was = 0 then (s.wr (F.PG_ERR_FIRST_CODE.at n page) code).wr (F.PG_ERR_INFO0_INFO.at n page) info else s
  (s.wr (F.PG_ERR_ERR.at n page) (setBit was b)).bump (F.PG_ERR_CNT_COUNT.at n page)

/-- Does a unit refuse its pending tables (R44, R258, R275): the answer, with PG_ERR set for a broken set. -/
def State.epRefuses (s : State) (n mask : Nat) : Bool × State :=
  let units := epUnits n mask
  let broken := if units.contains 0 then (List.range 64).find? (fun i => s.setBroken n i) else none
  let mc := units.contains 2 && (List.range 4096).any (fun g =>
    let i := 4096 * s.viewCopy n 2 1 + g
    s.on (F.BK_MC_ENTRY_VALID.at n 0 i) && (decide (s.rd (F.BK_MC_TMO_TMO.at n 0 i) = 0) || decide (s.rd (F.BK_MC_NDIES_NDIES.at n 0 i) = 0)))
  match broken with
  | some i => (true, s.pgError n 7 0 0x9203 i)
  | none => (mc, s)

/-- A unit's named tables swap (R44, R251, R426). -/
def State.epSwap (s : State) (n : Nat) : State :=
  each (epUnits n (s.rd (F.CK_EP_CTL_MASK.at n))) (fun u s => { s with bank := tset 0 s.bank [n, u] (1 - s.bankOf n u) }) s

/-- A control WR of the steward's to a page's register (R266): page, byte offset, value. -/
def State.stwWr (s : State) (n page off v : Nat) : State :=
  s.send (.ctl { type := 2, dest := n, src := s.steward, words := [page + (off / 4) <<< 8 + s.stewardMaster <<< 18, v] })

/-- CK_EP_CTL written at a unit by the steward, after CK_EP_T where a time goes with it (R426, R427). -/
def State.epTell (s : State) (n bits : Nat) (t : Option Nat) : State :=
  let s := match t with
    | some t => (s.stwWr n 1 0x12C (t % 2 ^ 32)).stwWr n 1 0x130 (t >>> 32)
    | none => s
  s.stwWr n 1 0x134 (s.rd (F.EP_MASK_MASK.at stw) + bits)

/-- T + lead in nanoseconds from now (R426, R427). -/
def State.epLead (s : State) : Nat := s.now s.steward + 1000 * s.rd (F.EP_LEAD_US.at stw)

/-- The steward's reads of the units counted into EP_PEND and EP_FIRST (R432). -/
def State.epCount (s : State) : State :=
  let left := s.ep.sites.filter (fun n => decide (s.epState n ≠ 2))
  (s.wr (F.EP_PEND_COUNT.at stw) left.length).wr (F.EP_FIRST_SITE.at stw) (left.headD 0x1FF)

/-- A commit ends: IDLE with its RESULT (R426, R427, R432). -/
def State.epEnd (s : State) (result : Nat) : State :=
  let s := ((s.wr (F.EP_STAT_STATE.at stw) 0).wr (F.EP_STAT_RESULT.at stw) result).wr (F.EP_PEND_COUNT.at stw) 0
  { s.wr (F.EP_FIRST_SITE.at stw) 0x1FF with ep := { s.ep with sites := [], wait := [], t2 := 0, result := 0 } }

/-- The steward takes a commit back (R426, R427): CANCEL to the units armed, ROLLBACK to those switched. -/
def State.epBack (s : State) (result : Nat) : State :=
  let t2 := s.epLead
  let armed := s.ep.sites.filter (fun n => decide (s.epState n = 0 ∨ s.epState n = 1))
  let gone := s.ep.sites.filter (fun n => decide (s.epState n = 2))
  let s := each armed (fun n s => s.epTell n 0x40 none) s
  let s := each gone (fun n s => s.epTell n 0x100 (some t2)) s
  let s : State := { s with ep := { s.ep with wait := armed ++ gone, t2 := t2, result := result } }
  if armed ++ gone = [] then s.epEnd result else s.wr (F.EP_STAT_STATE.at stw) 4

/-- The steward's reading of the units after one of them changes (R426, R427). -/
def State.epView (s : State) : State :=
  let st := s.rd (F.EP_STAT_STATE.at stw)
  let l := s.ep.sites
  if st = 0 then s
  else if st = 4 then (if s.ep.wait = [] then s.epEnd s.ep.result else s)
  else if l.any (fun n => decide (s.epState n = 4)) then
    let s := if s.errMasked ((l.find? (fun n => decide (s.epState n = 4))).getD 0x1FF) 7 0 then s else s.clockRec 0x9203 s.steward 2 ((l.find? (fun n => decide (s.epState n = 4))).getD 0x1FF) (s.rd (F.EP_MASK_MASK.at stw)) (s.rd (F.EP_T.at stw))
    s.epBack 0x9203
  else if l.all (fun n => decide (s.epState n = 2)) then (s.add (F.EP_NUM_EPOCH.at stw) 1).epEnd 0
  else
    let s := s.epCount
    if s.rd (F.EP_T.at stw) ≤ s.now s.steward ∧ l.any (fun n => decide (2 ≤ s.epState n)) then s.wr (F.EP_STAT_STATE.at stw) 3
    else if st = 1 ∧ l.all (fun n => decide (s.epState n = 1)) then s.wr (F.EP_STAT_STATE.at stw) 2
    else s

/-- Before arming: a stack that a pending list may not name, or the first page that differs (R44). The destination of a graft whose source stack is dark is named by the graft's own commit, without a migration (R510 step 6, R512; DEDUCED, log 65). -/
def State.epUnfit (s : State) (mask : Nat) : Option Nat :=
  if !(mask.testBit 0) then none
  else
    let sites := s.mapSites
    match sites with
    | [] => none
    | h :: _ =>
      let valid (n i : Nat) : Bool := s.on (F.AM_SET_VALID.at n 0 (64 * s.viewCopy n 0 1 + i))
      let dest := fun (p : Nat) => !((s.mgSources (4 * p + 2)).isEmpty)
      let graftTo := fun (p : Nat) => decide (s.rd (F.GF_STAT_STATE.at stw) = 5 ∧ s.rd (F.GF_STAT_DEST.at stw) = p) && s.dark (4 * s.rd (F.GF_STAT_SRC.at stw) + 2)
      let named := (List.range 64).flatMap (fun i => if valid h i then s.pendList h i else [])
      match named.find? (fun p => decide (p < 72) && !(s.inService (4 * p + 2)) && !(decide (s.siteState (4 * p + 2) = 4) && (dest p || graftTo p))) with
      | some p => some (4 * p + 2)
      | none =>
        let row (n i : Nat) : List Nat :=
          if !(valid n i) then [] else
            [F.AM_SET_N, F.AM_BASE_BASE, F.AM_SIZE_SIZE, F.AM_START_START].map (fun f => s.rd (f.at n 0 (64 * s.viewCopy n 0 1 + i))) ++ s.pendList n i
        sites.find? (fun n => (List.range 64).any (fun i => decide (row n i ≠ row h i)))

/-- The steward refuses a commit before it arms any unit (R44, R251): the record names a site. -/
def State.epRefuse (s : State) (n mask : Nat) : State :=
  (s.wr (F.EP_STAT_RESULT.at stw) 0x9203).clockRec 0x9203 s.steward 2 n mask (s.rd (F.EP_T.at stw))

/-- Every unit that is not dark is armed for the commit of a mask (R426). -/
def State.epArmAll (s : State) (mask : Nat) : State :=
  let t := s.epLead
  let sites := allSites.filter (fun n => !(epUnits n mask).isEmpty && !(s.dark n))
  let s := (s.wr (F.EP_T.at stw) t).wr (F.EP_STAT_STATE.at stw) 1
  let s : State := { s with ep := { s.ep with sites := sites, wait := [], t2 := 0, result := 0 } }
  let s := each sites (fun n s => s.wr (F.CK_EP_STAT_STATE.at n) 0) s
  (each sites (fun n s => s.epTell n 0x20 (some t)) s).epCount.epView

/-- A commit of the tables in EP_MASK begins (R426): T is set and every unit that is not dark is armed, unless the steward refuses it first (R44): a set of bulk or sync route tables that is not acyclic it does not accept, and one whose union with the tables in force is not acyclic it commits after an intermediate set (R251; 0x9203 with SITE 0x1FF for the former, DESIGN CHOICE, log 63). -/
def State.epCommit (s : State) : State :=
  let mask := s.rd (F.EP_MASK_MASK.at stw)
  if s.epochBusy then s
  else
    match s.epUnfit mask with
    | some n => s.epRefuse n mask
    | none =>
      if s.routesFit mask then s.epArmAll mask
      else if s.routesBad mask then s.epRefuse 0x1FF mask
      else
        -- R251: an intermediate set of each table whose old and new entries together have a cycle is committed first.
        let a := if s.routesFit (mask % 4) then ([], s) else s.stepAside 1 s.activeEntry s.pendingEntry
        let b := if s.routesFit (mask - mask % 4) then ([], a.2) else a.2.stepAside 3 s.activeSync s.pendingSync
        let rest := (if a.1 = [] then 0 else 2) + (if b.1 = [] then 0 else 8)
        ({ b.2 with ep := { b.2.ep with saved := a.1 ++ b.1, todo := (rest, 0, 0) :: b.2.ep.todo } } : State).epArmAll mask

/-- EP_CANCEL: before T every unit is disarmed (R432). -/
def State.epCancel (s : State) : State :=
  let st := s.rd (F.EP_STAT_STATE.at stw)
  if (st = 1 ∨ st = 2) ∧ s.now s.steward < s.rd (F.EP_T.at stw) then s.epBack 0 else s

/-- CK_EP_ARM: a unit told to arm checks its pending tables and reads ARMED or REFUSED; at or after T it reads MISSED, and the steward tells it to catch up (R426, R427). -/
def State.epArm (s : State) (n mask : Nat) : State :=
  let s := s.wr (F.CK_EP_CTL_MASK.at n) mask
  let t := s.rd (F.CK_EP_T.at n)
  if t ≤ s.now n then
    let s := (s.wr (F.CK_EP_STAT_STATE.at n) 3).clockRec 0x9201 n 0 n (mask % 32) t
    (if s.epochBusy ∧ s.rd (F.EP_STAT_STATE.at stw) ≠ 4 then s.epTell n 0x80 none else s).epView
  else
    let r := s.epRefuses n mask
    (r.2.wr (F.CK_EP_STAT_STATE.at n) (if r.1 then 4 else 1)).epView

/-- CK_EP_CANCEL: an ARMED unit is disarmed; one that has switched is told to swap back (R426). -/
def State.epDisarm (s : State) (n : Nat) : State :=
  let st := s.epState n
  let s := if st = 1 then s.wr (F.CK_EP_STAT_STATE.at n) 0 else s
  if s.rd (F.EP_STAT_STATE.at stw) ≠ 4 ∨ !(s.ep.wait.contains n) then s.epView
  else if st = 2 then s.epTell n 0x100 (some s.epLead)
  else ({ s with ep := { s.ep with wait := s.ep.wait.erase n } } : State).epView

/-- CK_EP_CATCHUP: a unit that missed T switches on receipt (R427); it checks its tables first, since no commit swaps in a broken set, and reads REFUSED where one fails (R44; DEDUCED, log 63). -/
def State.epCatch (s : State) (n : Nat) : State :=
  if s.epState n ≠ 3 then s
  else
    let r := s.epRefuses n (s.rd (F.CK_EP_CTL_MASK.at n))
    if r.1 then (r.2.wr (F.CK_EP_STAT_STATE.at n) 4).epView
    else ((s.epSwap n).wr (F.CK_EP_STAT_STATE.at n) 2).epView

/-- CK_EP_ROLLBACK: a unit that has switched is armed to swap back at CK_EP_T (R427). -/
def State.epRollback (s : State) (n : Nat) : State := if s.epState n = 2 then s.wr (F.CK_EP_STAT_STATE.at n) 5 else s

/-- EPOCH_SWITCH_TIME: the tick counter has reached T or T2, and an armed unit swaps its tables (R426, R427). -/
def State.epSwitch (s : State) (n : Nat) : State :=
  if s.now n < s.rd (F.CK_EP_T.at n) then s
  else if s.epState n = 1 then ((s.epSwap n).wr (F.CK_EP_STAT_STATE.at n) 2).epView
  else if s.epState n = 5 then
    (({ (s.epSwap n).wr (F.CK_EP_STAT_STATE.at n) 0 with ep := { s.ep with wait := s.ep.wait.erase n } } : State)).epView
  else s

/-- EP_TMO_EXPIRE: not every unit has switched by T + EP_TMO, so the commit is rolled back with 0x9202 naming the first unit missing; a unit that does not confirm the rollback in as long again is fenced (R427). -/
def State.epTimeout (s : State) : State :=
  let st := s.rd (F.EP_STAT_STATE.at stw)
  let tmo := 1000 * s.rd (F.EP_TMO_US.at stw)
  let mask := s.rd (F.EP_MASK_MASK.at stw)
  if st = 0 then s
  else if st = 4 then
    (if s.now s.steward < s.ep.t2 + tmo then s
    else
      let lost := s.ep.wait
      let s := each lost (fun n s => (s.fenceSite n true).clockRec 0x9202 n 2 n mask s.ep.t2) s
      s.epEnd s.ep.result)
  else if s.now s.steward < s.rd (F.EP_T.at stw) + tmo then s
  else
    let first := (s.ep.sites.find? (fun n => decide (s.epState n ≠ 2))).getD 0x1FF
    (s.clockRec 0x9202 s.steward 2 first mask (s.rd (F.EP_T.at stw))).epBack 0x9202

/-- CK_EP_CTL written as a register: the action its bits name (R430). -/
def State.epCtl (s : State) (n v : Nat) : State :=
  let s := s.wr (F.CK_EP_CTL_MASK.at n) v
  if v.testBit 6 then s.epDisarm n
  else if v.testBit 7 then s.epCatch n
  else if v.testBit 8 then s.epRollback n
  else if v.testBit 5 then s.epArm n (v % 32)
  else s

/-- The highest step that a die's partition allows, lowered by what R449 has taken off (R446, R449). -/
def State.wantStep (s : State) (low n : Nat) : Nat :=
  (match s.partOfSite n with
    | some p => s.rd (F.PP_PART_MAXSTEP.at stw 0 p)
    | none => 9) - low

/-- Pending CK_CFG.MAXSTEP of every compute die (R419, R446, R449). -/
def State.prepSteps (s : State) (low : Nat) : State :=
  each (allDies.filter (fun n => !(s.dark n))) (fun n s => s.wr (F.CK_CFG_MAXSTEP.at n 0 (s.viewCopy n 4 1)) (s.wantStep low n)) s

/-- A commit that the steward makes itself (R426): its pending tables written, then COMMIT; one that is decided while another runs waits. Routes that have no acceptable set are left as they are. -/
def State.epStart (s : State) (mask p q : Nat) : State :=
  if s.epochBusy then { s with ep := { s.ep with todo := s.ep.todo ++ [(mask, p, q)] } }
  else
    let s := if mask.testBit 0 then s.prepMaps p q else s
    let r : Nat × State := if !(mask.testBit 1) && !(mask.testBit 3) then (mask, s)
      else if s.ep.saved ≠ [] then (mask, { each s.ep.saved (fun e s => s.putOne e.1 e.2.1 e.2.2.1 e.2.2.2) s with ep := { s.ep with saved := [] } })
      else
      match s.prepRoutes with
      | some (more, t) => (mask, if more then { t with ep := { t.ep with todo := (10, p, q) :: t.ep.todo } } else t)
      | none => (mask - mask % 16 / 8 * 8 - mask % 4 / 2 * 2, s)
    let mask := r.1
    let s := r.2
    let s := if mask.testBit 2 then s.prepGroups p q else s
    let s := if mask.testBit 4 then s.prepSteps p else s
    (s.wr (F.EP_MASK_MASK.at stw) mask).epCommit

/-- The next commit that waited. -/
def State.epNext (s : State) : State :=
  if s.epochBusy then s
  else
    match s.ep.todo with
    | [] => s
    | (mask, p, q) :: rest => ({ s with ep := { s.ep with todo := rest } } : State).epStart mask p q

end Sys2Proof.Machine
end

