-- ==== Sys2Proof/Machine/Power.lean ====
section
/-! DEFINITION. Power delivery (R433 to R458): admission and turn-on of cores, ramp notices, caps and the ceiling, input power, failed phases, breakers and cracks. -/

namespace Sys2Proof.Machine

/-- The regulator of a plot. -/
def regOf (p : Nat) : Nat := 4 * p + 3

/-- A power record (R454). -/
def State.powerRec (s : State) (code site unit sev phase first conn info1 info2 : Nat) : State :=
  s.report { code := code, site := site, unit := unit, sev := sev, info0 := phase % 16 + first <<< 4 + conn <<< 13, info1 := info1, info2 := info2 }

/-- The head of a CORE group's queue of requests (R440). -/
def State.admHead (s : State) (n : Nat) : Option CoreId := s.admq.find? (fun c => c.site == n)

/-- Tokens held at a die (R440). -/
def State.tokens (s : State) (n : Nat) : Nat := ((List.range 18).filter (fun i => (s.core ⟨n, i⟩).token)).length

/-- L of R441, in amperes. -/
def State.admLimit (s : State) (n : Nat) : Nat := min (s.rd (F.PW_ADM_LIMIT.at n)) (9 * s.rd (F.PW_STAT_PHASES.at n))

/-- A request for a turn-on token (R438, R440). -/
def State.askPower (s : State) (c : CoreId) : State :=
  if s.admq.contains c ∨ (s.core c).token ∨ s.coreState c ≠ 0 then s
  else { s.onCore c (fun k => { k with askedAt := s.now c.site }) with admq := s.admq ++ [c] }

/-- ADMISSION_GRANT: with the group's current in milliamperes, the head takes a free token where the rule holds, and stage 1 closes (R437, R441, R442). -/
def State.admGrant (s : State) (n ma : Nat) : State :=
  match s.admHead n with
  | none => s
  | some c =>
    let a := s.rd (F.PW_ADM_CORE_A.at n)
    let k := s.tokens n
    if k ≥ 2 ∨ s.dark n ∨ 1000 * s.admLimit n < ma + 1000 * (k * a + a) then s
    else
      let s := if (s.core c).askedAt < s.now n then s.bump (F.PW_ADMWAIT_COUNT.at n) else s
      ({ s with admq := s.admq.erase c } : State).onCore c (fun k => { k with token := true, stage := 1 })

/-- ADMISSION_WAIT_EXPIRE: the head has waited WAIT, so the MON ceiling falls one step and the wait starts again (R442). -/
def State.admWait (s : State) (n : Nat) : State := if (s.admHead n).isSome then s.lowerMon n else s

/-- CORE_POWER_STAGE: 0.5 µs pass and the next stage closes (R437). -/
def State.powerStage (s : State) (c : CoreId) : State :=
  if (s.core c).token ∧ (s.core c).stage < 4 then s.onCore c (fun k => { k with stage := k.stage + 1 }) else s

/-- CORE_POWER_UP_DONE: the clock starts, the token returns, the core leaves OFF and acts on the notices it kept (R437, R438). -/
def State.powerUp (s : State) (c : CoreId) : State :=
  let k := s.core c
  if !k.token ∨ k.stage ≠ 4 then s
  else
    let s := (s.onCore c (fun k => { k with token := false, stage := 0, notices := [] })).setCoreState c 1
    each k.notices (fun m s => if noticeKind m = 1 then s.takeBind c m else s.takeDispatch c m) s

/-- CORE_OFF_DELAY_EXPIRE: a core idle for OFF_DLY with no dispatch waiting enters OFF (R438). -/
def State.coreOff (s : State) (c : CoreId) : State :=
  if s.coreState c ≠ 1 ∨ !((s.core c).notices.isEmpty) ∨ (s.bound c && (s.dispatchOf (s.ctxOf c) (s.rd (F.CORE_BIND_VCORE.core c))).isSome) then s
  else s.setCoreState c 0

/-- A core without power: OFF, its work gone (R439). -/
def State.cutCore (s : State) (c : CoreId) : State :=
  let s : State := { s with admq := s.admq.erase c }
  (s.setCore c { coreReset with fence := (s.core c).fence }).setCoreState c 0

/-- HEADER_OVERCURRENT: the switches open, with 0x7203 (R439); the steward retires the core on that record. -/
def State.overcurrent (s : State) (c : CoreId) : State :=
  if s.coreState c = 0 ∧ !((s.core c).token) then s
  else (s.cutCore c).powerRec 0x7203 c.site c.slot 2 0 0x1FF 0 0 0

/-- RAMP_NOTICE_APPLY: DELAY has passed; a ramp up brings shed phases back and raises the output, a ramp down sheds (R443). -/
def State.rampApply (s : State) (c : CoreId) : State :=
  match s.ramps.find? (fun r => r.site == c.site && r.slot == c.slot && !r.applied) with
  | none => s
  | some r =>
    let hold := if r.down then r.due + 2000 else r.due
    if s.now c.site < hold then s
    else if r.down then { s with ramps := s.ramps.erase r, shed := tset 0 s.shed [c.site] 1 }
    else { s with ramps := s.ramps.map (fun x => if x = r then { x with applied := true } else x), shed := tset 0 s.shed [c.site] 0 }

/-- RAMP_HOLD_EXPIRE: the raised output has been held for 4 µs (R443). -/
def State.rampEnd (s : State) (c : CoreId) : State :=
  match s.ramps.find? (fun r => r.site == c.site && r.slot == c.slot && r.applied) with
  | none => s
  | some r => { s with ramps := s.ramps.erase r }

/-- The cap floor of a site (R444). -/
def capFloor (n : Nat) : Nat := if isStack n then 20 else 9

/-- The in-service dies and stacks, which have caps (R444). -/
def State.capSites (s : State) : List Nat := (allDies ++ allStacks).filter (fun n => s.inService n)

/-- The caps scaled to the ceiling where they no longer fit under it (R445, R466). -/
def State.scaleCaps (s : State) : State :=
  let l := s.capSites
  let eff := s.ceiling
  let fixed := s.rd (F.PP_FIXED_WATTS.at stw)
  let sum := l.foldl (fun n x => n + s.rd (F.PW_CAP_WATTS.at x)) 0
  if (sum + fixed) * 107 ≤ eff * 100 then s
  else
    let floors := l.foldl (fun n x => n + capFloor x) 0
    let ovr := l.foldl (fun n x => n + (s.rd (F.PW_CAP_WATTS.at x) - capFloor x)) 0
    let num := 100 * eff - 107 * (fixed + floors)
    each l (fun x s =>
      let c := s.rd (F.PW_CAP_WATTS.at x)
      s.wr (F.PW_CAP_WATTS.at x) (capFloor x + (c - capFloor x) * num / (107 * max 1 ovr))) s

/-- The four regulators that measure blade pairs, with the first pair of each (R434). -/
def bladeRegs : List (Nat × Nat) := [(310, 0), (311, 6), (314, 12), (315, 18)]

/-- Blade pairs flagged (R452). -/
def State.flagged (s : State) : Nat := bladeRegs.foldl (fun n e => n + (ones (s.rd (F.RG_CRACK_PAIRS.at e.1)) 6).length) 0

/-- PP_EFF worked out again, and caps scaled where it fell (R445). -/
def State.newEff (s : State) : State :=
  (s.wr (F.PP_EFF_WATTS.at stw) (min (s.rd (F.PP_CEIL_WATTS.at stw)) (600 * (24 - s.flagged)))).scaleCaps

/-- PP_CEIL_WRITE: a value outside 4,000 to 14,000 W is discarded (R445). -/
def State.ppCeil (s : State) (v : Nat) : State :=
  let w := v % 2 ^ 14
  if 4000 ≤ w ∧ w ≤ 14000 then (s.wr (F.PP_CEIL_WATTS.at stw) w).newEff else s

/-- The MAXSTEP that every die is to have, committed where it is not yet in force (R446). -/
def State.stepsToCommit (s : State) : State :=
  if allDies.any (fun n => !(s.dark n) && decide (s.maxStep n ≠ s.wantStep s.ppLow n)) then s.epStart 16 s.ppLow 0 else s

/-- CX_PART_SET with its side at the caps: PP_STAT reads its result, and a new MAXSTEP goes out by epoch (R304, R444, R446, R457). -/
def State.partSet (s : State) : State :=
  let s := s.cxPartSet
  let r := s.rd (F.CX_CMD_STAT_RESULT.at stw)
  let s := s.wr (F.PP_STAT_RESULT.at stw) r
  if r = 0 then s.stepsToCommit else s

/-- PP_APPLY (R444): refused with 0x7302 where the caps would not fit, and with 0x5405 for a partition that is not VALID (DESIGN CHOICE, log 40). -/
def State.ppApply (s : State) : State :=
  let p := s.rd (F.PP_SEL_PART.at stw)
  let res (code : Nat) (s : State) : State := s.wr (F.PP_STAT_RESULT.at stw) code
  if !(s.ptValid p) then res 0x5405 s
  else if !(s.capsFit p) then res 0x7302 s
  else (res 0 (s.writeCaps p (s.rd (F.PP_PART_DIE_W.at stw 0 p)) (s.rd (F.PP_PART_STK_W.at stw 0 p)))).stepsToCommit

/-- A cap's own state at its start. -/
def capReset : CapSt := { skip := false, since := 0, e := 0, avg := 0 }
/-- A cap's own state. -/
def State.cap (s : State) (n : Nat) : CapSt := tget capReset s.caps [n]
/-- A cap's own state replaced. -/
def State.setCap (s : State) (n : Nat) (r : CapSt) : State := { s with caps := tset capReset s.caps [n] r }
/-- The cap that R446 and R447 compare with: E, and PW_CAP before the first ramp window (R465). -/
def State.capNow (s : State) (n : Nat) : Nat := if (s.cap n).e = 0 then s.rd (F.PW_CAP_WATTS.at n) else (s.cap n).e - 1

/-- A stack's throttle level: the highest of its cap level, its thermal level, 1 after a phase failure, 3 in a shed (R447, R450, R464, R467). -/
def State.setThrot (s : State) (n : Nat) : State :=
  let k := s.stk (stkOf n)
  let base := if s.on (F.TH_STAT_SHED.at n) then 3 else bnat (s.on (F.PW_STAT_DEGRADED.at n))
  s.wr (F.PW_STAT_THROT.at n) (max base (max k.capLevel k.thermLevel))

/-- One step down (die) or one level up (stack) for the cap. -/
def State.capDown (s : State) (n : Nat) : State :=
  if isStack n then
    let k := s.stk (stkOf n)
    if k.capLevel ≥ 3 then s else ((s.setStk (stkOf n) { k with capLevel := k.capLevel + 1 }).bump (F.PW_CAPHIT_COUNT.at n)).setThrot n
  else (s.lowerMon n).bump (F.PW_CAPHIT_COUNT.at n)

/-- One step up (die) or one level down (stack) for the cap. -/
def State.capUp (s : State) (n : Nat) : State :=
  if isStack n then (s.setStk (stkOf n) { s.stk (stkOf n) with capLevel := (s.stk (stkOf n)).capLevel - 1 }).setThrot n
  else s.raiseMon n

/-- CAP_WINDOW: an averaging window ends with an average in watts (R446, R447). -/
def State.capWindow (s : State) (n watts : Nat) : State :=
  if !(isDie n || isStack n) ∨ !(s.inService n) then s
  else
    let k := s.cap n
    let cap := s.capNow n
    if k.skip then s.setCap n { k with skip := false }
    else if cap < watts then (s.setCap n { k with skip := true, since := 0 }).capDown n
    else if 10 * watts < 9 * cap then
      let now := s.now n
      if k.since = 0 then s.setCap n { k with since := now + 1 }
      else if now + 1 ≥ k.since + 1000000 then (s.setCap n { k with since := now + 1 }).capUp n
      else s
    else s.setCap n { k with since := 0 }

/-- PP_IN_SAMPLE: the blade-measuring regulators' readings summed; three samples in a row above the ceiling lower MAXSTEP by epoch, at most once in 10 ms; at or below 95% it rises every 100 ms (R449). -/
def State.ppIn (s : State) (readings : List Nat) : State :=
  let w := min 65535 (readings.foldl (· + ·) 0)
  let now := s.now s.steward
  let eff := s.ceiling
  let s := (s.wr (F.PP_IN_WATTS.at stw) w).wr (F.PP_IN_MAX_WATTS.at stw) (max w (s.rd (F.PP_IN_MAX_WATTS.at stw)))
  let milli := s.ppMilli + w
  let s : State := { s.add (F.PP_ENERGY.at stw) (milli / 1000) with ppMilli := milli % 1000, ppOver := if eff < w then s.ppOver + 1 else 0 }
  if 3 ≤ s.ppOver ∧ (s.ppFell = 0 ∨ now + 1 ≥ s.ppFell + 10000000) then
    let s : State := { s.bump (F.PP_OVER_COUNT.at stw) with ppLow := min 9 (s.ppLow + 1), ppOver := 0, ppFell := now + 1, ppRose := now + 1 }
    (s.powerRec 0x7301 s.steward 0xFF 0 0 0x1FF 0 w (s.rd (F.PP_EFF_WATTS.at stw))).epStart 16 s.ppLow 0
  else if 20 * w ≤ 19 * eff then
    (if s.ppLow = 0 ∨ now + 1 < s.ppRose + 100000000 then s
    else ({ s with ppLow := s.ppLow - 1, ppRose := now + 1 } : State).epStart 16 (s.ppLow - 1) 0)
  else { s with ppRose := now + 1 }

/-- A site without supply: fenced, and no turn-on of its cores goes on (R451). -/
def State.goDark (s : State) (n : Nat) : State :=
  let s := if isDie n then loopN 18 (fun i s => s.cutCore ⟨n, i⟩) s else s
  s.fenceSite n true

/-- The sites that go dark with an output group of a plot regulator (R451); a rind regulator's group names none. -/
def groupSites (reg g : Nat) : List Nat :=
  if reg ≥ 288 then []
  else
    let p := plotOf reg
    match g with
    | 0 => [4 * p]
    | 1 => [4 * p + 1]
    | 2 => [4 * p + 2]
    | _ => [4 * p, 4 * p + 1, 4 * p + 2, 4 * p + 3]

/-- The die or stack whose PWR page shows a group (R455). -/
def groupUser (reg g : Nat) : Option Nat := if reg < 288 ∧ g < 3 then some (4 * plotOf reg + g) else none

/-- An output group comes to a state that gives no power (R450, R451): NET and RET take the whole plot with them. -/
def State.groupDown (s : State) (reg g st : Nat) : State :=
  let s := s.wr (F.RG_STAT_STATE.at reg 0 g) st
  let s := if reg < 288 ∧ 3 ≤ g then loopN 5 (fun i s => s.wr (F.RG_STAT_STATE.at reg 0 i) 3) s else s
  each (groupSites reg g) (fun n s => s.goDark n) s

/-- PHASE_FAIL: a phase is disabled with 0x7101 and the group runs on; a second failure turns the group off with 0x7102 (R450). -/
def State.phaseFail (s : State) (reg g phase : Nat) : State :=
  let m := s.rd (F.RG_FAILED_MASK.at reg 0 g)
  let st := s.rd (F.RG_STAT_STATE.at reg 0 g)
  if ¬ (partOf reg = .regulator ∨ partOf reg = .rindReg) ∨ 5 ≤ g ∨ m.testBit phase ∨ 12 ≤ phase ∨ ¬ (st = 1 ∨ st = 2) then s
  else
    let live := s.rd (F.RG_STAT_LIVE.at reg 0 g) - 1
    let s := ((s.wr (F.RG_FAILED_MASK.at reg 0 g) (setBit m phase)).wr (F.RG_STAT_LIVE.at reg 0 g) live).wr (F.RG_STAT_STATE.at reg 0 g) 2
    let s := match groupUser reg g with
      | some n => ((s.wr (F.PW_STAT_PHASES.at n) live).wr (F.PW_STAT_DEGRADED.at n) 1).wr (F.PW_PHFAIL_MASK.at n) (setBit m phase)
      | none => s
    let s := if reg < 288 ∧ g < 2 then s.wr (F.CK_CEIL_POWER.at (4 * plotOf reg + g)) 7
      else if reg < 288 ∧ g = 2 then s.setThrot (4 * plotOf reg + 2) else s
    let s := s.powerRec 0x7101 reg g 0 phase 0x1FF 0 0 0
    if m = 0 then s else (s.groupDown reg g 0).powerRec 0x7102 reg g 2 phase ((groupSites reg g).headD 0x1FF) 0 0 0

/-- GROUP_BREAKER_OPEN: the group's breaker trips with 0x7201 and its sites go dark (R451). -/
def State.groupTrip (s : State) (reg g : Nat) : State :=
  if ¬ (partOf reg = .regulator ∨ partOf reg = .rindReg) ∨ 5 ≤ g ∨ s.rd (F.RG_STAT_STATE.at reg 0 g) = 3 then s
  else
    ((s.bump (F.RG_TRIPS_COUNT.at reg 0 g)).groupDown reg g 3).powerRec 0x7201 reg g 2 0 ((groupSites reg g).headD 0x1FF) 0 0 0

/-- PLOT_BREAKER_OPEN: a plot's input breaker opens with 0x7202 and the whole plot goes dark (R451). -/
def State.plotTrip (s : State) (p : Nat) : State :=
  if 72 ≤ p ∨ s.rd (F.RG_STAT_STATE.at (regOf p) 0 3) = 3 then s
  else (s.groupDown (regOf p) 3 3).powerRec 0x7202 (regOf p) 0xFF 2 0 (4 * p) 0 0 0

/-- CRACK_DETECT: a connection group's voltage has stayed below its load line, with the drop beyond it in mV (R452, R454). -/
def State.crack (s : State) (g drop : Nat) : State :=
  if g < 24 then
    let e := (bladeRegs.find? (fun e => e.2 ≤ g && g < e.2 + 6)).getD (310, 0)
    let m := s.rd (F.RG_CRACK_PAIRS.at e.1)
    if m.testBit (g - e.2) then s
    else
      let s := (s.mapPut (siteEntry e.1 + 2) [1]).journalSite e.1 (s.mapState e.1) 0 0 (s.mapNat (siteEntry e.1 + 14) 2)
      ((s.wr (F.RG_CRACK_PAIRS.at e.1) (setBit m (g - e.2))).powerRec 0x7401 e.1 0xFF 0 0 0x1FF g drop 0).newEff
  else if 32 ≤ g ∧ g < 104 then
    let p := g - 32
    if s.cracked.contains p then s
    else
      let s : State := { s with cracked := p :: s.cracked }
      let s := (s.mapPut (siteEntry (regOf p) + 2) [1]).journalSite (regOf p) (s.mapState (regOf p)) 0 0 (s.mapNat (siteEntry (regOf p) + 14) 2)
      let s := s.powerRec 0x7401 (regOf p) 0xFF 0 0 0x1FF g drop 0
      each [4 * p, 4 * p + 1, 4 * p + 2] (fun n s => s.wr (F.PW_CAP_WATTS.at n) (s.rd (F.PW_CAP_WATTS.at n) * 3 / 4)) s
  else s

end Sys2Proof.Machine
end

