-- ==== Sys2Proof/Machine/Resets.lean ====
section
/-! DEFINITION. Sites brought up and taken down, and the effects of core and cluster resets (R190, R437, R513, R534). -/

namespace Sys2Proof.Machine

/-- The pages a site has, SITE apart. -/
def pagesOf (n : Nat) : List Nat := (List.range 256).filter (fun pg => decide (pg ≠ 0) && (blockOf n pg).isSome)

/-- The pages of a core (R37). -/
def corePages (c : CoreId) : List Nat := [0x40 + 4 * c.slot, 0x41 + 4 * c.slot, 0x42 + 4 * c.slot, 0x43 + 4 * c.slot]

/-- PG_STAT.READY of some pages (R40, R519); that of the DIEMEM page stays 0 until its fill is complete (R192). -/
def State.setReady (s : State) (n : Nat) (pages : List Nat) (v : Bool) : State :=
  each pages (fun pg s => if v ∧ isDie n ∧ pg = 9 ∧ s.on (F.DIEMEM_STAT_SCRUBBING.at n) then s else s.wr (F.PG_STAT_READY.at n pg) (bnat v)) s

/-- An output group on, with the phases that have not failed (R435, R450). -/
def State.groupOn (s : State) (reg g : Nat) : State :=
  let m := s.rd (F.RG_FAILED_MASK.at reg 0 g)
  let live := placedPhases reg g - popcount m 12
  let s := (s.wr (F.RG_STAT_STATE.at reg 0 g) (if m = 0 then 1 else 2)).wr (F.RG_STAT_LIVE.at reg 0 g) live
  match groupUser reg g with
  | some n => ((s.wr (F.PW_STAT_PHASES.at n) live).wr (F.PW_STAT_DEGRADED.at n) (bnat (decide (m ≠ 0)))).wr (F.PW_PHFAIL_MASK.at n) m
  | none => s

/-- An output group turned off, its sites dark; a group that has tripped stays so (R513). -/
def State.groupOff (s : State) (reg g : Nat) : State :=
  let st := s.rd (F.RG_STAT_STATE.at reg 0 g)
  if st = 1 ∨ st = 2 then each (if g < 3 then groupSites reg g else []) (fun n s => s.goDark n) (s.wr (F.RG_STAT_STATE.at reg 0 g) 0) else s

/-- Every group of a plot off (R510, R513). -/
def State.plotOff (s : State) (p : Nat) : State := loopN 5 (fun g s => s.groupOff (regOf p) g) s

/-- Core (R534): its work gone, its memory, tiles, slots and generator at their start, its waits purged, its pages at reset values. -/
def State.coreResetNow (s : State) (c : CoreId) : State :=
  let dies := match s.partOfSite c.site with | some p => s.ptDies p | none => [c.site]
  let off := decide (s.coreState c = 0)
  let lost := decide (0 < s.rd (F.CB_RES_RES.core c))
  let k := s.core c
  let s := each dies (fun d s => s.purgeDie d c) s
  let s := (s.resetPages c.site (corePages c)).setReady c.site (corePages c) true
  let s : State := { s with ework := tkeep s.ework (fun e => decide (e.take 2 ≠ [c.site, c.slot])),
                            parBad := s.parBad.filter (fun e => decide (¬ (e.1 = 2 ∧ coreAddr c 0 ≤ e.2 ∧ e.2 < coreAddr c 0x800000))) }
  let s := (s.zeroCoreMem c 0).setCore c { coreReset with fence := k.fence, token := k.token, stage := k.stage, askedAt := k.askedAt }
  (s.wr (F.CB_STAT_RES_LOST.core c) (bnat lost)).setCoreState c (if off then 0 else 1)

/-- Cluster (R534): every core reset, die memory zeroed with its regions' assignment kept, every cell cleared, the translation cache emptied (R190, R201). An assignment that waits for the end of a region's scrub is dropped, the region keeping the one in force: the spec does not say (DESIGN CHOICE, log 63). -/
def State.clusterResetNow (s : State) (n : Nat) : State :=
  let regs := (List.range 48).map (fun g =>
    (s.rd (F.DIEMEM_REGION_OWNER.at n 0 g), s.rd (F.DIEMEM_REGION_VALID.at n 0 g), s.rd (F.DIEMEM_REGION_RESIDENT.at n 0 g)))
  let s := loopN 18 (fun i s => s.coreResetNow ⟨n, i⟩) s
  let s := ((s.resetPages n [8, 9]).setReady n [8] true).wr (F.PG_STAT_READY.at n 9) 0
  let s : State := { s with dmem := mzero s.dmem (dieAddr n 0) 0x3000000, waiters := tkeep s.waiters (fun k => decide (k.headD 0 ≠ n)),
                            parBad := s.parBad.filter (fun e => decide (¬ (e.1 = 1 ∧ dieAddr n 0 ≤ e.2 ∧ e.2 < dieAddr (n + 1) 0))),
                            regionPend := tkeep s.regionPend (fun k => decide (k.headD 0 ≠ n)) }
  let s := loopN 48 (fun g s =>
    let r := regs.getD g (0, 0, 0)
    (((s.wr (F.DIEMEM_REGION_OWNER.at n 0 g) r.1).wr (F.DIEMEM_REGION_VALID.at n 0 g) r.2.1).wr (F.DIEMEM_REGION_RESIDENT.at n 0 g) r.2.2).wr
      (F.DIEMEM_REGION_RES_LOST.at n 0 g) r.2.2) s
  (s.wr (F.DIEMEM_STAT_SCRUBBING.at n) 1).xltInv n

/-- A compute die's cores and fabric get power: memories zero, no region assigned, cores OFF (R190, R201, R438). -/
def State.dieBoot (s : State) (n : Nat) : State :=
  let s := { s.clusterResetNow n with xlt := tset [] s.xlt [n] [] }
  loopN 48 (fun g s => (s.wr (F.DIEMEM_REGION_VALID.at n 0 g) 0).wr (F.DIEMEM_REGION_RES_LOST.at n 0 g) 0)
    (loopN 18 (fun i s => ((s.setCoreState ⟨n, i⟩ 0).wr (F.CB_STAT_RES_LOST.core ⟨n, i⟩) 0)) s)

/-- A site gets power: its stores are zero and its pages at their reset values (R190, R201); a compute die's cores are OFF (R438). -/
def State.siteBoot (s : State) (n : Nat) : State :=
  let s := s.resetPages n (pagesOf n)
  let s : State := { s with bank := tkeep s.bank (fun k => decide (k.headD 0 ≠ n)), plru := if isStack n then tkeep s.plru (fun k => decide (k.headD 0 ≠ stkOf n)) else s.plru,
                            cache := if isStack n then tkeep s.cache (fun k => decide (k.headD 0 ≠ stkOf n)) else s.cache,
                            pfs := if isStack n then tkeep s.pfs (fun k => decide (k.headD 0 ≠ stkOf n)) else s.pfs }
  let s := if isStack n then s.setStk (stkOf n) stkReset else s
  if isDie n then s.dieBoot n else s

/-- A site's clocks run and its panel time is valid (R415, R422). -/
def State.clockOn (s : State) (n : Nat) : State :=
  let s := if hasClk n then
      ({ s with drift := tset 0 s.drift [n] 0, pllLost := s.pllLost.erase n } : State).wr (F.CK_STAT_LOCK.at n) 1 |>.wr (F.CK_STAT_TVALID.at n) 1
    else s
  s.fenceSite n false

/-- A site is in use: its pages but the link pages read READY (R519); of a guest site only page 0x00, while its link is down (R378). -/
def State.siteReady (s : State) (n : Nat) : State :=
  let down := isGuest n && !(decide (s.guState n = 6))
  (s.fenceSite n false).setReady n (0 :: (if down then [] else (pagesOf n).filter (fun pg => decide (blockOf n pg ≠ some .mesoax)))) true

/-- A site's clocks run and it is in use. -/
def State.siteClock (s : State) (n : Nat) : State := (s.clockOn n).siteReady n

/-- The links of a site train from the start, each once its other end has power (R373, R520). -/
def State.trainSite (s : State) (n : Nat) : State :=
  each (linksOf n) (fun l s => match linkPeer n l with
    | some e => if s.dark n || s.dark e.1 then s else s.startTraining n l true
    | none => s) s

/-- Is no link of a site still training? -/
def State.trained (s : State) (n : Nat) : Bool := (linksOf n).all (fun l => decide (s.linkState n l ≠ 1))

/-- CH_STATE of every channel of a stack (R235). -/
def State.setChannels (s : State) (p v : Nat) : State := loopN 32 (fun ch s => s.wr (F.CH_STATE_STATE.at (4 * p + 2) ch) v) s

/-- The test of a stack fails: channels of it read FAILED, the others ACTIVE; which ones, the command does not carry: a free mask (R209, R230, R235; log 63). -/
def State.failChannels (s : State) (p : Nat) : State :=
  let f := s.fresh
  loopN 32 (fun ch s => s.wr (F.CH_STATE_STATE.at (4 * p + 2) ch) (if f.1.testBit ch then 4 else 3)) f.2

/-- A stack's contents and cache are zero after its test (R230, R523). -/
def State.zeroStack (s : State) (p : Nat) : State :=
  let s : State := { s with mem := mzero s.mem (stkAddr p 0) stackBytes, cache := tkeep s.cache (fun k => decide (k.headD 0 ≠ p)),
                            plru := tkeep s.plru (fun k => decide (k.headD 0 ≠ p)),
                            failing := s.failing.filter (fun e => decide (e.1 / 2 ^ 31 ≠ p)) }
  s.setChannels p 3

end Sys2Proof.Machine
end

