-- ==== Sys2Proof/Machine/Graft.lean ====
section
/-! DEFINITION. Grafting and husking (R507 to R514, R518, R528): spare cores, standby plots and stacks in place of failed ones. -/

namespace Sys2Proof.Machine

/-- A husked unit carries no score (R504). -/
def State.dropScore (s : State) (u : HUnit) : State := (s.wr u.score 0).wr u.state 0

/-- The record 0xB304: new state HUSK, the score as it stood, the cause (R541, R542). -/
def State.huskRec (s : State) (u : HUnit) (code : Nat) : State :=
  (s.report { code := 0xB304, site := u.at, unit := u.unit, sev := 0, info0 := 3 + s.rd u.score <<< 2, info1 := code }).dropScore u

/-- A site turned off and journaled HUSK (R513 steps 1 and 2). -/
def State.huskSite (s : State) (n code : Nat) : State :=
  if s.mapState n = 3 then s
  else
    let s := if n < 288 then (if n % 4 = 3 then s.plotOff (plotOf n) else s.groupOff (regOf (plotOf n)) (n % 4))
      else ({ s with offSites := s.offSites.erase n ++ [n] } : State).fenceSite n true
    (s.setSite n 3 code).huskRec (.site n) code

/-- Husking of a site (R513): off, journaled, routes and trees rebuilt; its reference children lose their parent by REF_PARENT_LOST. -/
def State.husk (s : State) (n code : Nat) : State :=
  if s.mapState n = 3 then s else ((s.huskSite n code).rebuildTree true).epStart 14 (plotOf n) (plotOf n)

/-- The slots of a die that are no spare though they are no husk: SERVICE of the map, which is 0 on a die that is STANDBY or GRAFT_PENDING (R507, R562); a slot that is bound to a context already cannot take another's place (DEDUCED, log 65). -/
def State.usedSlots (s : State) (n : Nat) : Nat :=
  let bound := ((List.range 18).filter (fun i => s.bound ⟨n, i⟩)).foldl setBit 0
  bound ||| (if s.mapState n = 2 ∨ s.mapState n = 4 then 0 else s.mapNat (siteEntry n + 4) 4)

/-- The lowest spare slot of a die but a failed one: neither in use nor retired (R28, R507). -/
def State.spareOf (s : State) (n failed : Nat) : Option Nat :=
  let used := setBit (s.usedSlots n ||| s.mapNat (siteEntry n + 8) 4) failed
  (List.range 18).find? (fun i => !(used.testBit i))

/-- A core bound in place of another (R507 step 4): zero memory, RES_LOST where its context has resident memory, and the restart copy to load; a context without a restart area is reset (R494). -/
def State.replaceCore (s : State) (old new : CoreId) : State :=
  if !(s.bound old) then s.askPower new
  else
    let ctx := s.ctxOf old
    let v := s.rd (F.CORE_BIND_VCORE.core old)
    if tget 0 s.raEff [ctx] = 0 then (s.askPower new).ctxReset ctx false
    else
      let s := s.leaveContext old
      let s := s.onCx ctx (fun k => { k with cores := k.cores.map (fun c => if c = old then new else c) })
      let s := ((s.wr (F.CORE_BIND_CTX.core new) ctx).wr (F.CORE_BIND_VCORE.core new) v).wr (F.CORE_BIND_BOUND.core new) 1
      let s := (s.loadCtx new ctx).zeroCoreMem new 0
      let s := if s.rd (F.CB_RES_RES.core new) = 0 then s else s.wr (F.CB_STAT_RES_LOST.core new) 1
      ({ s with regrow := s.regrow ++ [new] } : State).askPower new

/-- A spare-core graft (R507): the answer says whether the die had a spare. A slot that is already retired needs none. -/
def State.spareGraft (s : State) (c : CoreId) (code : Nat) : Bool × State :=
  let cores := s.mapNat (siteEntry c.site + 4) 4
  let husk := s.mapNat (siteEntry c.site + 8) 4
  if husk.testBit c.slot then (true, s)
  else
    match s.spareOf c.site c.slot with
    | none => (false, s)
    | some b =>
      let on := s.bound c
      let s := s.cutCore c
      let s := s.setCores c.site (setBit (clrBit cores c.slot) b) (setBit husk c.slot) code
      let s := ((s.addSubst c.site c.slot b).journalSubst (1 + c.site <<< 1 + c.slot <<< 10 + b <<< 15)).jCommit
      let s := s.huskRec (.core c) code
      (true, if on then s.replaceCore c ⟨c.site, b⟩ else s.askPower ⟨c.site, b⟩)

/-- Contexts that hold a core are reset, when no graft can replace it (R507). -/
def State.resetHolders (s : State) (lost : CoreId → Bool) : State :=
  each ((s.ctxs.filter (fun e => e.2.cores.any lost)).map (fun e => e.1.headD 0)) (fun x s => s.ctxReset x false) s

/-- Is every site of a plot STANDBY in the map (R509). -/
def State.plotStandby (s : State) (q : Nat) : Bool := [0, 1, 2, 3].all (fun k => decide (s.mapState (4 * q + k) = 2))

/-- The standby plot that a plot graft uses: of the source's row, else of the nearest row, the lower on a tie (R509). -/
def State.choosePlot (s : State) (p : Nat) : Option Nat :=
  let r := p / 9
  let rows := (List.range 8).flatMap (fun d => (if d ≤ r then [r - d] else []) ++ (if 0 < d ∧ r + d < 8 then [r + d] else []))
  (rows.map (fun x => 9 * x + 8)).find? (fun q => s.plotStandby q)

/-- The stack that a stack graft uses: one left STANDBY by an earlier plot graft, lowest first (DESIGN CHOICE, log 41), else a standby plot's (R509, R512). -/
def State.chooseStack (s : State) (p : Nat) : Option Nat :=
  match (List.range 72).find? (fun x => !(standbyPlot x) && decide (s.mapState (4 * x + 2) = 2 ∧ s.mapState (4 * x + 3) ≠ 3)) with
  | some x => some x
  | none => s.choosePlot p

/-- GF_STAT.STATE. -/
def State.gfState (s : State) : Nat := s.rd (F.GF_STAT_STATE.at stw)
/-- Source plot of the graft. -/
def State.gfP (s : State) : Nat := s.rd (F.GF_STAT_SRC.at stw)
/-- Destination plot of the graft. -/
def State.gfQ (s : State) : Nat := s.rd (F.GF_STAT_DEST.at stw)
/-- Is the graft a stack graft. -/
def State.gfStack (s : State) : Bool := s.on (F.GF_STAT_KIND.at stw)
/-- Is a plot or stack graft in progress (R509, R518). -/
def State.grafting (s : State) : Bool := decide (s.gfState ≠ 0 ∧ s.gfState ≠ 6)

/-- The record of a graft step or failure (R541, R542). -/
def State.graftRec (s : State) (rcode code : Nat) : State :=
  s.report { code := rcode, site := s.steward, unit := 0xFF, sev := 0,
             info0 := s.gfP + s.gfQ <<< 7 + s.gfState <<< 14 + bnat s.gfStack <<< 17, info1 := code }

/-- A graft step has ended, and the next begins (R510). -/
def State.graftStep (s : State) (st stage : Nat) : State :=
  ({ s.wr (F.GF_STAT_STATE.at stw) st with gf := { s.gf with stage := stage } } : State).graftRec 0xB303 0

/-- Sites put into states by one commit (R510 steps 1 and 8). -/
def State.setSites (s : State) (l : List (Nat × Nat)) : State :=
  (each l (fun e s =>
    let was := s.mapState e.1
    if was = e.2 then s
    else
      let husk := s.mapNat (siteEntry e.1 + 8) 4
      s.journalSite e.1 e.2 (serviceFor e.1 e.2 was (s.mapNat (siteEntry e.1 + 4) 4) husk) husk (s.mapNat (siteEntry e.1 + 14) 2)) s).jCommit

/-- A graft begins: journaled, its sites GRAFT_PENDING but for husks (R510 step 1). -/
def State.graftBegin (s : State) (kind p q : Nat) (tried : Bool) : State :=
  let sites := (graftSites (decide (kind = 1)) p q).filter (fun n => decide (s.mapState n ≠ 3))
  let former := sites.map (fun n => (n, s.mapState n))
  let s := s.journal 5 (natLe kind 1 ++ natLe p 1 ++ natLe q 1)
  let s := s.setSites (sites.map (fun n => (n, 4)))
  let s := ((s.wr (F.GF_STAT_KIND.at stw) kind).wr (F.GF_STAT_SRC.at stw) p).wr (F.GF_STAT_DEST.at stw) q
  let s := ((s.wr (F.OR_GRAFT_KIND.at stw) kind).wr (F.OR_GRAFT_SRC.at stw) p).wr (F.OR_GRAFT_DEST.at stw) q
  let s := (s.wr (F.OR_GRAFT_OPEN.at stw) 1).wr (F.GF_RESULT_CODE.at stw) 0
  ({ s with gf := { todo := s.gf.todo.filter (fun e => decide (e ≠ (kind, p))), former := former, tried := tried, stage := 0, ctxs := [] } } : State).graftStep 1 0

/-- No destination is left for a graft: it ends without effect, and contexts that name a core without power are reset (R507, R509). -/
def State.graftNone (s : State) (kind p : Nat) : State :=
  let s : State := { s with gf := { s.gf with todo := s.gf.todo.filter (fun e => decide (e ≠ (kind, p))) } }
  if kind = 1 then s else s.resetHolders (fun c => decide (plotOf c.site = p) && s.dark c.site)

/-- The next graft decided is started where none is in progress and the steward may start one (R509). -/
def State.graftNext (s : State) : State :=
  if s.grafting ∨ !(s.on (F.GF_CFG_AUTO.at stw)) then s
  else
    match s.gf.todo with
    | [] => s
    | (kind, p) :: _ =>
      match if kind = 1 then s.chooseStack p else s.choosePlot p with
      | some q => s.graftBegin kind p q false
      | none => s.graftNone kind p

/-- A plot or stack graft is decided (R509). -/
def State.graftAsk (s : State) (kind p : Nat) : State :=
  if s.gf.todo.contains (kind, p) ∨ (s.grafting && decide (s.gfP = p ∧ bnat s.gfStack = kind)) then s
  else ({ s with gf := { s.gf with todo := s.gf.todo ++ [(kind, p)] } } : State).graftNext

/-- The destination is powered down (R518). -/
def State.graftDark (s : State) : State :=
  if s.gfStack then each [2, 3] (fun g s => s.groupOff (regOf s.gfQ) g) s else s.plotOff s.gfQ

/-- A graft that does not commit: migration ended, the destination off, its sites in their former states but for husks (R510, R518). -/
def State.graftUndo (s : State) (outcome : Nat) : State :=
  let s := s.mgAbort (4 * s.gfP + 2)
  let s := s.graftDark
  let s := s.journal 6 (natLe (bnat s.gfStack) 1 ++ natLe s.gfP 1 ++ natLe s.gfQ 1 ++ natLe outcome 1)
  let s := s.setSites (s.gf.former.filter (fun e => decide (s.mapState e.1 ≠ 3)))
  { s.wr (F.OR_GRAFT_OPEN.at stw) 0 with gf := { s.gf with former := [], stage := 0, ctxs := [] } }

/-- A graft fails with a code: the failed sites are husked and the next destination is tried once (R510). -/
def State.graftFail (s : State) (code : Nat) (bad : List Nat) : State :=
  if !s.grafting then s
  else
    let kind := bnat s.gfStack
    let p := s.gfP
    let tried := s.gf.tried
    let s := (s.graftUndo 1).wr (F.GF_RESULT_CODE.at stw) code
    let s := (s.wr (F.GF_STAT_STATE.at stw) 6).graftRec 0xB303 code
    let s := each bad (fun n s => s.husk n code) s
    if tried then (s.graftNone kind p).graftNext
    else
      match if kind = 1 then s.chooseStack p else s.choosePlot p with
      | some q => s.graftBegin kind p q true
      | none => (s.graftNone kind p).graftNext

/-- GF_CMD refused (R518). -/
def State.graftRefuse (s : State) : State := s.wr (F.GF_RESULT_CODE.at stw) 0x5405

/-- GF_PLOT (R510, R518). A source whose graft waits counts as in service (DEDUCED, log 41). -/
def State.gfPlot (s : State) (p q : Nat) : State :=
  if s.grafting ∨ 72 ≤ p ∨ ¬ (s.inService (4 * p + 3) ∨ s.gf.todo.contains (0, p)) then s.graftRefuse
  else if q = 0x7F then (match s.choosePlot p with | some x => s.graftBegin 0 p x false | none => s.graftRefuse)
  else if q < 72 ∧ s.plotStandby q then s.graftBegin 0 p q false
  else s.graftRefuse

/-- GF_STACK (R512, R518). -/
def State.gfStackCmd (s : State) (p q : Nat) : State :=
  if s.grafting ∨ 72 ≤ p ∨ ¬ (s.inService (4 * p + 2) ∨ s.gf.todo.contains (1, p)) then s.graftRefuse
  else if q = 0x7F then (match s.chooseStack p with | some x => s.graftBegin 1 p x false | none => s.graftRefuse)
  else if q < 72 ∧ s.mapState (4 * q + 2) = 2 then s.graftBegin 1 p q false
  else s.graftRefuse

/-- GF_ABORT (R518): discarded at steps 7 and 8. -/
def State.gfAbort (s : State) : State :=
  if !s.grafting ∨ s.gfState = 5 then s
  else
    let s := (s.graftUndo 2).wr (F.GF_STAT_STATE.at stw) 0
    s.graftNext

/-- Power to the destination's sites (R510 step 2, R512 step 1). -/
def State.graftPower (s : State) : State :=
  let q := s.gfQ
  let groups := if s.gfStack then [2, 3] else [0, 1, 2, 3, 4]
  let sites := if s.gfStack then [4 * q + 2] else [4 * q, 4 * q + 1, 4 * q + 2]
  let s := each groups (fun g s => s.groupOn (regOf q) g) s
  let s := each sites (fun n s => (s.siteBoot n).siteClock n) s
  (each sites (fun n s => s.trainSite n) s).setChannels q 1

/-- Every link of the destination has trained: STATE becomes TEST (R510 step 3). -/
def State.graftLinks (s : State) : State :=
  let q := s.gfQ
  if s.gfState = 1 ∧ s.gf.stage = 1 ∧ [4 * q, 4 * q + 1, 4 * q + 2].all (fun n => s.trained n) then (s.graftStep 2 0).setChannels q 2 else s

/-- GRAFT_POWER_DONE (R510, R512): with the sites whose power did not come good. -/
def State.graftPowerDone (s : State) (bad : List Nat) : State :=
  if s.gfState ≠ 1 ∨ s.gf.stage ≠ 0 then s
  else if bad ≠ [] then s.graftFail 0xB105 bad
  else ({ s.graftPower with gf := { s.graftPower.gf with stage := 1 } } : State).graftLinks

/-- Migration begins, or the commit when the source stack is dark (R510 step 6, R512 step 3). -/
def State.graftMove (s : State) : State :=
  let src := 4 * s.gfP + 2
  if s.dark src then s.graftStep 4 1
  else if s.siteState (4 * s.gfQ + 2) ≠ 4 then s
  else
    let t := (s.wr (F.MG_CTL_DEST.at src) s.gfQ).mgStart src
    if t.on (F.NM_STAT_MG_ACTIVE.at src) then t.graftStep 4 0 else t.graftFail 0x2205 []

/-- GRAFT_TEST_DONE (R510 step 4, R512 step 2): with the sites that failed. -/
def State.graftTestDone (s : State) (bad : List Nat) : State :=
  if s.gfState ≠ 2 then s
  else if bad ≠ [] then (if bad.contains (4 * s.gfQ + 2) then s.failChannels s.gfQ else s).graftFail 0xB105 bad
  else
    let s := s.zeroStack s.gfQ
    if s.gfStack then s.graftMove else s.graftStep 3 0

/-- The cores that a qualification run runs on: every slot of the destination's dies that is not retired (R510 step 5, R562). -/
def State.qualified (s : State) : List CoreId :=
  [4 * s.gfQ, 4 * s.gfQ + 1].flatMap (fun d => ((List.range 18).filter (fun i => !((s.rd (F.SITE_HUSKCORES_HUSK.at d)).testBit i))).map (fun i => (⟨d, i⟩ : CoreId)))

/-- SHADOW_COMPARE (R510 step 5): the reference core's digest and those of the qualified cores; a core that mismatches fails the graft with 0xD401, its die husked. A comparison that leaves out a core of the run compares nothing, and a retired core is none of it. -/
def State.shadowCompare (s : State) (ref : DigestW) (cores : List (CoreId × DigestW)) : State :=
  if s.gfState ≠ 3 ∨ !(s.qualified.all (fun c => cores.any (fun e => e.1 == c))) then s
  else
    match cores.find? (fun e => s.qualified.contains e.1 && !(digestNear 12 e.2 ref)) with
    | some e => s.graftFail 0xD401 [e.1.site]
    | none => s

/-- GRAFT_SOAK_END (R510). -/
def State.graftSoakEnd (s : State) : State := if s.gfState = 3 then s.graftMove else s

/-- A die's resident regions arrive at the die that replaces it, with the regions' assignment (R511 step 1). -/
def State.moveRegions (s : State) (d e : Nat) : State :=
  loopN 48 (fun g s =>
    if !(s.on (F.DIEMEM_REGION_VALID.at d 0 g)) then s
    else
      let res := s.on (F.DIEMEM_REGION_RESIDENT.at d 0 g)
      let lost := res && (s.dark d || s.on (F.DIEMEM_REGION_RES_LOST.at d 0 g))
      let s := ((s.wr (F.DIEMEM_REGION_OWNER.at e 0 g) (s.rd (F.DIEMEM_REGION_OWNER.at d 0 g))).wr (F.DIEMEM_REGION_VALID.at e 0 g) 1).wr
        (F.DIEMEM_REGION_RESIDENT.at e 0 g) (bnat res)
      let s := s.wr (F.DIEMEM_REGION_RES_LOST.at e 0 g) (bnat lost)
      if res && !(s.dark d) then s.diePut e (g * 0x100000) (mgetN s.dmem (dieAddr d (g * 0x100000)) 0x100000) else s) s

/-- A die's VALID cells moved to free cells of the die that replaces it; the new places (R511 step 2). A cell of a dark die carries free values. -/
def State.moveCells (s : State) (d e : Nat) : List ((Nat × Nat) × (Nat × Nat)) × State :=
  (s.validCells d).foldl (fun (a : List ((Nat × Nat) × (Nat × Nat)) × State) i =>
    let s := a.2
    match (List.range 2048).find? (fun j => !(s.cellValid e j)) with
    | none => a
    | some j =>
      let f := s.fresh
      let gone := s.dark d
      let s := if gone then f.2 else s
      let copy (l : Fld) (s : State) : State := s.wr (l.at e 0 j) (s.rd (l.at d 0 i))
      let s := (s.wr (F.SY_VALUE_VALUE.at e 0 j) (if gone then f.1 else s.rd (F.SY_VALUE_VALUE.at d 0 i))).wr
        (F.SY_STEPVAL_VALUE.at e 0 j) (if gone then f.1 else s.rd (F.SY_STEPVAL_VALUE.at d 0 i))
      let s := each [F.SY_LAST_SITE, F.SY_LAST_SLOT, F.SY_LAST_TIME, F.SY_OWNER_OWNER, F.SY_OWNER_SHARED, F.SY_OWNER_VALID] copy s
      let s := (s.clearCell d i).wr (F.SY_OWNER_VALID.at d 0 i) 0
      (a.1 ++ [((d, i), (e, j))], s)) ([], s)

/-- The sync translation tables of a partition's contexts rewritten, and the dies' caches invalidated (R281, R511). -/
def State.remapCells (s : State) (part : Nat) (l : List ((Nat × Nat) × (Nat × Nat))) : State :=
  if l.isEmpty then s
  else
    let ctxs := (List.range 1024).filter (fun x => decide (s.cxPart x = part ∧ s.cxState x ≠ 0))
    let s := each ctxs (fun x s => loopN 4096 (fun vid s =>
      let a := s.rd (F.CX_SXLT.at stw 0 x) + 4 * vid
      let r := s.stwRead a 4
      match r.1 with
      | .error _ => r.2
      | .ok b =>
        let w := leNat b
        match l.find? (fun e => w.testBit 31 && decide (e.1 = (bits w 8 0, bits w 19 9))) with
        | some e => (r.2.stwWrite a (natLe (setBits (setBits w 8 0 e.2.1) 19 9 e.2.2) 4)).2
        | none => r.2) s) s
    each (s.ptDies part) (fun d s => s.xltInv d) s

/-- The plot set of a partition. -/
def State.setPlots (s : State) (p v : Nat) : State :=
  ((s.wr (F.PT_PLOTS0_PLOTS.at stw 0 p) v).wr (F.PT_PLOTS1_PLOTS.at stw 0 p) (v >>> 32)).wr (F.PT_PLOTS2_PLOTS.at stw 0 p) (v >>> 64)

/-- The access tables of a site carried to the site that replaces it (DEDUCED, log 42). -/
def State.moveTables (s : State) (n m : Nat) : State :=
  let bits_ := [F.AC_RD, F.AC_WR, F.AC_FENCE, F.AC_WBASE_MIB, F.AC_WLIMIT_MIB].map (fun f => f.bit)
  let l := s.fld.filter (fun e => decide (e.1.headD 0 = n ∧ e.1.getD 1 0 = 0x0A) && bits_.contains (e.1.getD 2 0))
  { s with fld := each l (fun e t => tset 0 t (m :: e.1.drop 1) e.2) s.fld }

/-- The commit of a graft is made (R511, R512 step 4). -/
def State.graftCommit (s : State) : State :=
  let p := s.gfP
  let q := s.gfQ
  if s.gfStack then
    let s := (s.graftStep 5 3).moveTables (4 * p + 2) (4 * q + 2)
    s.epStart 1 p q
  else
    let s := if s.gfState = 5 then { s with gf := { s.gf with stage := 3 } } else s.graftStep 5 3
    let s := each [0, 1] (fun k s => s.moveRegions (4 * p + k) (4 * q + k)) s
    let a := s.moveCells (4 * p) (4 * q)
    let b := a.2.moveCells (4 * p + 1) (4 * q + 1)
    let s := match s.partOfPlot p with
      | some part => ((b.2.remapCells part (a.1 ++ b.1)).setPlots part (setBit (clrBit (b.2.plotSet part) p) q))
      | none => b.2
    let s := each [0, 1, 2] (fun k s => s.moveTables (4 * p + k) (4 * q + k)) s
    let s := (s.addPlotSubst p q).journalSubst (p <<< 1 + q <<< 8)
    s.epStart 15 p q

/-- The orchard commit that ends a graft (R510 step 8, R512, R513). -/
def State.graftOrchard (s : State) : State :=
  let p := s.gfP
  let q := s.gfQ
  let s := s.mgRelease (4 * p + 2)
  let s := s.journal 6 (natLe (bnat s.gfStack) 1 ++ natLe p 1 ++ natLe q 1 ++ natLe 0 1)
  let s := if s.gfStack then
      s.setSites [(4 * q + 2, 1), (4 * q + 3, 1)]
    else
      let kept := [0, 1, 2, 3].filter (fun k => decide (s.mapState (4 * p + k) ≠ 3))
      let s := s.setSites ([0, 1, 2, 3].map (fun k => (4 * q + k, 1)) ++ kept.map (fun k => (4 * p + k, 2)))
      (s.plotOff p).rebuildTree true
  ({ s.wr (F.OR_GRAFT_OPEN.at stw) 0 with gf := { s.gf with stage := 4, former := [] } } : State).graftRec 0xB303 0

/-- Contexts stopped at the commit take the cores that their map now names (R508, R510 step 8): those of a replay at once, SAVED ones as they are bound. -/
def State.graftRebind (s : State) (part : Nat) : State :=
  let s := each (s.ctxsIn part [2]) (fun x s =>
    let r := s.readMap x
    match r.1 with
    | .ok l => each ((s.cx x).cores.zip l) (fun e s => if e.1 = e.2 then s else s.replaceCore e.1 e.2) r.2
    | .error _ => r.2.ctxReset x false) s
  s.writeCaps part (s.rd (F.PP_PART_DIE_W.at stw 0 part)) (s.rd (F.PP_PART_STK_W.at stw 0 part))

/-- A graft is over: contexts are bound again, a dark or replaced stack of a stack graft is husked, the next graft starts (R510, R512). -/
def State.graftOver (s : State) : State :=
  let p := s.gfP
  let q := s.gfQ
  let stack := s.gfStack
  let s := s.graftStep 0 0
  let s := if stack then s.husk (4 * p + 2) 0x2204
    else match s.partOfPlot q with
      | some part => s.graftRebind part
      | none => s
  s.kick.graftNext

/-- May the commit of a graft begin: no context of the partition runs, or all that do are held stopped by a replay (R510 step 7). -/
def State.graftStill (s : State) : Bool :=
  match s.partOfPlot s.gfP with
  | none => true
  | some part => (s.ctxsIn part [2, 3, 5]).isEmpty || (decide (s.rd (F.RP_STAT_STATE.at stw 0 part) = 2) && (s.ctxsIn part [3, 5]).isEmpty)

/-- The graft goes as far as it can: migration done, contexts stopped, epoch committed, map committed (R510 to R512). -/
def State.graftGo (s : State) : State :=
  let st := s.gfState
  let stage := s.gf.stage
  if ¬ (st = 4 ∨ st = 5) then s.graftLinks
  else if (st = 4 ∨ stage = 2) ∧ !s.gfStack ∧ s.graftStill ∧ !s.epochBusy ∧ (stage = 2 ∨ stage = 1 ∨ s.on (F.NM_STAT_MG_DONE.at (4 * s.gfP + 2))) ∧ s.acceptable.isNone then
    -- R251: no acceptable set of routes, so the graft that needs it fails.
    s.graftFail 0xB104 []
  else if st = 4 ∧ stage = 0 ∧ !(s.on (F.NM_STAT_MG_ACTIVE.at (4 * s.gfP + 2))) then s.graftFail 0x2206 []
  else if st = 4 ∧ (stage = 1 ∨ s.on (F.NM_STAT_MG_DONE.at (4 * s.gfP + 2))) then
    (if (s.gfStack || s.graftStill) && !s.epochBusy then s.graftCommit else if stage = 0 then { s with gf := { s.gf with stage := 1 } } else s)
  else if st = 5 ∧ stage = 2 then (if s.graftStill && !s.epochBusy then s.graftCommit else s)
  else if st = 5 ∧ stage = 3 ∧ !s.epochBusy ∧ s.ep.todo.isEmpty then
    (if s.rd (F.EP_STAT_RESULT.at stw) = 0 then s.graftOrchard else s.epStart (if s.gfStack then 1 else 15) s.gfP s.gfQ)
  else if st = 5 ∧ stage = 4 ∧ s.siteState (4 * s.gfQ + 2) = 1 then s.graftOver
  else s

/-- A step release of a partition meets a graft that waits for it: COMMIT_WAIT, and its contexts are pre-empted at this boundary (R510 step 7). -/
def State.graftBoundary (s : State) (part : Nat) : State :=
  if s.gfState = 4 ∧ s.gf.stage = 1 ∧ !s.gfStack ∧ s.partOfPlot s.gfP = some part then
    let l := s.ctxsIn part [2]
    let s := s.graftStep 5 2
    each l (fun x s => s.preempt x true) { s with gf := { s.gf with ctxs := l } }
  else s

end Sys2Proof.Machine
end

