-- ==== Sys2Proof/Machine/Bulk.lean ====
section
/-! DEFINITION. What the bulk network's responses and multicast copies do at the units they reach (R254 to R262, R273, R274). -/

namespace Sys2Proof.Machine

/-- The outstanding request that a response answers: tag and fence tag of its unit match (R254, R256). -/
def State.matchReq (s : State) (p : Pkt) : Option Req :=
  s.outst.find? (fun r => decide (r.site = p.dest ∧ r.unit = p.dunit ∧ r.pkt.tag = p.tag ∧ p.fence = s.fenceOf p.dest p.dunit ∧ r.pkt.fence = p.fence))

/-- A request answered or given up. -/
def State.dropReq (s : State) (r : Req) : State := { s with outst := s.outst.erase r }

/-- The record of 0x3101 and 0x3102 (R274), counted at the requester. -/
def State.netRecord (s : State) (r : Req) (code sev : Nat) : State :=
  (s.bump (F.BK_TIMEOUTS_COUNT.at r.site)).report
    { code := code, site := r.site, unit := if r.unit = 0x1F then 0xFF else r.unit, sev := sev, master := r.pkt.master,
      info0 := r.pkt.tag + r.pkt.type <<< 16 + r.pkt.vc <<< 24 + r.tries <<< 26, info1 := r.pkt.addr % 2 ^ 32,
      info2 := (r.pkt.addr >>> 32) % 65536 + r.pkt.dest <<< 16 }

/-- A request answered after a re-issue is recorded (R254). -/
def State.answered (s : State) (r : Req) : State :=
  let s := s.dropReq r
  if r.tries > 0 then s.netRecord r 0x3102 0 else s

/-- The core of a request. -/
def Req.core (r : Req) : CoreId := ⟨r.site, r.unit⟩

/-- A fetch is answered: its descriptors arrive, or the descriptor at the pc fails with 0x5104, or with the code that left it unread (R126). A core that no longer waits for that group discards the answer. -/
def State.fetchAnswer (s : State) (r : Req) (status : Nat) (data : List Byte) : State :=
  let c := r.core
  if !(s.bound c) ∨ r.ref ≠ s.pc c - s.pc c % 256 then s
  else if status = 0 then s.fetchFill c r.ref data
  else if status = 0x5201 ∨ status = 0x5202 then s.seqFail c (s.pc c) 0xFFFF00000000 (dErr 0x5104 2 0 0 0)
  else if status = 0x2202 then s.seqFail c (s.pc c) 0xFFFF00000000 (dErr 0x5104 1 0 0 0)
  else s.seqFail c (s.pc c) 0xFFFF00000000 { code := status, info0 := 0, form := 2 }

/-- Data of a contribution that is outstanding no longer (R257). -/
def State.accDone (s : State) (r : Req) : State :=
  let k : Key := [r.site, stkOf r.pkt.dest]
  if r.pkt.type = 6 then { s with accOut := tset 0 s.accOut k (tget 0 s.accOut k - r.pkt.data.length) } else s

/-- A contribution is acknowledged: its data is outstanding no longer, and its descriptor waits for one answer less (R123, R257). -/
def State.accumAnswer (s : State) (r : Req) (status : Nat) : State :=
  (s.accDone r).issuedAnswer r.core r.ref status false

/-- An answer of one target die of a multicast, with the code that fails the descriptor or 0 (R262): a die that has answered the transfer before is not counted again; the transfer ends with its last answer. -/
def State.mcastAnswer (s : State) (r : Req) (site status : Nat) : State :=
  let k : Key := [r.site, r.unit, r.pkt.xfer]
  let told := tget [] s.mcFrom k
  if told.contains site then s
  else
    let s := s.issuedAnswer r.core r.ref status false
    if ((s.core r.core).window.find? (fun e => e.id == r.ref)).all (fun e => e.acks == 0) then { s.dropReq r with mcFrom := tset [] s.mcFrom k [] }
    else { s with mcFrom := tset [] s.mcFrom k (told ++ [site]) }

/-- A multicast transfer given up: no answer is waited for any longer (R254). -/
def State.mcastLate (s : State) (r : Req) (status : Nat) : State :=
  let s := s.issuedAnswer r.core r.ref status true
  { s with mcFrom := tset [] s.mcFrom [r.site, r.unit, r.pkt.xfer] [] }

/-- The multicast request that an answer belongs to: its unit and transfer number (R262). -/
def State.matchMcast (s : State) (p : Pkt) : Option Req :=
  s.outst.find? (fun r => decide (r.site = p.dest ∧ r.unit = p.dunit ∧ r.why = 3 ∧ r.pkt.xfer = p.xfer ∧ p.fence = s.fenceOf p.dest p.dunit))

/-- MCAST_ACK (R262). -/
def State.mcastAck (s : State) (site : Nat) (p : Pkt) : State :=
  s.arrive site 0xB 1 p (fun s => match s.matchMcast p with | some r => s.mcastAnswer r p.src p.status | none => s)

/-- MCAST_DROP (R261, R262). -/
def State.mcastDrop (s : State) (site : Nat) (p : Pkt) : State :=
  s.arrive site 0xC 1 p (fun s => match s.matchMcast p with | some r => s.mcastAnswer r p.src 0x3301 | none => s)

/-- The code that refuses a copy for a core (R184, R262): the core is not bound to the group's owner, or the owner does not hold the die region. -/
def State.mcRefuse (s : State) (site slot : Nat) (p : Pkt) : Nat :=
  let c : CoreId := ⟨site, slot⟩
  let owner := s.rd (F.BK_MC_ENTRY_OWNER.at site 0 (s.mcIx site p.group))
  if !(s.bound c) ∨ s.ctxOf c ≠ owner then 0x2103
  else if p.space = 2 ∧ (s.dieRefused site owner [(p.addr, p.data.length)]).isSome then 0x2103
  else 0

/-- The target cores of a group at a site (R258). -/
def State.mcSlots (s : State) (site : Nat) (p : Pkt) : List Nat := ones (s.rd (F.BK_MC_CORES_CORES.at site 0 (s.mcIx site p.group))) 18

/-- Does a copy wait at its router for a fill of the memory it reaches (R192, R202). -/
def State.mcBusy (s : State) (site : Nat) (p : Pkt) : Bool :=
  (s.mcSlots site p).any (fun n => s.localBusy ⟨site, n⟩ p.space [(p.addr, p.data.length)])

/-- A target die takes a copy in: its data goes to every target core, and the last packet of the transfer is acknowledged (R131, R262). -/
def State.mcTake (s : State) (site : Nat) (p : Pkt) : State :=
  let k : Key := [site, p.src, p.sunit, p.xfer]
  let s := each (s.mcSlots site p) (fun n s =>
    let code := s.mcRefuse site n p
    if code ≠ 0 then (if tget 0 s.mcBad k = 0x3301 then s else { s with mcBad := tset 0 s.mcBad k code })
    else if p.space = 1 then s.corePut ⟨site, n⟩ p.addr p.data
    else s.diePut site p.addr p.data) s
  s.mcCount site p

/-- A copy held at its router: in a hold slot while one of the four is free, else in the MCAST input buffer; its timeout runs from now (R260, R261). -/
def State.mcHold (s : State) (site : Nat) (p : Pkt) : State :=
  let used := s.rd (F.BK_HOLD_USED.at site)
  let free := decide (used < 4)
  let s : State := { s with holds := s.holds ++ [{ site := site, pkt := p, since := s.now site, slot := free }] }
  if free then s.wr (F.BK_HOLD_USED.at site) (used + 1) else s

/-- MCAST_PACKET (R259, R260): a copy at the router of a target die ejects, or is held; behind a copy that is held there it waits its turn (DESIGN CHOICE, log 63). -/
def State.mcPacket (s : State) (site : Nat) (p : Pkt) (room : Bool) : State :=
  s.whenTurn (.mcast site p) (fun s =>
    let s := s.take (.mcast site p)
    if p.crc ≠ pktCrc p ∨ p.type ≠ 7 ∨ p.vc ≠ 2 then s.discard site
    else if room ∧ !(s.holds.any (fun e => e.site == site)) ∧ !(s.mcBusy site p) then s.mcTake site p
    else s.mcHold site p)

/-- MCAST_HOLD_EJECT (R260): a buffer frees, and the copy held longest at the site ejects. The spec names no order of several held copies: DESIGN CHOICE, log 63. -/
def State.mcEject (s : State) (site : Nat) : State :=
  match s.holds.find? (fun e => e.site == site) with
  | some e => if s.mcBusy site e.pkt then s else (s.unhold e).mcTake site e.pkt
  | none => s

/-- When the timeout of a held copy ends: its group's TMO after it first failed to eject (R261). -/
def State.mcEnd (s : State) (e : Hold) : Nat := e.since + 1000 * s.rd (F.BK_MC_TMO_TMO.at e.site 0 (s.mcIx e.site e.pkt.group))

/-- MCAST_HOLD_TIMEOUT (R261): the copy of a router whose timeout ends first is dropped. -/
def State.mcTimeout (s : State) (site : Nat) : State :=
  match (s.holds.filter (fun e => e.site == site)).foldl (fun b e =>
      match b with
      | some x => if s.mcEnd e < s.mcEnd x then some e else b
      | none => some e) (none : Option Hold) with
  | none => s
  | some e => s.mcLose e

end Sys2Proof.Machine
end

