-- ==== Sys2Proof/Machine/Host.lean ====
section
/-! DEFINITION. The host interface (R340 to R362): BAR accesses, doorbells, the aperture, CXL.mem and CXL.cache, event queues and MSI-X, port events and the DOE mailbox. -/

namespace Sys2Proof.Machine

/-- Site of a port (R37). -/
def hostSite (port : Nat) : Nat := 304 + port % 2

/-- Does a port take requests: its link is up. -/
def State.portUp (s : State) (port : Nat) : Bool := decide (port < 2) && s.on (F.CP_LINK_UP.at (hostSite port))

/-- Does a port decode its BARs: up and not in D3hot (R340). -/
def State.barUp (s : State) (port : Nat) : Bool := s.portUp port && !(s.d3.contains port)

/-- Does a port run CXL.mem and CXL.cache (R340, R341). -/
def State.cxlUp (s : State) (port : Nat) : Bool := s.portUp port && s.on (F.CP_LINK_CXL.at (hostSite port))

/-- An answer to a port's host. -/
def State.answerHost (s : State) (port : Nat) (a : HostAns) (data : List Byte) : State := s.send (.hostAnswer port a data)

/-- A record of the host interface (R359). -/
def State.hostRecord (s : State) (code port path : Nat) (write : Bool) (pasid master addr : Nat) (low : Nat) (sev : Nat := 0) : State :=
  s.report { code := code, site := hostSite port, unit := port, sev := sev, master := master,
             info0 := path + bnat write * 16 + pasid <<< 5, info1 := addr % 2 ^ 32, info2 := if code = 0xC103 then low else addr >>> 32 }

/-- A refused host request is counted and recorded with the target's code (R354). -/
def State.hostRefuse (s : State) (port path : Nat) (write : Bool) (pasid master addr code : Nat) : State :=
  (s.bump (F.CP_REFUSED_COUNT.at (hostSite port))).hostRecord 0xC103 port path write pasid master addr code

/-- The master of a request with a PASID, or of one without (R345): none where the PASID is in no valid entry. -/
def State.hostMaster (s : State) (port : Nat) (pasid : Option Nat) : Option Nat :=
  let site := hostSite port
  match pasid with
  | none => some (1024 + s.rd (F.PS_DEFAULT_MOFF.at site))
  | some x =>
    ((List.range 64).find? (fun i => s.on (F.PS_ENTRY_VALID.at site 0 i) && decide (s.rd (F.PS_ENTRY_PASID.at site 0 i) = x))).map
      (fun i => 1024 + s.rd (F.PS_ENTRY_MOFF.at site 0 i))

/-- A CXL.io request of a port: its master found, or Unsupported Request with 0xC102 in place of 0xC103, counted as every refusal is (R345, R354). -/
def State.hostIo (s : State) (port path : Nat) (pasid : Option Nat) (write : Bool) (addr : Nat) (f : Nat → State) : State :=
  if !(s.barUp port) then s
  else
    match s.hostMaster port pasid with
    | some m => f m
    | none =>
      (((s.bump (F.CP_REFUSED_COUNT.at (hostSite port))).bump (F.PS_UNMAPPED_COUNT.at (hostSite port))).hostRecord 0xC102 port path write (pasid.getD 0) 0xFFF addr 0).answerHost port .unsupported []

/-- A control RD or WR from a site (R266): the tag it carries, and the state. -/
def State.sendAccess (s : State) (src dest page off master : Nat) (w : Option Nat) : Nat × State :=
  let tag := tget 0 s.ctlTag [src]
  let s := { s with ctlTag := tset 0 s.ctlTag [src] ((tag + 1) % 64) }
  let m : CtlMsg := { type := if w.isSome then 2 else 1, dest := dest, src := src, tag := tag,
                      words := (page + (off / 4) <<< 8 + master <<< 18) :: (match w with | some v => [v % 2 ^ 32] | none => []) }
  (tag, s.send (.ctl m))

/-- Is a register access answered at the port: a reserved site, an absent page, or a dark site's page other than 0x00 (R34). -/
def State.answeredAtPort (s : State) (site page : Nat) : Bool :=
  (match partOf site with | .none => true | _ => false) || (blockOf site page).isNone || (s.dark site && decide (page ≠ 0))

/-- A host request in progress recorded; its number. -/
def State.openReq (s : State) (port path : Nat) (write : Bool) (addr len pasid master site : Nat) (tags : List Nat) (after : List Nat := []) : State :=
  { s with hostReqs := s.hostReqs ++ [{ id := s.hostNext, port := port, path := path, write := write, addr := addr, len := len, pasid := pasid,
                                        master := master, site := site, tags := tags, got := [], after := after }], hostNext := s.hostNext + 1 }

/-- A BAR0 access answered at the port: a write is discarded, and a read of zeros completes after the master's earlier writes to the site (R34 to R36). -/
def State.answerZero (s : State) (port off len pasid master : Nat) (write : Bool) : State :=
  let site := bits off 28 20
  let before := (s.hostReqs.filter (fun h => decide (h.path = 1 ∧ h.master = master ∧ h.site = site) && h.write)).map (fun h => h.id)
  if write then s.answerHost port .done []
  else if before.isEmpty then s.answerHost port .data (natLe 0 len)
  else s.openReq port 1 false off len pasid master site [] before

/-- BAR0_ACCESS (R33 to R36, R345, R350, R354): `w` is the data of a write. -/
def State.bar0 (s : State) (port : Nat) (pasid : Option Nat) (off len : Nat) (w : Option Nat) : State :=
  s.hostIo port 1 pasid w.isSome off (fun m =>
    let site := bits off 28 20
    let page := bits off 19 12
    let reg := bits off 11 0
    if ¬ ((len = 4 ∧ off % 4 = 0) ∨ (len = 8 ∧ off % 8 = 0)) then
      let s := (s.bump (F.CP_REFUSED_COUNT.at (hostSite port))).bump (F.CP_UNALIGNED_COUNT.at (hostSite port))
      (s.hostRecord 0xC101 port 1 w.isSome (pasid.getD 0) m off 0).answerZero port off len (pasid.getD 0) m w.isSome
    else if s.answeredAtPort site page then s.answerZero port off len (pasid.getD 0) m w.isSome
    else
      let a := s.sendAccess (hostSite port) site page reg m (w.map (fun v => v % 2 ^ 32))
      if len = 4 then a.2.openReq port 1 w.isSome off 4 (pasid.getD 0) m site [a.1]
      else
        let b := a.2.sendAccess (hostSite port) site page (reg + 4) m (w.map (fun v => v >>> 32))
        b.2.openReq port 1 w.isSome off 8 (pasid.getD 0) m site [a.1, b.1])

/-- Doorbells forwarded whose earlier posted writes are all acknowledged, in order (R350). -/
def State.forwardBells (s : State) : State :=
  loopN s.bells.length (fun _ s =>
    match s.bells.find? (fun b => b.after.isEmpty && !(s.bells.any (fun x => decide (x.port = b.port) && !x.after.isEmpty && decide (x ≠ b) &&
        decide (s.bells.findIdx (· = x) < s.bells.findIdx (· = b))))) with
    | some b => ({ s with bells := s.bells.erase b, bellsOut := s.bellsOut ++ [b] } : State).send (.ctl b.msg)
    | none => s) s

/-- Reads answered at a port whose earlier writes have all been performed complete (R36). -/
def State.answerWaiting (s : State) : State :=
  let ready (h : HostReq) : Bool := decide (h.path = 1) && !h.write && h.tags.isEmpty && h.after.isEmpty
  each (s.hostReqs.filter ready) (fun h s => s.answerHost h.port .data (natLe 0 h.len)) { s with hostReqs := s.hostReqs.filter (fun h => !(ready h)) }

/-- A host request has ended (R36, R350): doorbells and reads behind it may go. -/
def State.closeReq (s : State) (h : HostReq) : State :=
  let rest (l : List Nat) : List Nat := l.filter (fun i => decide (i ≠ h.id))
  ({ s with hostReqs := (s.hostReqs.erase h).map (fun x => { x with after := rest x.after }),
            bells := s.bells.map (fun b => { b with after := rest b.after }) } : State).answerWaiting.forwardBells

/-- BAR2_DOORBELL_WRITE (R319, R343, R350): a write of DB_TAIL goes to the steward behind the port's posted writes; DB_HEAD and DB_STAT are read, zero where refused (R327, R354). -/
def State.bar2 (s : State) (port : Nat) (pasid : Option Nat) (off : Nat) (w : Option Nat) : State :=
  s.hostIo port 2 pasid w.isSome off (fun m =>
    let q := off / 4096 % 4096
    let reg := off % 4096
    match w with
    | some v =>
      if reg ≠ 0 then s
      else
        let b : HeldBell := { port := port, msg := doorbellMsg q 0 m s.steward (hostSite port) 0 (v % 2 ^ 32), pasid := pasid.getD 0,
                              after := (s.hostReqs.filter (fun h => decide (h.port = port ∧ (h.path = 1 ∨ h.path = 3)) && h.write)).map (fun h => h.id) }
        ({ s with bells := s.bells ++ [b] } : State).forwardBells
    | none =>
      if ¬ (reg = 4 ∨ reg = 8) then s.answerHost port .data (natLe 0 4)
      else if !(s.quAllowed q m false) then
        ((s.deny s.steward 1 m false (0x5201, 1, q / 64) 1 q (hostSite port) 0x1F).hostRefuse port 2 false (pasid.getD 0) m off 0x5201).answerHost port .data (natLe 0 4)
      else
        let full := decide ((s.rd (F.QU_TAIL_TAIL.at stw 0 q) + 2 ^ 32 - s.rd (F.QU_HEAD_HEAD.at stw 0 q)) % 2 ^ 32 = 2 ^ s.rd (F.QU_CFG_LOG2SIZE.at stw 0 q))
        s.answerHost port .data (natLe (if reg = 4 then s.rd (F.QU_HEAD_HEAD.at stw 0 q)
          else s.rd (F.QU_CFG_ENABLE.at stw 0 q) + 2 * s.rd (F.QU_STAT_STOPPED.at stw 0 q) + 4 * bnat full) 4))

/-- A refused DB_TAIL is counted and recorded at its port with the PASID it came with (R354, R359); the address is the doorbell's BAR2 offset. -/
def State.bellRefused (s : State) (m : CtlMsg) (pasid code : Nat) : State :=
  if m.src = 304 ∨ m.src = 305 then s.hostRefuse (m.src - 304) 2 true pasid (dbMaster m) (dbQueue m * 4096) code else s

/-- DOORBELL_TAIL as a host's port sees it: the queue block's answer, and the refusal counted (R319, R354). -/
def State.hostDoorbell (s : State) (m : CtlMsg) : State :=
  let q := dbQueue m
  let t := s.doorbellTail m
  if !(s.isDoorbell 0 m) then t
  else
    let held := s.bellsOut.find? (fun b => decide (b.msg = m))
    let pasid := match held with | some b => b.pasid | none => 0
    let t := match held with | some b => { t with bellsOut := t.bellsOut.erase b } | none => t
    if s.quCheck q (dbMaster m) ≠ 0 then t.bellRefused m pasid (s.quCheck q (dbMaster m))
    else if s.quRefusal q 0 ≠ 0 then t.bellRefused m pasid (s.quRefusal q 0)
    else if s.tailBad q (dbArg m) then t.bellRefused m pasid 0x5302
    else t

/-- A bulk request of a port for a sector access (R344, R348): a write of less than the sector is a WRITE_PARTIAL of its bytes, or of those that the byte enables after a line's 64 bytes name. -/
def State.hostSend (s : State) (port path : Nat) (write : Bool) (hostAddr len pasid master p off : Nat) (data : List Byte) : State :=
  let site := hostSite port
  let sec := off - off % 64
  let whole := decide (off % 64 = 0 ∧ len = 64 ∧ data.length ≤ 64)
  let pkt : Pkt :=
    if !write then { type := 1, dest := 4 * p + 2, src := site, master := master, addr := stkAddr p sec, len := 1 }
    else if whole then { type := 2, dest := 4 * p + 2, src := site, master := master, addr := stkAddr p sec, len := 1, data := data }
    else if 64 < data.length then
      { type := 3, dest := 4 * p + 2, src := site, master := master, addr := stkAddr p sec, len := 1, bmask := leNat ((data.drop 64).take 8), data := data.take 64 }
    else { type := 3, dest := 4 * p + 2, src := site, master := master, addr := stkAddr p sec, len := 1,
           bmask := (2 ^ len - 1) <<< (off % 64), data := List.replicate (off % 64) 0 ++ data ++ List.replicate (64 - off % 64 - len) 0 }
  let id := s.hostNext
  let s := s.openReq port path write hostAddr len pasid master site []
  s.request pkt (if path = 4 then 6 else 5) id 0

/-- The answer to a refused host access (R354); of one through BAR4 AER logs the Completer Abort, an advisory one for a write. -/
def State.refuseHost (s : State) (port path : Nat) (write : Bool) (len pasid master addr code : Nat) : State :=
  let s := s.hostRefuse port path write pasid master addr code
  if path = 4 then
    if write then s.answerHost port .cmp []
    else (s.bump (F.CP_POISON_COUNT.at (hostSite port))).answerHost port .poison (natLe 0 64)
  else ({ s with aer := s.aer ++ [(port, write, addr)] } : State).answerHost port .abort (if write then [] else natLe 0 len)

/-- A host access to a panel address (R344, R346, R348). -/
def State.hostMem (s : State) (port path : Nat) (write : Bool) (hostAddr addr len pasid master : Nat) (data : List Byte) : State :=
  let site := hostSite port
  let q : Asker := { master := master, site := site, slot := 0x1F, type := if write then 2 else 1, op := bnat write }
  match s.xlate site addr with
  | .error c => (s.badAddr q addr c).refuseHost port path write len pasid master hostAddr 0x2202
  | .ok (p, off) =>
    if !(s.routed site (4 * p + 2)) then (s.noRoute q addr (4 * p + 2)).refuseHost port path write len pasid master hostAddr 0x3103
    else s.hostSend port path write hostAddr len pasid master p off data

/-- A pending vector that is no longer masked is sent (R343, R353). -/
def State.msixUnmask (s : State) (port vec : Nat) : State :=
  if tget 0 s.msixPend [port, vec] = 1 ∧ s.msixNat port (16 * vec + 12) 4 % 2 = 0 then
    ({ s with msixPend := tset 0 s.msixPend [port, vec] 0 } : State).msixSend port vec
  else s

/-- A write to the MSI-X table (R343). -/
def State.msixWrite (s : State) (port a : Nat) (data : List Byte) : State :=
  let s := { s with msixTab := (data.mapIdx (fun i b => (a + i, b ^^^ (if (a + i) % 16 = 12 then 1 else 0)))).foldl
                      (fun m e => mset m (port * 65536 + e.1) e.2) s.msixTab }
  each ((List.range data.length).map (fun i => (a + i) / 16)).eraseDups (fun v s => s.msixUnmask port v) s

/-- BAR4_APERTURE_ACCESS (R343, R344, R354): the aperture, the MSI-X table and its pending bits; the component registers are CXL's own (log 30). -/
def State.bar4 (s : State) (port : Nat) (pasid : Option Nat) (off len : Nat) (w : Option (List Byte)) : State :=
  s.hostIo port 3 pasid w.isSome off (fun m =>
    let say (s : State) (b : List Byte) : State := if w.isSome then s.answerHost port .done [] else s.answerHost port .data b
    if len = 0 ∨ len > 64 ∨ off % 64 + len > 64 then s
    else if off < 0x4000000 then
      s.hostMem port 3 w.isSome off ((s.rd (F.CP_AP.at (hostSite port))) <<< 26 + off) len (pasid.getD 0) m (padTo len (w.getD []))
    else if off < 0x4010000 then
      match w with
      | some _ => say s []
      | none => let f := s.freeBytes len; say f.2 (f.1.take len)
    else if off < 0x4018000 then
      let a := off - 0x4010000
      match w with
      | some b => say (s.msixWrite port a (padTo len b)) []
      | none => say s ((List.range len).map (fun i => s.msixByte port (a + i)))
    else if off < 0x4018100 then
      let a := off - 0x4018000
      say s ((List.range len).map (fun i => BitVec.ofNat 8 ((List.range 8).foldl (fun v j => v + (tget 0 s.msixPend [port, 8 * (a + i) + j]) <<< j) 0)))
    else say s (natLe 0 len))

/-- A committed HDM decoder that holds a host address: the device address (R346). -/
def State.hdmFind (s : State) (port hpa : Nat) : Option Nat :=
  let g (i j : Nat) : Nat := tget 0 s.hdm [port, i, j]
  let inside (i : Nat) : Bool := decide (g i 3 = 1 ∧ g i 0 ≤ hpa ∧ hpa < g i 0 + g i 1)
  if inside 0 then some (g 0 2 + (hpa - g 0 0))
  else if inside 1 then some (g 0 2 + g 0 1 + g 1 2 + (hpa - g 1 0))
  else none

/-- A CXL.mem request of a port (R345 to R348). -/
def State.cxlMem (s : State) (port hpa : Nat) (write : Bool) (len : Nat) (data : List Byte) : State :=
  if !(s.cxlUp port) then s
  else
    match s.hdmFind port (hpa - hpa % 64) with
    | none => s
    | some d =>
      if d ≥ 2 ^ 43 then s
      else s.hostMem port 4 write hpa (2 ^ 47 + d + hpa % 64) len 0 (1024 + s.rd (F.PS_DEFAULT_MOFF.at (hostSite port))) data

/-- CXL_MEM_READ (R348): a full line. -/
def State.cxlRead (s : State) (port hpa : Nat) : State := s.cxlMem port (hpa - hpa % 64) false 64 []

/-- CXL_MEM_WRITE (R348): a line, or bytes of one line; less than the line becomes WRITE_PARTIAL. A partial write of any bytes gives the line's 64 bytes and 8 bytes more, a bit for each byte that is written. -/
def State.cxlWrite (s : State) (port hpa : Nat) (data : List Byte) : State :=
  if data.length = 72 then s.cxlMem port (hpa - hpa % 64) true 64 data
  else if data.isEmpty ∨ hpa % 64 + data.length > 64 then s
  else s.cxlMem port hpa true data.length data

/-- HOST_SNOOP (R340). -/
def State.hostSnoop (s : State) (port : Nat) : State := if s.cxlUp port then s.answerHost port .rspIHitI [] else s

/-- A bulk response to a host request (R344, R348, R354). -/
def State.hostBulkAnswer (s : State) (r : Req) (status : Nat) (data : List Byte) : State :=
  match s.hostReqs.find? (fun h => h.id == r.ref) with
  | none => s
  | some h =>
    let s := s.closeReq h
    if status ≠ 0 then s.refuseHost h.port h.path h.write h.len h.pasid h.master h.addr status
    else if h.write then s.answerHost h.port (if h.path = 4 then .cmp else .done) []
    else s.answerHost h.port (if h.path = 4 then .memData else .data) ((data.drop (r.pkt.addr % 64 + h.addr % 64)).take h.len)

/-- A register response to a host request: RD_RSP or WR_ACK with its tag (R36, R266). -/
def State.hostRegAnswer (s : State) (m : CtlMsg) : State :=
  match s.hostReqs.find? (fun h => decide (h.path = 1 ∧ hostSite h.port = m.dest ∧ h.site = m.src) && h.tags.contains m.tag) with
  | none => s
  | some h =>
    let h' := { h with tags := h.tags.erase m.tag, got := h.got ++ [m.words.headD 0] }
    if h'.tags.isEmpty then
      let s := s.closeReq h
      if h.write then s.answerHost h.port .done [] else s.answerHost h.port .data (h'.got.flatMap (fun v => natLe v 4))
    else { s with hostReqs := s.hostReqs.map (fun x => if x = h then h' else x) }

/-- What a CXL.cache read has brought: an entry of a flush, for its work record (R324); nothing to keep where the queue has STOPPED meanwhile, whose reading RESTART takes up again; else the next entry. -/
def State.ringRead (s : State) (q : Nat) (b : Option Nat) : State :=
  let k := s.queue q
  if k.dropN ≠ 0 then
    let s := s.onQueue q (fun k => { k with dropAt := (k.dropAt + 1) % 2 ^ 32, dropN := k.dropN - 1 })
    match b with
    | some e => s.dropRecord q e
    | none => s.quStop q 0x5305 0 k.dropAt
  else if s.on (F.QU_STAT_STOPPED.at stw 0 q) then
    match b with
    | some _ => s
    | none => s.quStop q 0x5305 0 k.rd
  else s.entryRead q b

/-- The queue of a failed CXL.cache read stops (R349, R325). -/
def State.cacheFail (s : State) (port q : Nat) : State :=
  ({ s with crds := s.crds.erase (port, q) } : State).ringRead q none

/-- CACHE_READ_RESPONSE (R349): the line, or poison. -/
def State.cacheResponse (s : State) (port q : Nat) (data : Option (List Byte)) : State :=
  if !(s.crds.contains (port, q)) then s
  else
    match data with
    | none => ((s.cacheFail port q).readNext q).moreReads
    | some b => (((({ s with crds := s.crds.erase (port, q) } : State).ringRead q (some (leNat (padTo 64 b)))).readNext q).moreReads).kick

/-- HOST_INT_TIMEOUT (R355): the read with a number, or with `cache` the CXL.cache read of a queue. -/
def State.hostTimeout (s : State) (port : Nat) (cache : Bool) (n : Nat) : State :=
  if cache then
    if s.crds.contains (port, n) then
      let s := (s.bump (F.CP_TIMEOUT_COUNT.at (hostSite port))).hostRecord 0xC104 port 5 false 0 0xFFF (s.ringAddr n (s.nextIndex n)) 0
      ((s.cacheFail port n).readNext n).moreReads
    else s
  else
    match s.hostReqs.find? (fun h => decide (h.id = n ∧ h.port = port) && !h.write) with
    | none => s
    | some h =>
      let s := { s with outst := s.outst.filter (fun r => decide (¬ ((r.why = 5 ∨ r.why = 6) ∧ r.ref = n))) }
      let s := (s.closeReq h).bump (F.CP_TIMEOUT_COUNT.at (hostSite port))
      let s := s.hostRecord 0xC104 port h.path false h.pasid h.master h.addr 0
      if h.path = 4 then (s.bump (F.CP_POISON_COUNT.at (hostSite port))).answerHost port .poison (natLe 0 64)
      else s.answerHost port .abort (natLe 0 h.len)

/-- HOST_PORT_RESET (R356, R536): a Function Level Reset, hot reset or link-down. R356 names no change of the HDM decoders, and they stay as they are (DEDUCED, log 65). -/
def State.portReset (s : State) (port : Nat) (linkDown : Bool) : State :=
  if !(s.portUp port) then s
  else
    let site := hostSite port
    let s := { s with hostReqs := s.hostReqs.filter (fun h => decide (h.port ≠ port)), bells := s.bells.filter (fun b => decide (b.port ≠ port)), bellsOut := s.bellsOut.filter (fun b => decide (b.port ≠ port)),
                      outst := s.outst.filter (fun r => decide (¬ (r.site = site ∧ (r.why = 5 ∨ r.why = 6)))),
                      tagNext := tset 0 s.tagNext [site, 64] ((tget 0 s.tagNext [site, 64] + 1) % 65536) }
    let mine := s.crds.filter (fun e => decide (e.1 = port))
    let s := each mine (fun e s => s.cacheFail e.1 e.2) s
    let s := loopN 512 (fun e s => s.wr (F.EQ_CFG_ENABLE.at site 0 e) 0) s
    let s := { s with eqs := tkeep s.eqs (fun k => decide (k.headD 0 ≠ port)), msixPend := tkeep s.msixPend (fun k => decide (k.headD 0 ≠ port)),
                      msixTab := mzero s.msixTab (port * 65536) 65536 }
    let s := (s.resetPages site [0x21]).wr (F.CP_AP.at site) 0
    let s := if linkDown then
      let s := ((((s.wr (F.CP_LINK_SPEED.at site) 0).wr (F.CP_LINK_WIDTH.at site) 0).wr (F.CP_LINK_UP.at site) 0).wr (F.CP_LINK_CXL.at site) 0).wr (F.CP_LINK_LOPT.at site) 0
      (s.wr (F.CP_LINK_CACHE.at site) 0).hostRecord 0xC106 port 0 false 0 0xFFF 0 0 2
    else s
    (each mine (fun e s => s.readNext e.2) s).moreReads

/-- HOST_LINK_TRAINED (R340, R341): what was negotiated, within SPEED_CAP, LOPT_EN and what configuration space reports (R342); a narrower link than ×4 fails. -/
def State.linkTrained (s : State) (port speed width : Nat) (cxl lopt cache : Bool) : State :=
  let site := hostSite port
  if port > 1 ∨ s.portUp port ∨ s.dark site ∨ s.pins.held ∨ !s.pins.rstN ∨ ¬ (width = 4 ∨ width = 8) ∨ ¬ (speed = 5 ∨ (speed = 6 ∧ !(s.on (F.CP_CFG_SPEED_CAP.at site)))) then s
  else
    let cxl := cxl && s.cfg.memCapable
    let s := (((s.wr (F.CP_LINK_SPEED.at site) speed).wr (F.CP_LINK_WIDTH.at site) width).wr (F.CP_LINK_UP.at site) 1).wr (F.CP_LINK_CXL.at site) (bnat cxl)
    let s := (s.wr (F.CP_LINK_LOPT.at site) (bnat (lopt && s.on (F.CP_CFG_LOPT_EN.at site)))).wr (F.CP_LINK_CACHE.at site) (bnat (cxl && cache && s.cfg.cacheCapable))
    if cxl then s else ({ s with hdm := tkeep s.hdm (fun k => decide (k.headD 0 ≠ port)) } : State).wr (F.CP_LINK_MEM.at site) 0

/-- The identification words of a port's configuration space (R342): Vendor and Device ID at 0, Revision ID, which is PG_ID.LAYOUT, and Class Code at 8. -/
def State.cfgHead (s : State) (port off : Nat) : Nat :=
  if off = 0 then Config.vendorId.toNat + s.cfg.deviceId <<< 16
  else if off = 8 then s.rd (F.PG_ID_LAYOUT.at (hostSite port)) + s.cfg.classCode <<< 8
  else 0

/-- HDM_DECODER_COMMIT (R346): base, size, DPA skip and interleave ways of a decoder that HDM_Count names (R342); anything outside the limits reports Err Not Committed (state 2). -/
def State.hdmCommit (s : State) (port i base size skip ways : Nat) : State :=
  if !(s.cxlUp port) ∨ s.cfg.hdmCount ≤ i then s
  else
    let mb := 2 ^ 28
    let ok := decide (ways = 1 ∧ base % mb = 0 ∧ size % mb = 0 ∧ 0 < size)
    let put (s : State) (j v : Nat) : State := { s with hdm := tset 0 s.hdm [port, i, j] v }
    let s := if ok then put (put (put (put s 0 base) 1 size) 2 skip) 3 1 else put s 3 2
    s.wr (F.CP_LINK_MEM.at (hostSite port)) (bnat ([0, 1].any (fun d => decide (tget 0 s.hdm [port, d, 3] = 1))))

/-- MSIX_IMOD_EXPIRE (R353). -/
def State.imodExpire (s : State) (port e : Nat) : State :=
  let k := s.eq port e
  if !k.uncovered then s
  else
    let site := hostSite port
    (s.msixSend port (s.rd (F.EQ_CFG_VECTOR.at site 0 e))).setEq port e
      { k with until_ := s.now site + s.rd (F.EQ_CFG_IMOD.at site 0 e) * 1000, uncovered := false }

/-- The event queue EQ_SEL selects. -/
def State.eqSel (s : State) (port : Nat) : Nat := s.rd (F.EQ_SEL_EQ.at (hostSite port))

/-- EQ_HEAD_WRITE (R352): discarded when it would pass TAIL. -/
def State.eqHead (s : State) (port v : Nat) : State :=
  let site := hostSite port
  let e := s.eqSel port
  let h := s.rd (F.EQ_HEAD_HEAD.at site 0 e)
  let t := s.rd (F.EQ_TAIL_TAIL.at site 0 e)
  if (v % 2 ^ 32 + 2 ^ 32 - h) % 2 ^ 32 ≤ (t + 2 ^ 32 - h) % 2 ^ 32 then s.wr (F.EQ_HEAD_HEAD.at site 0 e) v else s

/-- EQ_ENABLE_WRITE (R362). -/
def State.eqEnable (s : State) (port : Nat) (v : Bool) : State :=
  let site := hostSite port
  let e := s.eqSel port
  let was := s.on (F.EQ_CFG_ENABLE.at site 0 e)
  let s := s.wr (F.EQ_CFG_ENABLE.at site 0 e) (bnat v)
  if v ∧ !was then ((s.wr (F.EQ_HEAD_HEAD.at site 0 e) 0).wr (F.EQ_TAIL_TAIL.at site 0 e) 0).setEq port e eqReset else s

/-- A DOE exchange of a port (R357): a request object of a size within 64 KiB. -/
def State.doeAsk (s : State) (port : Nat) (f : State → State) : State := if s.portUp port then f s else s

/-- DOE_DISCOVERY (R357): protocol `ix` of the three, with its vendor ID and type and the next index, 0 after the last. -/
def State.doeDiscovery (s : State) (port ix : Nat) : State :=
  s.doeAsk port (fun s =>
    match ix with
    | 0 => s.send (.doeAnswer port [0x0001, 0x00, 1])
    | 1 => s.send (.doeAnswer port [0x1E98, 0x02, 2])
    | 2 => s.send (.doeAnswer port [Config.vendorId.toNat, 0x01, 0])
    | _ => s.send (.doeAnswer port [0xFFFF, 0, 0]))

/-- CDAT_TABLE_ACCESS (R357): the DSMAS range of 8 TiB from 0 that R342 reports, then the DSLBIS read and write latencies in ns and bandwidths in GB/s. -/
def State.cdatAccess (s : State) (port : Nat) : State :=
  s.doeAsk port (fun s => s.send (.doeAnswer port [0, 2 ^ 43, 292, 260, 64, 64]))

/-- Does a port's DOE instance show DOE Error (R357)? -/
def State.doeErr (s : State) (port : Nat) : Bool := decide (tget [] s.doe [port] ≠ [])

/-- A request object above 64 KiB, of a header of 8 bytes, a message word and its payload, is discarded, and the instance sets DOE Error (R357, R557). -/
def State.doeSized (s : State) (port len : Nat) (f : State → State) : State :=
  if 65536 < 12 + len then { s with doe := tset [] s.doe [port] [1] } else f s

/-- DOE_ABORT (R357): the exchange ends, with its DOE Error, and the attestation state it began is discarded. -/
def State.doeAbort (s : State) (port : Nat) : State :=
  s.doeAsk port (fun s => { s with doe := tset [] s.doe [port] [] })

/-- D3HOT (R340). -/
def State.setD3 (s : State) (port : Nat) (d3 : Bool) : State :=
  if !(s.portUp port) then s
  else { s with d3 := if d3 then (if s.d3.contains port then s.d3 else s.d3 ++ [port]) else s.d3.filter (fun x => decide (x ≠ port)) }

end Sys2Proof.Machine
end

