-- ==== Sys2Proof/Machine/Security.lean ====
section
/-! DEFINITION. Firmware trust, identity and attestation (R547 to R561): the image check, anti-rollback counters, measurement slots, the attestation protocol and debug access, as the security die performs them. -/

namespace Sys2Proof.Machine

/-- Site of the security die (R25). -/
def secSite : Nat := 308

/-- A security record (R560). -/
def State.secRec (s : State) (code sev cause fw key info2 : Nat) : State :=
  s.report { code := code, site := secSite, unit := 0xFF, sev := sev, info0 := cause + fw <<< 4, info1 := key, info2 := info2 }

/-- Bytes of a public key (R547). -/
def keyBytes : Nat := 2592

/-- A byte of a steward's load buffer (R522). -/
def State.fwBytes (s : State) (site a n : Nat) : List Byte := mgetN s.fwbuf ((site - 306) * 0x1000000 + a) n

/-- A little-endian number of a load buffer. -/
def State.fwNat (s : State) (site a n : Nat) : Nat := leNat (s.fwBytes site a n)

/-- The checks of an image in order (R548, R549): 0, or the first code that fails and its cause. -/
def State.imageCheck (s : State) (site : Nat) : Nat × Nat :=
  let body := s.fwNat site 10 4
  let zero (a n : Nat) : Bool := (s.fwBytes site a n).all (fun b => decide (b = 0))
  let root := s.fwBytes site 64 keyBytes
  let sign := s.fwBytes site 2656 keyBytes
  if s.fwNat site 0 4 ≠ 0x4C425031 ∨ s.fwNat site 4 2 ≠ 1 ∨ body % 4 ≠ 0 ∨ 14516 + body ≠ s.rd (F.BR_FW_LEN_LEN.at site) ∨
      !(zero 22 42) ∨ !(zero 9875 13) ∨ !(zero (14515 + body) 1) then (0xA101, 0)
  else if sha3 root ≠ Config.rootHash then (0xA102, 0)
  else if !(Config.mldsaVerify root (sha3 (sign ++ s.fwBytes site 8 2)) (s.fwBytes site 5248 sigBytes)) then (0xA103, 1)
  else if !(Config.mldsaVerify sign (sha3 (s.fwBytes site 0 (9888 + body))) (s.fwBytes site (9888 + body) sigBytes)) then (0xA103, 2)
  else if s.fwNat site 6 2 < s.rd (F.SEC_FW_SVN_COUNT.at secSite) ∨ s.fwNat site 8 2 < s.rd (F.SEC_KEY_SVN_COUNT.at secSite) then (0xA104, 0)
  else (0, 0)

/-- A measurement slot (R555): slot 0 is fixed, the others are zero until set. -/
def State.slotBytes (s : State) (k : Nat) : List Byte :=
  if k = 0 then Config.romDigest
  else
    let b := tget [] s.sec.slots [k]
    if b = [] then List.replicate 64 0 else b

/-- A measurement slot set. -/
def State.setSlot (s : State) (k : Nat) (d : List Byte) : State := { s with sec := { s.sec with slots := tset [] s.sec.slots [k] d } }

/-- A slot extended with a digest (R556). -/
def State.extendSlot (s : State) (k : Nat) (d : List Byte) : State := s.setSlot k (sha3 (s.slotBytes k ++ d))

/-- The configuration block (R555). -/
def State.configBlock (s : State) : List Byte :=
  let n (f : Fld) (k : Nat) : List Byte := natLe (s.rd (f.at secSite)) k
  n F.SEC_FW_SVN_COUNT 2 ++ n F.SEC_KEY_SVN_COUNT 2 ++ n F.SEC_RUN_FW_SVN 2 ++ n F.SEC_RUN_KEY_SVN 2 ++ n F.SEC_DBG_SCOPE 1 ++ List.replicate 55 0

/-- Slot 3 extends with the new configuration block (R556). -/
def State.extendConfig (s : State) : State := s.extendSlot 3 (sha3 s.configBlock)

/-- The device identity certificate (R553). -/
def State.certificate (s : State) : List Byte := s.storeBytes Config.certAt 7316

/-- The module's serial number as the certificate holds it (R553). -/
def State.certSerial (s : State) : List Byte := (s.certificate.drop 4).take 16

/-- The regenerated key and the certificate checked, after the image (R552, R553). -/
def State.identityCheck (s : State) : State :=
  let cert := s.certificate
  let good := decide ((cert.drop 32).take keyBytes = Config.deviceKey)
  let signed := Config.mldsaVerify s.sec.rootKey (sha3 (cert.take 2688)) ((cert.drop 2688).take sigBytes)
  let fw := s.rd (F.SEC_RUN_FW_SVN.at secSite)
  let key := s.rd (F.SEC_RUN_KEY_SVN.at secSite)
  let s := (s.wr (F.SEC_STAT_IDENT_OK.at secSite) (bnat good)).wr (F.SEC_STAT_CERT_OK.at secSite) (bnat signed)
  let s := if good then s else s.secRec 0xA201 3 0 fw key 0
  if signed then s else s.secRec 0xA202 2 0 fw key 0

/-- The image in a steward's buffer is checked and, when good, runs (R549, R553, R555): the code that failed, or 0. -/
def State.loadFirmware (s : State) (site : Nat) : Nat × State :=
  let c := s.imageCheck site
  let fw := s.fwNat site 6 2
  let key := s.fwNat site 8 2
  if c.1 ≠ 0 then (c.1, (s.wr (F.SEC_STAT_STATE.at secSite) 4).secRec c.1 2 c.2 fw key 0)
  else
    let body := s.fwNat site 10 4
    let s := ((s.wr (F.SEC_RUN_FW_SVN.at secSite) fw).wr (F.SEC_RUN_KEY_SVN.at secSite) key).wr (F.SEC_VER.at secSite) (s.fwNat site 14 8)
    let s : State := { s with sec := { s.sec with rootKey := s.fwBytes site 64 keyBytes, running := true } }
    let s := (s.setSlot 1 (sha3 (s.fwBytes site 0 (9888 + body)))).setSlot 3 (sha3 s.configBlock)
    (0, (s.wr (F.SEC_STAT_STATE.at secSite) 3).identityCheck)

/-- SEC_RESULT (R561). -/
def State.secResult (s : State) (code : Nat) : State := s.wr (F.SEC_RESULT_CODE.at secSite) code

/-- COMMIT_SVN (R551, R556): each counter raised to the running image's field; `fails` is 1 or 2 when the MRAM write of the first or second counter fails, which leaves that counter at its former value or at the new one. -/
def State.commitSvn (s : State) (fails : Nat) : State :=
  if s.dark secSite then s
  else
    let f0 := s.rd (F.SEC_FW_SVN_COUNT.at secSite)
    let k0 := s.rd (F.SEC_KEY_SVN_COUNT.at secSite)
    let f1 := max f0 (s.rd (F.SEC_RUN_FW_SVN.at secSite))
    let k1 := max k0 (s.rd (F.SEC_RUN_KEY_SVN.at secSite))
    let bad (fld : Fld) (old new : Nat) (s : State) : State :=
      let r := s.fresh
      let s := r.2.wr (fld.at secSite) (if r.1 % 2 = 1 then new else old)
      (s.secRec 0xA501 3 0 (s.rd (F.SEC_FW_SVN_COUNT.at secSite)) (s.rd (F.SEC_KEY_SVN_COUNT.at secSite)) 0).secResult 0xA501
    if f0 = f1 ∧ k0 = k1 then s.secResult 0
    else if fails = 1 ∧ f0 ≠ f1 then bad F.SEC_FW_SVN_COUNT f0 f1 s
    else
      let s := s.wr (F.SEC_FW_SVN_COUNT.at secSite) f1
      if fails = 2 ∧ k0 ≠ k1 then bad F.SEC_KEY_SVN_COUNT k0 k1 s
      else (((s.wr (F.SEC_KEY_SVN_COUNT.at secSite) k1).extendConfig).secRec 0xA301 0 0 f1 k1 0).secResult 0

/-- The words SEC_EXT0 to SEC_EXT15 (R561). -/
def secExt : List Fld :=
  [F.SEC_EXT0_DIGEST, F.SEC_EXT1_DIGEST, F.SEC_EXT2_DIGEST, F.SEC_EXT3_DIGEST, F.SEC_EXT4_DIGEST, F.SEC_EXT5_DIGEST, F.SEC_EXT6_DIGEST, F.SEC_EXT7_DIGEST,
   F.SEC_EXT8_DIGEST, F.SEC_EXT9_DIGEST, F.SEC_EXT10_DIGEST, F.SEC_EXT11_DIGEST, F.SEC_EXT12_DIGEST, F.SEC_EXT13_DIGEST, F.SEC_EXT14_DIGEST, F.SEC_EXT15_DIGEST]

/-- EXTEND (R556, R561). -/
def State.secExtend (s : State) (slot : Nat) : State :=
  if s.dark secSite then s
  else if slot < 4 ∨ 7 < slot then s.secResult 0x5405
  else (s.extendSlot slot (secExt.flatMap (fun f => natLe (s.rd (f.at secSite)) 4))).secResult 0

/-- CLOSE_DEBUG (R559). -/
def State.closeDebug (s : State) : State :=
  if s.dark secSite then s
  else (((s.wr (F.SEC_DBG_SCOPE.at secSite) 0).wr (F.SEC_STAT_DEBUG.at secSite) 0).extendConfig).secResult 0

/-- The word of a measurement slot that SEC_MSEL selects (R561). -/
def State.secMdata (s : State) : Nat :=
  leNat (((s.slotBytes (s.rd (F.SEC_MSEL_SLOT.at secSite))).drop (4 * s.rd (F.SEC_MSEL_WORD.at secSite))).take 4)

/-- A response object, padded to whole dwords (R557). -/
def State.doeReply (s : State) (port : Nat) (b : List Byte) : State :=
  s.send (.doeAnswer port ((pieces 4 b.length b).map leNat))

/-- ERROR with a reason (R557). -/
def State.doeError (s : State) (port reason : Nat) : State := s.doeReply port (natLe 0x1FF 4 ++ natLe reason 4)

/-- An attestation request (R557): of a port that is up, with the version and payload length its CODE has, once an identity is available. A wrong VERSION is answered before a wrong length (DESIGN CHOICE, log 47). -/
def State.attestation (s : State) (port version len : Nat) (payload : List Byte) (f : State → State) : State :=
  s.doeAsk port (fun s => s.doeSized port payload.length (fun s =>
    if version ≠ 1 then s.doeError port 2
    else if payload.length ≠ len then s.doeError port 1
    else if !s.sec.running ∨ !(s.on (F.SEC_STAT_IDENT_OK.at secSite)) ∨ !(s.on (F.SEC_STAT_CERT_OK.at secSite)) then s.doeError port 3
    else f s))

/-- The flags of a report (R558). -/
def State.secFlags (s : State) : Nat := s.rd (F.SEC_STAT_DEBUG.at secSite) + 2 * bnat s.sec.fallback + 4 * bnat s.sec.torn

/-- The counters as they stand in a report (R557, R558). -/
def State.svnBytes (s : State) : List Byte := natLe (s.rd (F.SEC_FW_SVN_COUNT.at secSite)) 2 ++ natLe (s.rd (F.SEC_KEY_SVN_COUNT.at secSite)) 2

/-- The slots a mask names, in slot order (R557, R558). -/
def State.maskedSlots (s : State) (mask : Nat) : List Byte := (ones mask 8).flatMap (fun k => s.slotBytes k)

/-- GET_INFO (R557). -/
def State.getInfo (s : State) (port version : Nat) (payload : List Byte) : State :=
  s.attestation port version 0 payload (fun s =>
    s.doeReply port (natLe 0x181 4 ++ s.certSerial ++ s.svnBytes ++ natLe (s.rd (F.SEC_VER.at secSite)) 8 ++ natLe (s.rd (F.OR_GEN_GEN.at stw)) 4 ++
      natLe s.secFlags 1 ++ natLe 8 1 ++ natLe 0 2))

/-- GET_CERT (R557). -/
def State.getCert (s : State) (port version : Nat) (payload : List Byte) : State :=
  s.attestation port version 0 payload (fun s => s.doeReply port (natLe 0x182 4 ++ s.certificate))

/-- GET_MEAS (R557): MASK and three bytes that fill the dword. -/
def State.getMeas (s : State) (port version : Nat) (payload : List Byte) : State :=
  s.attestation port version 4 payload (fun s => s.doeReply port (natLe 0x183 4 ++ s.maskedSlots (leNat (payload.take 1))))

/-- ATTEST (R557, R558): the signature is hedged, so its bytes are free. -/
def State.attest (s : State) (port version : Nat) (payload : List Byte) : State :=
  s.attestation port version 36 payload (fun s =>
    let mask := leNat (payload.take 1)
    let body := natLe (0x184 + mask <<< 16) 4 ++ s.certSerial ++ (payload.drop 4).take 32 ++ natLe (s.now secSite) 8 ++ s.svnBytes ++
      natLe (s.rd (F.SEC_VER.at secSite)) 8 ++ natLe (s.rd (F.OR_GEN_GEN.at stw)) 4 ++ natLe s.secFlags 4 ++ natLe 0 8 ++ s.maskedSlots mask
    let f := s.freeBytes sigBytes
    (f.2.bump (F.SEC_ATTESTS_COUNT.at secSite)).doeReply port (body ++ f.1.take sigBytes))

/-- The debug challenge discarded. -/
def State.dropChallenge (s : State) : State := { s with sec := { s.sec with challenge := [], port := 0, drawn := 0 } }

/-- DEBUG_CHALLENGE (R559): a fresh challenge, whose bytes are free. -/
def State.debugChallenge (s : State) (port version : Nat) (payload : List Byte) : State :=
  s.attestation port version 0 payload (fun s =>
    let f := s.freeBytes 32
    let s : State := { f.2 with sec := { f.2.sec with challenge := f.1, port := port, drawn := f.2.now secSite } }
    s.doeReply port (natLe 0x185 4 ++ f.1))

/-- Does a debug authorisation hold (R559): serial, current challenge within 60 s, SCOPE, signature. -/
def State.debugHolds (s : State) (rec : List Byte) : Bool :=
  decide ((rec.drop 4).take 16 = s.certSerial ∧ s.sec.challenge ≠ [] ∧ (rec.drop 20).take 32 = s.sec.challenge ∧
    s.now secSite ≤ s.sec.drawn + 60000000000 ∧ leNat ((rec.drop 52).take 4) < 2) &&
    Config.mldsaVerify s.sec.rootKey (sha3 (rec.take 64)) ((rec.drop 64).take sigBytes)

/-- DEBUG_AUTH (R559): debug opens or the request is refused; the challenge is consumed either way. -/
def State.debugAuth (s : State) (port version : Nat) (payload : List Byte) : State :=
  s.attestation port version 4696 payload (fun s =>
    let rec_ := payload.drop 4
    let fw := s.rd (F.SEC_RUN_FW_SVN.at secSite)
    let key := s.rd (F.SEC_RUN_KEY_SVN.at secSite)
    if s.debugHolds rec_ then
      let scope := leNat ((rec_.drop 52).take 4)
      let s := ((s.dropChallenge.wr (F.SEC_DBG_SCOPE.at secSite) scope).wr (F.SEC_STAT_DEBUG.at secSite) 1).extendConfig
      (s.secRec 0xA402 0 0 fw scope port).doeReply port (natLe 0x186 4 ++ natLe 0 4)
    else (s.dropChallenge.secRec 0xA401 0 0 fw key port).doeError port 4)

/-- DOE_ABORT with what the security die discards (R357, R559). -/
def State.doeStop (s : State) (port : Nat) : State :=
  let s := s.doeAbort port
  if s.portUp port ∧ s.sec.port = port ∧ s.sec.challenge ≠ [] then s.dropChallenge else s

/-- HOST_PORT_RESET with what the security die discards (R356, R559). -/
def State.hostPortReset (s : State) (port : Nat) (linkDown : Bool) : State :=
  if !(s.portUp port) then s
  else
    let s := s.portReset port linkDown
    if s.sec.port = port then s.dropChallenge else s

end Sys2Proof.Machine
end

