-- ==== Sys2Proof/Machine/Grove.lean ====
section
/-! DEFINITION. The Grove transport and the transfer channels (R386 to R395): packets, connections, acknowledgement, rates, transfer entries and their signals, and the membership table. -/

namespace Sys2Proof.Machine

/-- Is the site an I/O die. -/
def isIo (site : Nat) : Bool := decide (288 ≤ site ∧ site < 304)

/-- The grove control die: the lowest-numbered in-service I/O die (R397). -/
def State.ctlIo (s : State) : Nat := (((List.range 16).map (· + 288)).find? (fun n => s.inService n)).getD 288

/-- Own member ID, role and manager (R397). -/
def State.grMember (s : State) : Nat := s.rd (F.GR_ROLE_MEMBER.at s.ctlIo)
/-- GR_ROLE.ROLE. -/
def State.grRole (s : State) : Nat := s.rd (F.GR_ROLE_ROLE.at s.ctlIo)
/-- GR_ROLE.MGR. -/
def State.grMgr (s : State) : Nat := s.rd (F.GR_ROLE_MGR.at s.ctlIo)
/-- The membership epoch in force (R401). -/
def State.grEpoch (s : State) : Nat := s.rd (F.GR_EPOCH_EPOCH.at s.ctlIo)

/-- Bytes of panel memory as a site's translation finds them; 0 at an address that names no place. -/
def State.peek (s : State) (site addr n : Nat) : List Byte :=
  (List.range n).map (fun i => match s.xlate site (addr + i) with | .ok (p, off) => mget s.mem (stkAddr p off) | .error _ => 0)

/-- Address of a member's entry in a copy of the membership table (R398). -/
def State.memberAddr (s : State) (site epoch m : Nat) : Nat := s.rd (F.GR_MTAB.at site) + (epoch % 2) * 2 ^ 18 + 512 * m

/-- A member's state in an epoch's table: 0 absent, 1 worker, 2 manager, 3 shadow (R398). -/
def State.memberState (s : State) (site epoch m : Nat) : Nat := leNat (s.peek site (s.memberAddr site epoch m + 258) 1)

/-- A member's shadow, 0xFFFF for none (R398). -/
def State.memberShadow (s : State) (site epoch m : Nat) : Nat := leNat (s.peek site (s.memberAddr site epoch m + 256) 2)

/-- The 16 bytes of GR_IP (R410). -/
def State.grIp (s : State) (site : Nat) : List Byte :=
  natLe (s.rd (F.GR_IP0_IP.at site)) 4 ++ natLe (s.rd (F.GR_IP1_IP.at site)) 4 ++ natLe (s.rd (F.GR_IP2_IP.at site)) 4 ++
    natLe (s.rd (F.GR_IP3_IP.at site)) 4

/-- Header bytes 0 to 27 of a Grove packet (R387). -/
def grHeader (p : GPkt) : List Byte :=
  natLe (1 + (p.type % 16) <<< 4) 1 ++ natLe p.flags 1 ++ natLe (p.member % 512 + (p.die % 16) <<< 9) 2 ++
    natLe (p.toMember % 512 + (p.toDie % 16) <<< 9) 2 ++ natLe p.data.length 2 ++ natLe p.psn 4 ++ natLe p.apsn 4 ++
    (if p.type = 3 then natLe p.arg 8 else natLe p.arg 8) ++ natLe p.ce 2 ++ natLe p.npkt 2

/-- CRC of a Grove packet (R387). -/
def grCrc (p : GPkt) : Nat := crc32 (grHeader p ++ p.data)

/-- A Grove packet with its CRC. -/
def sealGr (p : GPkt) : GPkt := { p with crc := grCrc p }

/-- A connection's record before its first use (R388 to R391). -/
def connReset : ConnSt :=
  { hw := false, fetching := false, npsn := 0, waitq := [], unack := [], apsn := 0, got := 0, npkt := 0, ce := 0, rate := none,
    alpha := (0, 1), cut := 0, failed := false, used := 0 }

/-- A connection's record. -/
def State.conn (s : State) (site c : Nat) : ConnSt := tget connReset s.conns [site, c]
/-- A connection's record replaced. -/
def State.setConn (s : State) (site c : Nat) (r : ConnSt) : State := { s with conns := tset connReset s.conns [site, c] r }

/-- A channel at its start. -/
def xchanReset : XChan := { ents := [], waiting := false, noroom := false, mute := false }
/-- A channel's own state. -/
def State.xchan (s : State) (site ch : Nat) : XChan := tget xchanReset s.xchans [site, ch]
/-- A channel's own state replaced. -/
def State.setXchan (s : State) (site ch : Nat) (r : XChan) : State := { s with xchans := tset xchanReset s.xchans [site, ch] r }

/-- The ports of an I/O die that are UP (R391). -/
def State.upPorts (s : State) (site : Nat) : List Nat := (List.range 8).filter (fun n => decide (s.rd (F.ET_STAT_STATE.at site n) = 2))

/-- Rate of a port in Mb/s (R383). -/
def State.portRate (s : State) (site port : Nat) : Nat := 200000 * (if s.rd (F.ET_INFO_WIDTH.at site port) = 0 then 8 else s.rd (F.ET_INFO_WIDTH.at site port))

/-- The port a connection uses: c modulo the number of UP ports (R391). -/
def State.connPort (s : State) (site c : Nat) : Option Nat :=
  let l := s.upPorts site
  if l = [] then none else l[c % l.length]?

/-- Hardware records in use at an I/O die (R388). -/
def State.connsHeld (s : State) (site : Nat) : List Nat :=
  s.conns.filterMap (fun e => if e.1.headD 0 = site ∧ e.2.hw then some (e.1.getD 1 0) else none)

/-- A record may be written back: no unacknowledged packet and no pending ACK (R388). -/
def mayEvict (k : ConnSt) : Bool := decide (k.unack = [] ∧ k.npkt = 0)

/-- The least recently used record that may be freed is written back to the table, whose 128 bytes have no stated layout (R388, log 35). -/
def State.connEvict (s : State) (site : Nat) : Option State :=
  let l := (s.connsHeld site).filter (fun c => mayEvict (s.conn site c))
  match l with
  | [] => none
  | c :: r =>
    let v := r.foldl (fun b x => if (s.conn site x).used < (s.conn site b).used then x else b) c
    let f := s.freeBytes 128
    let w := f.2.panelWrite { master := 0xFFF, site := site, slot := 0x1F, type := 2, op := 1 } (s.rd (F.GR_CTAB.at site) + 128 * v) f.1
    let s := w.2.setConn site v { w.2.conn site v with hw := false }
    some ((s.bump (F.GR_EVICT_COUNT.at site)).wr (F.GR_CONNS_USED.at site) (s.rd (F.GR_CONNS_USED.at site) - 1))

/-- A connection's record is needed: held at once, or its fetch begins where an entry is free or can be freed (R388). -/
def State.connNeed (s : State) (site c : Nat) : Bool × State :=
  let k := s.conn site c
  if k.hw then (true, s.setConn site c { k with used := s.now site })
  else if k.fetching then (false, s)
  else
    let n := (s.connsHeld site).length + (s.conns.filter (fun e => decide (e.1.headD 0 = site ∧ e.2.fetching))).length
    if n < 4096 then (false, s.setConn site c { k with fetching := true })
    else
      match s.connEvict site with
      | some t => (false, t.setConn site c { k with fetching := true })
      | none => (false, s)

/-- A Grove packet leaves on its connection's port (R386); with no port UP it is lost and recovered by retransmission (R391). -/
def State.grTransmit (s : State) (site c : Nat) (p : GPkt) : State :=
  match s.connPort site c with
  | none => s
  | some port =>
    let e := if s.on (F.GR_CFG_SPRAY.at site) then (p.psn >>> 5) % 16 else 0
    let k := s.conn site c
    let s := s.setConn site c { k with rate := some (k.rate.getD (s.portRate site port, 1)) }
    s.send (.grove site port (0xC000 ||| ((c % 1024) <<< 4) ||| e)
      (s.peek site (s.memberAddr site s.grEpoch p.toMember + 16 * p.toDie) 16) p)

/-- Waiting packets are numbered and sent while the window of 256 has room (R389). -/
def State.connFlush (s : State) (site c : Nat) : State :=
  loopN 256 (fun _ s =>
    let k := s.conn site c
    match k.waitq with
    | [] => s
    | o :: r =>
      if k.failed ∨ 256 ≤ k.unack.length then s
      else
        let q := s.connNeed site c
        if !q.1 then q.2
        else
          let s := q.2
          let k := s.conn site c
          let p := sealGr { o.p with psn := k.npsn }
          let s := s.setConn site c { k with npsn := (k.npsn + 1) % 2 ^ 32, waitq := r, unack := k.unack ++ [{ out := { o with p := p }, sends := 1 }] }
          s.grTransmit site c p) s

/-- A packet queued on its connection (R389). -/
def State.grQueue (s : State) (site : Nat) (o : GOut) : State :=
  let c := 16 * o.p.toMember + o.p.toDie
  let k := s.conn site c
  if k.failed then s
  else (s.setConn site c { k with waitq := k.waitq ++ [o] }).connFlush site c

/-- The packet with the sender's names. -/
def State.grPkt (s : State) (site type member die : Nat) : GPkt :=
  { type := type, member := s.grMember, die := site - 288, toMember := member, toDie := die }

/-- A CTRL message to a member's control die (R399). -/
def State.grCtrl (s : State) (kind member step : Nat) (payload : List Byte) : State :=
  let site := s.ctlIo
  let hdr := natLe kind 1 ++ natLe 0 1 ++ natLe (s.rd (F.GR_GROVE_ID.at site)) 2 ++ natLe step 4
  s.grQueue site { p := { s.grPkt site 5 member (tget 0 s.grove.ctl [member]) with data := hdr ++ payload }, chan := 64, ix := 0 }

/-- The members of the current epoch other than this panel. -/
def State.grOthers (s : State) : List Nat :=
  (List.range 512).filter (fun m => decide (m ≠ s.grMember ∧ s.memberState s.ctlIo s.grEpoch m ≠ 0))

/-- A channel stops with a code (R393, R394): its record, and its WAIT withdrawn. -/
def State.xcStop (s : State) (site ch code sev cause status ix : Nat) (peer die : Nat) : State :=
  let s := (s.wr (F.XC_STAT_STOPPED.at site 0 ch) 1).wr (F.XC_STAT_CODE.at site 0 ch) code
  let s := s.report { code := code, site := site, unit := 0x40 + ch, sev := sev, master := s.rd (F.XC_CFG_CTX.at site 0 ch),
                      info0 := peer + die <<< 9 + cause <<< 13 + status <<< 16, info2 := ix }
  if (s.xchan site ch).waiting then
    s.send (.sync { type := 3, dest := s.rd (F.XC_DB_SITE.at site 0 ch), cell := s.rd (F.XC_DB_CELL.at site 0 ch), value := 0, src := site, slot := 0x1F })
  else s

/-- An entry of a channel fails (R394): it leaves the channel, which stops. -/
def State.xcFail (s : State) (site ch ix code status : Nat) : State :=
  let k := s.xchan site ch
  match k.ents.find? (fun e => e.ix == ix) with
  | none => s
  | some e =>
    let s := s.setXchan site ch { k with ents := k.ents.erase e }
    s.xcStop site ch code 1 0 status ix e.member e.die

/-- A connection fails (R389): its packets are given up, and every transfer with a packet on it fails. -/
def State.connFail (s : State) (site c : Nat) : State :=
  let k := s.conn site c
  let outs := k.unack.map (·.out) ++ k.waitq
  let s := s.setConn site c { k with failed := true, unack := [], waitq := [] }
  let xs := ((outs.filter (fun o => decide (o.chan < 64))).map (fun o => (o.chan, o.ix))).eraseDups
  let s := each xs (fun x s => s.xcFail site x.1 x.2 0xD101 0) s
  if xs = [] then
    s.report { code := 0xD101, site := site, unit := 0xFF, sev := 1, info0 := c / 16 + (c % 16) <<< 9, info1 := (outs.headD { p := s.grPkt site 5 0 0, chan := 64, ix := 0 }).p.psn }
  else s

/-- A packet is sent again, or its connection fails when it has been sent RETRIES + 1 times (R389). -/
def State.grResend (s : State) (site c psn : Nat) : State :=
  let k := s.conn site c
  match k.unack.find? (fun g => g.out.p.psn == psn) with
  | none => s
  | some g =>
    if g.sends > s.rd (F.GR_CC1_RETRIES.at site) then s.connFail site c
    else
      let s := s.setConn site c { k with unack := k.unack.map (fun x => if x = g then { x with sends := x.sends + 1 } else x) }
      (s.bump (F.GR_RETX_COUNT.at site)).grTransmit site c g.out.p

/-- The packets of an entry acknowledged: one less awaited (R394). -/
def State.xcAcked (s : State) (site : Nat) (o : GOut) : State :=
  if o.chan ≥ 64 then s
  else
    let k := s.xchan site o.chan
    s.setXchan site o.chan { k with ents := k.ents.map (fun e => if e.ix = o.ix then { e with left := e.left - 1 } else e) }

/-- Distance of a PSN from another, modulo 2^32. -/
def psnDist (a b : Nat) : Nat := (a + 2 ^ 32 - b) % 2 ^ 32

/-- A greater or equal fraction of two (R391). -/
def fracMax (a b : Nat × Nat) : Nat × Nat := if a.1 * b.2 ≥ b.1 * a.2 then a else b
/-- The smaller of two fractions. -/
def fracMin (a b : Nat × Nat) : Nat × Nat := if a.1 * b.2 ≥ b.1 * a.2 then b else a

/-- RMIN in Mb/s. -/
def State.rmin (s : State) (site : Nat) : Nat × Nat := (1000 * s.rd (F.GR_CC1_RMIN.at site), 1)

/-- The rate state at an ACK with NPKT and CE counts (R391), in exact fractions (DESIGN CHOICE, log 36). -/
def State.ackRate (s : State) (site c npkt ce : Nat) : State :=
  let k := s.conn site c
  if npkt = 0 then s
  else
    let g := s.rd (F.GR_CC1_G.at site)
    let a := k.alpha
    let alpha := (a.1 * (2 ^ g - 1) * npkt + ce * a.2, a.2 * npkt * 2 ^ g)
    let k := { k with alpha := alpha }
    let tinc := 1000 * s.rd (F.GR_CC0_TINC.at site)
    if ce = 0 ∨ (k.cut ≠ 0 ∧ s.now site < k.cut - 1 + tinc) then s.setConn site c k
    else
      let r := k.rate.getD (0, 1)
      let cut := (r.1 * (2 * alpha.2 - alpha.1), r.2 * 2 * alpha.2)
      s.setConn site c { k with rate := some (fracMax (s.rmin site) cut), cut := s.now site + 1 }

/-- GROVE_ACK at the sender (R389, R391): PSNs below APSN and those the SACK names are acknowledged; each PSN missing under 3 recorded ones is sent again. -/
def State.grAcked (s : State) (site c : Nat) (p : GPkt) (sack : Bool) : State :=
  let k := s.conn site c
  let done (g : GSent) : Bool :=
    let d := psnDist g.out.p.psn p.apsn
    decide (2 ^ 31 ≤ d) || (sack && decide (1 ≤ d ∧ d ≤ 64) && p.arg.testBit (d - 1))
  let acked := k.unack.filter done
  let s := s.setConn site c { k with unack := k.unack.filter (fun g => !(done g)) }
  let s := each acked (fun g s => s.xcAcked site g.out) s
  let missing := if sack then ((s.conn site c).unack.filter (fun g =>
      let d := psnDist g.out.p.psn p.apsn
      decide (d < 2 ^ 31) && decide (3 ≤ ((List.range 64).filter (fun n => decide (d < n + 1) && p.arg.testBit n)).length))).map (fun g => g.out.p.psn) else []
  let s := each missing (fun n s => s.grResend site c n) s
  (s.ackRate site c p.npkt p.ce).connFlush site c

/-- GROVE_RTO_EXPIRE: the oldest unacknowledged PSN is sent again and the rate halved, or the connection fails (R389, R391). -/
def State.rtoExpire (s : State) (site c : Nat) : State :=
  let k := s.conn site c
  match k.unack with
  | [] => s
  | g :: _ =>
    let r := k.rate.getD (0, 1)
    let s := s.setConn site c { k with rate := some (fracMax (s.rmin site) (r.1, 2 * r.2)) }
    s.grResend site c g.out.p.psn

/-- CC_TINC_EXPIRE (R391). -/
def State.tincExpire (s : State) (site c : Nat) : State :=
  let k := s.conn site c
  match k.rate, s.connPort site c with
  | some r, some port =>
    s.setConn site c { k with rate := some (fracMin (s.portRate site port, 1) (r.1 + s.rd (F.GR_CC0_RAI.at site) * r.2, r.2)) }
  | _, _ => s

/-- An ACK leaves a receiver (R387, R389): APSN, the SACK above it, the counts since the last. -/
def State.sendAck (s : State) (site c : Nat) : State :=
  let k := s.conn site c
  let s := s.setConn site c { k with npkt := 0, ce := 0 }
  s.grTransmit site c (sealGr { s.grPkt site 3 (c / 16) (c % 16) with apsn := k.apsn, arg := (k.got >>> 1) % 2 ^ 64, ce := k.ce, npkt := k.npkt })

/-- A NACK leaves a receiver (R387, R390). -/
def State.sendNack (s : State) (site c psn status : Nat) : State :=
  s.grTransmit site c (sealGr { s.grPkt site 4 (c / 16) (c % 16) with psn := psn, apsn := (s.conn site c).apsn, arg := status })

/-- A PSN recorded as received: APSN passes every PSN received in a row (R389). -/
def recordPsn (k : ConnSt) (d : Nat) : ConnSt :=
  let got := setBit k.got d
  loopN 256 (fun _ (k : ConnSt) => if k.got % 2 = 1 then { k with got := k.got / 2, apsn := (k.apsn + 1) % 2 ^ 32 } else k) { k with got := got }

/-- One packet counted toward the next ACK, which leaves after 8 (R389). -/
def State.ackCount (s : State) (site c : Nat) (marked : Bool) : State :=
  let k := s.conn site c
  let s := s.setConn site c { k with npkt := k.npkt + 1, ce := k.ce + bnat marked }
  if k.npkt + 1 ≥ 8 then s.sendAck site c else s

/-- GROVE_ACK_TIMER (R389). -/
def State.ackTimer (s : State) (site c : Nat) : State := if (s.conn site c).npkt = 0 then s else s.sendAck site c

/-- GF(2^8) product with polynomial 0x11D (R403). -/
def gfMul (a b : Nat) : Nat :=
  (loopN 8 (fun i (x : Nat × Nat) =>
    (if b.testBit i then x.1 ^^^ x.2 else x.1, if x.2.testBit 7 then (2 * x.2) ^^^ 0x11D else 2 * x.2)) (0, a)).1

/-- Is a byte range inside the shard of a valid group of the ERASURE page (R404, R411). -/
def State.inShard (s : State) (site addr n : Nat) : Bool :=
  (List.range 16).any (fun g =>
    s.on (F.EC_CFG_VALID.at site 0 g) && decide (s.rd (F.EC_BASE.at site 0 g) ≤ addr ∧ addr + n ≤ s.rd (F.EC_BASE.at site 0 g) + s.rd (F.EC_SIZE.at site 0 g)))

/-- A record of a Grove unit without a channel (R408). -/
def State.grRecord (s : State) (site unit code sev : Nat) (member die cause status info1 : Nat) : State :=
  s.report { code := code, site := site, unit := unit, sev := sev, info0 := member + die <<< 9 + cause <<< 13 + status <<< 16, info1 := info1 }

/-- A DATA packet applied at its receiver as bulk requests (R390, R404): the STATUS, 0 when it was performed. -/
def State.grData (s : State) (site : Nat) (p : GPkt) : Nat × State :=
  let ec := p.flags.testBit 0
  let acc := p.flags.testBit 1
  let fmt := bits p.flags 5 2
  let mgr := p.flags.testBit 7
  let addr := p.arg % 2 ^ 48
  let bad (cause : Nat) (s : State) : Nat × State :=
    (0xD103, s.grRecord site 0xFF 0xD103 2 p.member p.die cause 0 p.psn)
  if mgr ∧ p.member ≠ s.grMgr then bad 4 s
  else if (ec ∧ acc) ∨ p.data.length % 64 ≠ 0 ∨ p.data.length < 64 ∨ 4096 < p.data.length ∨ addr % 64 ≠ 0 then bad 2 s
  else if acc ∧ !(fmt = 0 ∨ fmt = 1 ∨ fmt = 2) then bad 5 s
  else
    let q : Asker := { master := if mgr then 1111 else 1091 + (site - 288), site := site, slot := 0x1F, type := if acc then 6 else 2, op := if acc then 2 else 1 }
    if ec then
      if !(s.inShard site addr p.data.length) then (0xD301, s.grRecord site 0xFF 0xD301 2 p.member p.die 0 0 p.psn)
      else
        let r := s.panelRead { q with type := 1, op := 0 } addr p.data.length
        match r.1 with
        | .error e => (e, r.2)
        | .ok old =>
          let new := (old.zip p.data).map (fun e => BitVec.ofNat 8 (e.1.toNat ^^^ gfMul (bits p.arg 55 48) e.2.toNat))
          let w := r.2.panelWrite q addr new
          match w.1 with
          | .error e => (e, w.2)
          | .ok _ => (0, w.2.bump (F.EC_UPDATES_COUNT.at site))
    else if acc then
      let f := (fmtOf fmt).getD .b32
      (sectorPieces addr p.data.length).foldl (fun (a : Nat × State) e =>
        let s := a.2
        let part := (p.data.drop (e.1 - addr)).take e.2
        match s.xlate site e.1 with
        | .error c => (if a.1 = 0 then 0x2202 else a.1, s.badAddr q e.1 c)
        | .ok (k, off) =>
          let w := s.secAccum q k off f (p.flags.testBit 6) part
          (match w.1 with | .error code => if a.1 = 0 then code else a.1 | .ok _ => a.1, w.2)) (0, s)
    else
      let w := s.panelWrite q addr p.data
      match w.1 with
      | .error e => (e, w.2)
      | .ok _ => (0, w.2)

/-- A signal from an I/O die to a sync cell (R394): one SIGNAL message. -/
def State.ioSignal (s : State) (site dsite cell : Nat) : State :=
  s.send (.sync { type := 1, dest := dsite, cell := cell, value := 1, src := site, slot := 0x1F })

/-- The WAIT an enabled channel keeps on its doorbell cell: THRESH 1, consuming (R392). -/
def State.xcWait (s : State) (site ch : Nat) : State :=
  let k := s.xchan site ch
  let s := s.setXchan site ch { k with waiting := true, noroom := false }
  s.send (.sync { type := 2, dest := s.rd (F.XC_DB_SITE.at site 0 ch), cell := s.rd (F.XC_DB_CELL.at site 0 ch), value := 1, src := site, slot := 0x1F, cons := true })

/-- The cause that refuses a transfer entry, or 0 (R393). -/
def State.xcBad (s : State) (site : Nat) (b : List Byte) : Nat :=
  let n (i k : Nat) : Nat := leNat ((b.drop i).take k)
  let op := n 0 1
  let len := n 20 4
  if op = 0 ∨ 4 < op ∨ n 1 1 ≥ 8 ∨ n 2 2 ≥ 2 ^ 13 ∨ n 24 40 ≠ 0 ∨ (op ≠ 2 ∧ n 6 1 ≠ 0) ∨ (op ≠ 3 ∧ n 7 1 ≠ 0) ∨ 64 ≤ n 4 2 then 1
  else if (op = 4 ∧ len ≠ 0) ∨ (op ≠ 4 ∧ (len < 64 ∨ 2 ^ 24 < len ∨ len % 64 ≠ 0)) ∨ n 8 6 % 64 ≠ 0 ∨ n 14 6 % 64 ≠ 0 then 2
  else if s.memberState site s.grEpoch (n 2 2 % 512) = 0 then 3
  else if op = 2 ∧ 2 < n 6 1 then 5
  else 0

/-- A channel's doorbell WAIT is satisfied: the entry at HEAD is read and HEAD advances, and the next WAIT is registered (R392, R393). -/
def State.xcPosted (s : State) (site ch : Nat) : State :=
  let k := s.xchan site ch
  let s := s.setXchan site ch { k with waiting := false }
  if !(s.on (F.XC_CFG_ENABLE.at site 0 ch)) ∨ s.on (F.XC_STAT_STOPPED.at site 0 ch) then s
  else
    let head := s.rd (F.XC_HEAD_HEAD.at site 0 ch)
    let ix := head % 2 ^ s.rd (F.XC_CFG_LOG2SIZE.at site 0 ch)
    let r := s.panelRead { master := s.rd (F.XC_CFG_CTX.at site 0 ch), site := site, slot := 0x1F, type := 1, op := 0 } (s.rd (F.XC_RING.at site 0 ch) + 64 * ix) 64
    let s := r.2.wr (F.XC_HEAD_HEAD.at site 0 ch) (head + 1)
    match r.1 with
    | .error code => s.xcStop site ch code 1 0 0 ix 0 0
    | .ok b =>
      let n (i m : Nat) : Nat := leNat ((b.drop i).take m)
      let bad := s.xcBad site b
      if bad ≠ 0 then s.xcStop site ch 0xD103 2 bad 0 ix (n 2 2 % 512) (bits (n 2 2) 12 9)
      else
        let e : XEnt := { ix := ix, op := n 0 1, flags := n 1 1, member := n 2 2 % 512, die := bits (n 2 2) 12 9, rchan := n 4 2, fmt := n 6 1, coef := n 7 1,
                          laddr := n 8 6, raddr := n 14 6, len := n 20 4, started := false, left := 0, sig := 0 }
        let k := s.xchan site ch
        (s.setXchan site ch { k with ents := k.ents ++ [e] }).xcWait site ch

/-- The packets of an entry: byte offset and length, none crossing 4 KiB at either end (R394). -/
def xferPieces (laddr raddr len : Nat) : Nat → Nat → List (Nat × Nat)
  | 0, _ => []
  | k + 1, off =>
    if off ≥ len then []
    else
      let n := min (len - off) (min (4096 - (laddr + off) % 4096) (4096 - (raddr + off) % 4096))
      (off, n) :: xferPieces laddr raddr len k (off + n)

/-- The members a packet for a member goes to: the member, and its shadow (R405). -/
def State.grTargets (s : State) (site m : Nat) : List Nat :=
  let sh := s.memberShadow site s.grEpoch m
  if sh < 512 ∧ s.memberState site s.grEpoch sh = 3 then [m, sh] else [m]

/-- A packet of an entry sent to its member, and to that member's shadow. -/
def State.xcSend (s : State) (site ch ix : Nat) (p : GPkt) : State :=
  each (s.grTargets site p.toMember) (fun m s =>
    let k := s.xchan site ch
    let s := s.setXchan site ch { k with ents := k.ents.map (fun e => if e.ix = ix then { e with left := e.left + 1 } else e) }
    if (s.conn site (16 * m + p.toDie)).failed then s.xcFail site ch ix 0xD101 0
    else s.grQueue site { p := { p with toMember := m }, chan := ch, ix := ix }) s

/-- The oldest entry of a channel that has not started, when it has this OP, starts (R394): its data is read and its packets are sent; a shadow completes it without sending (R405). -/
def State.xcStart (s : State) (site ch op : Nat) : State :=
  let k := s.xchan site ch
  match k.ents.find? (fun e => !e.started) with
  | none => s
  | some e =>
    if e.op ≠ op ∨ s.on (F.XC_STAT_STOPPED.at site 0 ch) ∨ 8 ≤ (k.ents.filter (fun x => x.started)).length then s
    else
      let s := s.setXchan site ch { k with ents := k.ents.map (fun x => if x = e then { e with started := true } else x) }
      if s.rd (F.GR_STATE_STATE.at s.ctlIo) = 2 then
        let k := s.xchan site ch
        (s.setXchan site ch { k with ents := k.ents.map (fun x => if x.ix = e.ix then { x with sig := 1 } else x) }).bump (F.GR_SHDROP_COUNT.at site)
      else
        let fl := match op with | 1 => 0 | 2 => 2 + e.fmt <<< 2 + bnat (e.flags.testBit 2) <<< 6 | _ => 1
        let q : Asker := { master := s.rd (F.XC_CFG_CTX.at site 0 ch), site := site, slot := 0x1F, type := 1, op := 0 }
        each (xferPieces e.laddr e.raddr e.len (e.len / 64) 0) (fun d s =>
          if ((s.xchan site ch).ents.any (fun x => x.ix == e.ix)) then
            let r := s.panelRead q (e.laddr + d.1) d.2
            match r.1 with
            | .error code => r.2.xcFail site ch e.ix code 0
            | .ok bs => r.2.xcSend site ch e.ix { s.grPkt site 1 e.member e.die with flags := fl, arg := e.raddr + d.1 + (if op = 3 then e.coef <<< 48 else 0), data := bs }
          else s) s

/-- XFER_ENTRY_COMPLETE: the oldest entry whose packets are all acknowledged sends its SIGNAL, or, when that is done and every earlier entry has completed, its completion signal (R394, R395). -/
def State.xcComplete (s : State) (site ch : Nat) : State :=
  let k := s.xchan site ch
  let ready (e : XEnt) : Bool := e.started && decide (e.left = 0) && !(e.flags.testBit 1 && decide (e.sig = 0) && k.mute)
  match k.ents.find? (fun e => ready e && e.flags.testBit 1 && decide (e.sig = 0)) with
  | some e =>
    let s := s.setXchan site ch { k with ents := k.ents.map (fun x => if x = e then { e with sig := 1 } else x) }
    s.xcSend site ch e.ix { s.grPkt site 2 e.member e.die with arg := e.rchan }
  | none =>
    match k.ents with
    | [] => s
    | e :: r =>
      if !e.started ∨ e.left ≠ 0 then s
      else
        let s := s.setXchan site ch { k with ents := r }
        if e.flags.testBit 0 ∧ !k.mute then s.ioSignal site (s.rd (F.XC_CP_SITE.at site 0 ch)) (s.rd (F.XC_CP_CELL.at site 0 ch)) else s

/-- XC_ENABLE_WRITE (R392, R394): 0 to 1 starts the channel with HEAD unchanged, 0 withdraws its WAIT. -/
def State.xcEnable (s : State) (site ch : Nat) (v : Bool) : State :=
  let was := s.on (F.XC_CFG_ENABLE.at site 0 ch)
  let s := s.wr (F.XC_CFG_ENABLE.at site 0 ch) (bnat v)
  let k := s.xchan site ch
  if v ∧ !was then
    let s := (s.wr (F.XC_STAT_STOPPED.at site 0 ch) 0).wr (F.XC_STAT_CODE.at site 0 ch) 0
    (s.setXchan site ch { k with mute := false }).xcWait site ch
  else if !v ∧ was ∧ k.waiting then
    s.send (.sync { type := 3, dest := s.rd (F.XC_DB_SITE.at site 0 ch), cell := s.rd (F.XC_DB_CELL.at site 0 ch), value := 0, src := site, slot := 0x1F })
  else s

/-- The channel of an I/O die whose WAIT an answer from a cell is for. -/
def State.xcOf (s : State) (site : Nat) (m : SyncMsg) : Option Nat :=
  (List.range 64).find? (fun ch =>
    (s.xchan site ch).waiting && decide (s.rd (F.XC_DB_SITE.at site 0 ch) = m.src ∧ s.rd (F.XC_DB_CELL.at site 0 ch) = m.cell))

/-- A WAKE reaches an I/O die (R282, R287, R392): SATISFIED posts an entry, CANCELLED ends the WAIT, NOROOM is sent again later, REFUSED stops the channel with 0x4103 (DEDUCED, log 37). -/
def State.ioWake (s : State) (site : Nat) (m : SyncMsg) : State :=
  if m.value = 3 ∨ m.value = 4 then s
  else
    match s.xcOf site m with
    | none => s
    | some ch =>
      let k := s.xchan site ch
      if m.value = 0 then s.xcPosted site ch
      else if m.value = 1 then s.setXchan site ch { k with waiting := false }
      else if m.value = 2 then s.setXchan site ch { k with noroom := true }
      else if m.value = 5 then (s.setXchan site ch { k with waiting := false }).xcStop site ch 0x4103 2 0 0 (s.rd (F.XC_HEAD_HEAD.at site 0 ch)) 0 0
      else s

/-- A BROKEN reaches an I/O die: the channel disables, and its entries in progress end without their signals (R395). -/
def State.ioBroken (s : State) (site : Nat) (m : SyncMsg) : State :=
  match s.xcOf site m with
  | none => s
  | some ch =>
    let k := s.xchan site ch
    (s.wr (F.XC_CFG_ENABLE.at site 0 ch) 0).setXchan site ch { k with waiting := false, mute := true }

/-- WAIT_RESEND at an I/O die (R287). -/
def State.ioResend (s : State) (site : Nat) : State :=
  each ((List.range 64).filter (fun ch => (s.xchan site ch).noroom)) (fun ch s => s.xcWait site ch) s

end Sys2Proof.Machine
end

