-- ==== Sys2Proof/Machine/Replay.lean ====
section
/-! DEFINITION. Error records accepted by the steward, step releases, replay, lost data and health (R140, R333, R491 to R506, R515, R516). -/

namespace Sys2Proof.Machine

/-- A partition's replay at its start. -/
def rpInit : RpSt := { stage := 0, acts := [], need := [], input := false }
/-- A partition's replay. -/
def State.rpOf (s : State) (p : Nat) : RpSt := tget rpInit s.rp [p]
/-- A partition's replay changed. -/
def State.onRp (s : State) (p : Nat) (f : RpSt → RpSt) : State := { s with rp := tset rpInit s.rp [p] (f (s.rpOf p)) }
/-- RP_STAT.STATE: 0 RUN, 1 STOPPING, 2 HELD, 3 RESTARTING, 4 FAILED. -/
def State.rpState (s : State) (p : Nat) : Nat := s.rd (F.RP_STAT_STATE.at stw 0 p)
/-- Is a replay of the partition in progress (R493). -/
def State.replaying (s : State) (p : Nat) : Bool := decide (1 ≤ s.rpState p ∧ s.rpState p ≤ 3)

/-- Is a partition bound to the grove (R400, R500). -/
def State.groveBound (s : State) (p : Nat) : Bool := s.on (F.GR_GROVE_BOUND.at s.ctlIo 0) && decide (s.rd (F.GR_GROVE_PART.at s.ctlIo 0) = p)

/-- The cores of a partition's ACTIVE contexts that are on powered dies, with context and virtual core. -/
def State.activeCores (s : State) (p : Nat) : List (Nat × Nat × CoreId) :=
  (s.ctxsIn p [2]).flatMap (fun x => ((s.cx x).cores.mapIdx (fun v c => (x, v, c))).filter (fun e => !(s.dark e.2.2.site)))

/-- The step that a replay restarts from: STEP of the first running core's restart record (R517 RP_STEP). -/
def State.stepOf (s : State) (p : Nat) : Nat :=
  match (s.activeCores p).find? (fun e => (s.dispatchOf e.1 e.2.1).isSome) with
  | some e => (s.core e.2.2).stepRec.step
  | none => 0xFFFFFFFF

/-- The record 0xB301 or 0xB302 of a partition (R542); where the partition has several ACTIVE contexts 0xB301 names the first (DESIGN CHOICE, log 43). -/
def State.replayRec (s : State) (p code sev ctx : Nat) : State :=
  s.report { code := code, site := s.steward, unit := 0xFF, sev := sev, master := ctx,
             info0 := p + (s.rd (F.RP_STAT_COUNT.at stw 0 p)) <<< 6, info1 := s.stepOf p }

/-- A replay is over: holds clear, fences as the lists name them. -/
def State.endReplay (s : State) (p : Nat) : State :=
  let s := each [F.RP_STAT_STATE, F.RP_STAT_HOLD_RES, F.RP_STAT_HOLD_INPUT, F.RP_STAT_HOLD_GRAFT, F.RP_STAT_HOLD_GROVE, F.RP_LOST_COUNT] (fun f s => s.wr (f.at stw 0 p) 0) s
  let s : State := { s.onRp p (fun _ => rpInit) with lifted := s.lifted.filter (fun x => decide (x ≠ p)),
                                                     drains := s.drains.filter (fun d => decide (d.kind ≠ .replay p)) }
  s.refence (s.flist p)

/-- A replay starts, unless one is in progress or the step has been replayed LIMIT times (R497 step 1, R493, R499). -/
def State.startReplay (s : State) (p : Nat) : State :=
  if s.replaying p ∨ !(s.ptValid p) then s
  else
    let ctxs := s.ctxsIn p [2]
    let s : State := { s with arrived := tset [] s.arrived [p] [] }
    if s.rpState p ≠ 4 ∧ s.rd (F.RP_STAT_COUNT.at stw 0 p) ≥ s.rd (F.RP_CFG_LIMIT.at stw) then
      let s := each ctxs (fun x s => (s.replayRec p 0xB302 3 x).ctxReset x false) s
      ((s.wr (F.RP_STAT_COUNT.at stw 0 p) 0).onRp p (fun _ => rpInit)).wr (F.RP_STAT_STATE.at stw 0 p) 4
    else
      let s := ((s.wr (F.RP_STAT_STATE.at stw 0 p) 1).bump (F.RP_TOTAL_COUNT.at stw 0 p)).onRp p (fun k => { k with stage := 1 })
      let s := s.replayRec p 0xB301 0 (ctxs.headD 0xFFF)
      s.startDrain (.replay p) ((s.activeCores p).map (fun e => e.2.2))

/-- The units that carry a score (R504), found by the scores that are not zero. -/
def State.scored (s : State) : List HUnit :=
  s.fld.filterMap (fun e =>
    match e.1 with
    | [n, page, b, i] =>
      if b = F.PG_HEALTH_SCORE.bit ∧ i = 0 ∧ page = 0 then some (.site n)
      else if b = F.PG_HEALTH_SCORE.bit ∧ i = 0 ∧ isDie n ∧ 0x40 ≤ page ∧ page % 4 = 0 then some (.core ⟨n, (page - 0x40) / 4⟩)
      else if b = F.ML_BSTAT_SCORE.bit ∧ 0x10 ≤ page ∧ page < 0x20 then some (.bundle n page i)
      else none
    | _ => none)

/-- HEALTH_DECAY (R504). -/
def State.healthDecay (s : State) : State := each s.scored (fun u s => s.decay u) s

/-- The partition that a unit serves. -/
def State.unitPart (s : State) (u : HUnit) : Option Nat := s.partOfSite u.at

/-- What is done with a unit in RETIRE (R506): a bundle is excluded at once, else the action of R492. -/
def retireAct : HUnit → Option (Nat × Nat × Nat)
  | .core c => some (0, c.site, c.slot)
  | .site n => if isDie n then some (1, n, 0) else if isStack n then some (2, n, 0) else none
  | .bundle _ _ _ => none

/-- One unit action taken (R492, R507, R509); the graft that it leads to, if any. -/
def State.unitAct (s : State) (a : Nat × Nat × Nat) (plots : List Nat) : Option (Nat × Nat) × State :=
  let p := plotOf a.2.1
  if a.1 = 0 then
    let r := s.spareGraft ⟨a.2.1, a.2.2⟩ 0
    if r.1 then (none, r.2) else (some (0, p), r.2.graftAsk 0 p)
  else if a.1 = 1 then (some (0, p), s.graftAsk 0 p)
  else if plots.contains p then (some (0, p), s)
  else (some (1, p), s.graftAsk 1 p)

/-- Unit actions taken one after another; a plot graft covers the plot's stack. -/
def State.unitActs (s : State) (l : List (Nat × Nat × Nat)) : List (Nat × Nat) × State :=
  let plots := (l.filter (fun a => decide (a.1 = 1))).map (fun a => plotOf a.2.1)
  l.foldl (fun (r : List (Nat × Nat) × State) a =>
    let q := r.2.unitAct a plots
    (match q.1 with | some g => if r.1.contains g then r.1 else r.1 ++ [g] | none => r.1, q.2)) ([], s)

/-- An action on a unit, at once where it serves no partition, else kept for the replay (R491, R492, R506). -/
def State.planAct (s : State) (part : Option Nat) (a : Nat × Nat × Nat) : State :=
  match part with
  | some p => s.onRp p (fun k => if k.acts.contains a then k else { k with acts := k.acts ++ [a] })
  | none => (s.unitActs [a]).2

/-- Is a unit in RETIRE. -/
def State.retired (s : State) (u : HUnit) : Bool := decide (s.rd u.state = 2)

/-- The health charge of a record (R505). -/
def State.chargeRec (s : State) (r : Rec) : State :=
  let core : HUnit := .core ⟨r.site, r.unit⟩
  let site : HUnit := .site r.site
  if r.code = 0x1102 ∨ r.code = 0x1202 then s.charge core 64 r.code
  else if r.code = 0x2104 then s.charge (if bits r.info0 29 26 = 1 then site else core) 64 r.code
  else if r.code = 0x2101 ∨ r.code = 0x2106 then s.charge core 512 r.code
  else if r.code = 0x2102 then s.charge site 512 r.code
  else if r.code = 0x1101 ∨ r.code = 0x1201 then s.charge core 4096 r.code
  else if r.code = 0x2105 ∨ r.code = 0x2107 then s.charge core 8192 r.code
  else if r.code = 0x2203 then s.charge site 16 r.code
  else if r.code = 0x2201 ∧ 1 ≤ r.info1 % 16 ∧ r.info1 % 16 ≤ 3 then s.charge site 512 r.code
  else if r.code = 0x2204 then (if s.husked site then s else s.setScore site 0xFFFF r.code)
  else if r.code = 0x3102 then s.charge site 4 r.code
  else if r.code = 0x7101 ∧ r.site < 288 then
    each (match groupUser r.site r.unit with | some n => [n] | none => [4 * plotOf r.site, 4 * plotOf r.site + 1]) (fun n s => s.charge (.site n) 2048 r.code) s
  else s

/-- The sites that a unit-fault record makes dark or fenced (R492). -/
def State.darkened (s : State) (r : Rec) : List Nat :=
  let l := if r.code = 0x7102 ∨ r.code = 0x7201 then groupSites r.site r.unit
    else if r.code = 0x7202 then [4 * plotOf r.site, 4 * plotOf r.site + 1, 4 * plotOf r.site + 2, 4 * plotOf r.site + 3]
    else if r.code = 0x8104 ∨ r.code = 0x9105 ∨ r.code = 0x3402 ∨ r.code = 0x9202 then [r.site]
    else []
  l.filter (fun n => !(decide (partOf n = .steward)) && (s.dark n || s.on (F.PG_STAT_FENCED.at n 2)))

/-- The partitions that a record concerns (R491). -/
def State.concerns (s : State) (r : Rec) : List Nat :=
  let a := if r.master < 1024 ∧ s.cxState r.master ≠ 0 ∧ s.ptValid (s.cxPart r.master) then [s.cxPart r.master] else []
  let b := match s.partOfSite r.site with | some p => [p] | none => []
  (a ++ b).eraseDups

/-- Does a lost sector lie in a window that a partition's fence list names (R502). -/
def State.lostInput (s : State) (p : Nat) (r : Rec) : Bool :=
  s.on (F.PT_CFG_ARMED.at stw 0 p) && (s.flist p).any (fun b => decide (b.1 = r.site ∧ b.2.1 = 1) && s.winHolds r.site b.2.2 (64 * (r.info0 % 2 ^ 31)) 64)

/-- A lost sector that a partition's replay has to wait for (R502). -/
def State.noteLost (s : State) (p : Nat) (r : Rec) : State :=
  if r.code = 0x2201 ∧ s.lostInput p r then (s.bump (F.RP_LOST_COUNT.at stw 0 p)).onRp p (fun k => { k with input := true })
  else if r.code = 0x2204 then s.onRp p (fun k => { k with input := true })
  else s

/-- The unit actions that a record calls for (R492, R506, R513): dark and fenced sites are husked at once, grafts are taken in the replay. -/
def State.recActs (s : State) (r : Rec) : State :=
  let part := (s.concerns r).head?
  let sitePart (n : Nat) : Option Nat := s.partOfSite n
  if r.code = 0x1101 ∨ r.code = 0x1201 ∨ r.code = 0x2105 ∨ r.code = 0x2107 then
    (if s.retired (.core ⟨r.site, r.unit⟩) then s.planAct (sitePart r.site) (0, r.site, r.unit) else s)
  else if r.code = 0x7203 then s.planAct (sitePart r.site) (0, r.site, r.unit)
  else if r.code = 0x2204 then s.planAct (sitePart r.site) (2, r.site, 0)
  else if r.code = 0x6103 then s.epStart 10 0 0
  else if r.code = 0xB305 ∧ r.info0 % 4 = 2 then
    -- R506: a unit that serves no partition is acted on at once.
    let u : HUnit := if r.unit < 18 ∧ isDie r.site then .core ⟨r.site, r.unit⟩ else .site r.site
    (if (sitePart r.site).isSome then s else match retireAct u with | some a => if s.retired u then s.planAct none a else s | none => s)
  else if r.sev = 1 ∧ part.isSome then
    each ((HUnit.core ⟨r.site, r.unit⟩ :: [HUnit.site r.site]).filter (fun u => s.retired u)) (fun u s =>
      match retireAct u with | some a => s.planAct (sitePart r.site) a | none => s) s
  else
    let l := s.darkened r
    let s := each l (fun n s => s.husk n r.code) s
    each (l.filter (fun n => isDie n || isStack n)) (fun n s => s.planAct (sitePart n) (if isDie n then 1 else 2, n, 0)) s

/-- The codes of R492. -/
def unitFault (code : Nat) : Bool :=
  [0x1101, 0x1201, 0x2105, 0x2107, 0x7203, 0x2204, 0x7102, 0x7201, 0x7202, 0x8104, 0x9105, 0x3402, 0x9202].contains code

/-- A record of a class goes to every enabled event queue of that class (R351). -/
def State.deliver (s : State) (r : Rec) : State :=
  each [0, 1] (fun port s => loopN 512 (fun e s =>
    if decide (r.code ≠ 0xC105) && s.on (F.EQ_CFG_ENABLE.at (304 + port) 0 e) && (s.rd (F.EQ_CLASS_MASK.at (304 + port) 0 e)).testBit (r.code / 4096) then s.eqPut port e 1 (recBytes r) else s) s) s

/-- A line for the UART, unless 64 wait (R486). -/
def State.uartQueue (s : State) (r : Rec) : State :=
  if s.uart.length < 64 then { s with uart := s.uart ++ [recBytes { r with lost := r.lost || s.uartLost }], uartLost := false } else { s with uartLost := true }

/-- UART_LINE_SENT (R486): E, a space, the record's bytes in upper-case hexadecimal, CR and LF. -/
def State.uartSent (s : State) : State :=
  match s.uart with
  | [] => s
  | b :: rest =>
    let hex (n : Nat) : Byte := BitVec.ofNat 8 (if n < 10 then 48 + n else 55 + n)
    let line := [0x45#8, 0x20#8] ++ b.flatMap (fun x => [hex (x.toNat / 16), hex (x.toNat % 16)]) ++ [0x0D#8, 0x0A#8]
    { s with uart := rest }.send (.uartLine line)

/-- A record appended to the log, the oldest overwritten when it is full (R515). -/
def State.logRec (s : State) (r : Rec) : State :=
  if s.elog.length < 4096 then { s with elog := s.elog ++ [r] } else { s.bump (F.EL_OVERWRITTEN_COUNT.at stw) with elog := s.elog.drop 1 ++ [r] }

/-- Nanoseconds that the steward takes to accept a record, at the rate of R515 (DESIGN CHOICE, log 63: exactly 4,000,000 a second). -/
def intakeNs : Nat := 250

/-- A record arrives at the intake queue of 256 records (R515): when it will have been accepted; none where the queue is full. -/
def State.intake (s : State) : Option Nat :=
  let from_ := max (s.now s.steward) s.intakeUntil
  if from_ < s.now s.steward + 256 * intakeNs then some (from_ + intakeNs) else none

/-- ERREC (R491, R515): the record is accepted with its SEQ, logged, delivered, charged, and acted on by its severity; with the intake queue full it is discarded, and the next one accepted carries LOST (R12). -/
def State.errec (s : State) (r : Rec) : State :=
  let s := s.takeCtl (.errec r) r.site s.steward
  match s.intake with
  | none => { s.bump (F.EL_DROPPED_COUNT.at stw) with intakeLost := true }
  | some t =>
  let seq := s.rd (F.EL_NEXT_SEQ.at stw)
  let r := { r with seq := seq, lost := s.intakeLost }
  let s : State := { s with intakeUntil := t, intakeLost := false }
  let s := ((s.wr (F.EL_NEXT_SEQ.at stw) (seq + 1)).logRec r).deliver r |>.uartQueue r
  let s := if 2 ≤ r.sev then s.jError (recBytes r) else s
  let s : State := { s with fatal := s.fatal || decide (r.sev = 3) }
  let s := s.chargeRec r
  let parts := s.concerns r
  let start := decide (r.sev = 1) || (decide (r.sev = 2) && unitFault r.code)
  let s := s.recActs r
  if start then each parts (fun p s => (s.noteLost p r).startReplay p) s else s

/-- Is data of a partition marked lost (R501 HOLD_RES). -/
def State.resLost (s : State) (p : Nat) : Bool :=
  (s.ptDies p).any (fun d => (List.range 48).any (fun g => s.on (F.DIEMEM_REGION_RES_LOST.at d 0 g)) || (List.range 18).any (fun i => s.on (F.CB_STAT_RES_LOST.core ⟨d, i⟩)))

/-- Does a replay wait for a graft: a plot or stack graft it needs, or a spare core without power (R501 HOLD_GRAFT). -/
def State.graftWait (s : State) (p : Nat) : Bool :=
  (s.rpOf p).need.any (fun g => s.gf.todo.contains g || (s.grafting && decide (s.gfP = g.2 ∧ bnat s.gfStack = g.1))) ||
    s.regrow.any (fun c => decide (s.coreState c = 0 ∧ s.partOfSite c.site = some p))

/-- The holds of a replay that has taken its unit actions, and what follows from them (R497 step 5, R501). -/
def State.holdsNow (s : State) (p : Nat) : State :=
  if (s.rpOf p).stage ≠ 3 then s
  else
    let s := if s.resLost p then s.wr (F.RP_STAT_HOLD_RES.at stw 0 p) 1 else s
    let s := if (s.rpOf p).input then (s.wr (F.RP_STAT_HOLD_INPUT.at stw 0 p) 1).onRp p (fun k => { k with input := false }) else s
    let s := s.wr (F.RP_STAT_HOLD_GRAFT.at stw 0 p) (bnat (s.graftWait p))
    let host := s.on (F.RP_STAT_HOLD_RES.at stw 0 p) || s.on (F.RP_STAT_HOLD_INPUT.at stw 0 p)
    let lifted := (s.lifted.filter (fun x => decide (x ≠ p))) ++ (if host then [p] else [])
    let s := if lifted = s.lifted then s else ({ s with lifted := lifted } : State).refence (s.flist p)
    if host ∨ s.on (F.RP_STAT_HOLD_GRAFT.at stw 0 p) then s.wr (F.RP_STAT_STATE.at stw 0 p) 2 else s

/-- Every replay's holds looked at again, after a graft or a core has moved on. -/
def State.holdsAll (s : State) : State := each ((s.rp.filter (fun e => decide (e.2.stage = 3))).map (fun e => e.1.headD 0)) (fun p s => s.holdsNow p) s

/-- Steps 4 and 5 of a replay (R497): RESTORE on the partition's dies, then the unit actions. -/
def State.replayUnits (s : State) (p : Nat) : State :=
  let s := each (s.ptDies p) (fun d s => s.restoreDie d) s
  let acts := (s.rpOf p).acts
  let s := s.onRp p (fun k => { k with stage := 3, acts := [] })
  let r := s.unitActs acts
  (((r.2.onRp p (fun k => { k with need := r.1 })).holdsNow p).graftGo).holdsAll

/-- A drained scope's late requests, counted and reported (R535 step 4, R542): the reset's scope code and partition. -/
def State.drainLate (s : State) (d : Drain) (scope part n : Nat) : State :=
  if n = 0 then s
  else
    let t := (s.time - d.start) % 2 ^ 32
    (s.bump (F.BR_LATE_COUNT.at s.steward)).report
      { code := 0xB402, site := s.steward, unit := 0xFF, sev := 0, info0 := scope + part <<< 3, info1 := n, info2 := t }

/-- Cores at the end of their drain: requests abandoned and fence tags advanced; how many were abandoned (R535 step 4, R536). -/
def State.drainCores (s : State) (l : List CoreId) : Nat × State :=
  l.foldl (fun (a : Nat × State) c => let r := (a.2.stopNow c).drainCore c; (a.1 + r.1, r.2)) (0, s)

/-- REPLAY_DRAIN_END (R497 steps 3 to 5, R500): cores HALTED; in a partition bound to a grove the rest waits for ABORT, of which a worker tells the manager at once. -/
def State.replayDrainEnd (s : State) (p : Nat) : State :=
  match s.drains.find? (fun d => decide (d.kind = .replay p)) with
  | none => s
  | some d =>
    let s : State := { s with drains := s.drains.erase d }
    let r := s.drainCores d.cores
    let s := r.2.drainLate d 2 p r.1
    let s := each d.cores (fun c s => if s.coreState c = 0 ∨ !(s.bound c) then s else (s.wr (F.CORE_CTL_HALT.core c) 1).setCoreState c 5) s
    if s.groveBound p && (s.rpOf p).stage == 1 then
      let s := ((s.wr (F.RP_STAT_STATE.at stw 0 p) 2).wr (F.RP_STAT_HOLD_GROVE.at stw 0 p) 1).onRp p (fun k => { k with stage := 2 })
      let io := s.ctlIo
      let mgr := s.rd (F.GR_ROLE_MGR.at io 0)
      if s.grRole = 2 then s else s.grCtrl 4 mgr (setBit (s.stepOf p) 31) (natLe (s.rd (F.GR_EPOCH_EPOCH.at io 0)) 4 ++ natLe (io - 288) 2)
    else s.replayUnits p

/-- A core takes up its step again (R497 step 6): from its restart record, or a grafted core from the restart copy; without a dispatch it is IDLE. -/
def State.restartCore (s : State) (e : Nat × Nat × CoreId) : State :=
  let c := e.2.2
  if s.coreState c = 0 then s
  else
    let s := (s.wr (F.CORE_CTL_HALT.core c) 0).onCore c (fun k => { k with stopReq := .none })
    match s.dispatchOf e.1 e.2.1 with
    | none => s.setCoreState c 1
    | some (q, en) =>
      let s := s.onCore c (fun k => { k with queue := q, ring := en.ix % 65536 })
      if s.regrow.contains c then
        let s : State := { s with regrow := s.regrow.erase c }
        let r := s.stwRead (tget 0 s.raEff [e.1] <<< 8 + 256 * e.2.1) 256
        match r.1 with
        | .error _ => r.2.ctxReset e.1 false
        | .ok b =>
          let rec_ := (seqOf b).1
          let s := if rec_.step = 0xFFFFFFFF then r.2 else r.2.wr (F.SQ_STEP_NUM_STEP.core c) rec_.step
          ((s.holdStep c rec_).loadSeq c rec_ 0).setCoreState c 2
      else (s.loadSeq c (s.core c).stepRec 0).setCoreState c 2

/-- REPLAY_RESTART (R497 steps 6 and 7): once no hold stands. -/
def State.replayRestart (s : State) (p : Nat) : State :=
  let s := s.holdsNow p
  let held := [F.RP_STAT_HOLD_RES, F.RP_STAT_HOLD_INPUT, F.RP_STAT_HOLD_GRAFT, F.RP_STAT_HOLD_GROVE].any (fun f => s.on (f.at stw 0 p))
  if (s.rpOf p).stage ≠ 3 ∨ held then s
  else
    let step := s.stepOf p
    let count := s.rd (F.RP_STAT_COUNT.at stw 0 p)
    let s := s.endReplay p
    let s := if s.on (F.PT_CFG_ARMED.at stw 0 p) then (s.applyFences p).2 else s
    let s := each (s.activeCores p) (fun e s => s.restartCore e) s
    let s := (s.wr (F.RP_STAT_COUNT.at stw 0 p) (min 15 (count + 1))).wr (F.RP_STEP_STEP.at stw 0 p) step
    (each (s.ctxsIn p [2]) (fun x s => s.preemptRetry x) s).kick

/-- RP_CMD.RESULT of the selected partition. -/
def State.rpResult (s : State) (code : Nat) : State := s.wr (F.RP_CMD_RESULT.at stw 0 (s.rd (F.RP_SEL_PART.at stw))) code

/-- RP_RESUME (R501): accepted while HELD with no RES_LOST bit left. -/
def State.rpResume (s : State) : State :=
  let p := s.rd (F.RP_SEL_PART.at stw)
  if s.rpState p ≠ 2 ∨ s.resLost p then s.rpResult 0x5405
  else
    let s := ((s.wr (F.RP_STAT_HOLD_RES.at stw 0 p) 0).wr (F.RP_STAT_HOLD_INPUT.at stw 0 p) 0).wr (F.RP_LOST_COUNT.at stw 0 p) 0
    (s.holdsNow p).rpResult 0

/-- RP_ABANDON (R501). -/
def State.rpAbandon (s : State) : State :=
  let p := s.rd (F.RP_SEL_PART.at stw)
  if !(s.replaying p) then s.rpResult 0x5405
  else
    let l := s.ctxsIn p [2]
    let s := (s.endReplay p).wr (F.RP_STAT_COUNT.at stw 0 p) 0
    (each l (fun x s => s.ctxReset x false) s).rpResult 0

/-- LR_CMD.RESULT. -/
def State.lrResult (s : State) (code : Nat) : State := (s.wr (F.LR_CMD_RESULT.at stw) code).wr (F.LR_CMD_GO.at stw) 0

/-- Bytes that the resident-repair copy moves, its target core, the target offset. -/
def State.lrArgs (s : State) : Nat × CoreId × Nat :=
  (s.rd (F.LR_LEN_LEN.at stw), ⟨s.rd (F.LR_DST_SITE.at stw), s.rd (F.LR_DST_SLOT.at stw)⟩, 64 * s.rd (F.LR_OFF_OFF.at stw))

/-- LR_GO (R503). -/
def State.lrGo (s : State) : State :=
  let (n, c, off) := s.lrArgs
  let sp := s.rd (F.LR_DST_SPACE.at stw)
  let src := s.rd (F.LR_SRC.at stw) <<< 6
  if s.on (F.LR_CMD_GO.at stw) then s
  else
    let fits := decide (0 < n ∧ n % 64 = 0 ∧ ((sp = 1 ∧ off + n ≤ 0x400000) ∨ (sp = 2 ∧ off + n ≤ 0x3000000)))
    let held := match s.partOfSite c.site with | some p => decide (s.rpState p = 2) | none => false
    if !fits ∨ !(isDie c.site) ∨ 18 ≤ c.slot ∨ !held ∨ s.coreState c ≠ 5 then s.lrResult 0x5405
    else
      match (sectorPieces src n).find? (fun e => match s.xlate c.site e.1 with | .error _ => true | .ok _ => false) with
      | some _ => s.lrResult 0x2202
      | none => (s.wr (F.LR_CMD_RESULT.at stw) 0).wr (F.LR_CMD_GO.at stw) 1

/-- LR_COPY_DONE (R503): DMA channel 0 of the core has copied the range on the steward's behalf. -/
def State.lrDone (s : State) : State :=
  if !(s.on (F.LR_CMD_GO.at stw)) then s
  else
    let (n, c, off) := s.lrArgs
    let r := s.panelRead (s.saveAsker c 1) (s.rd (F.LR_SRC.at stw) <<< 6) n
    match r.1 with
    | .error code => r.2.lrResult code
    | .ok b => (if s.rd (F.LR_DST_SPACE.at stw) = 1 then r.2.corePut c off b else r.2.diePut c.site off b).lrResult 0

/-- The cores of a partition that have a step to end: every core with a dispatch in progress of an ACTIVE context (R140; DEDUCED, log 43). -/
def State.stepping (s : State) (p : Nat) : List (Nat × Nat × CoreId) := (s.activeCores p).filter (fun e => (s.dispatchOf e.1 e.2.1).isSome)

/-- Has every core of the partition arrived (R140 step 4). -/
def State.allArrived (s : State) (p : Nat) : Bool :=
  let l := tget [] s.arrived [p]
  !(s.stepping p).isEmpty && (s.stepping p).all (fun e => l.any (fun a => decide (a.1 = e.1 ∧ a.2.1 = e.2.1)))

/-- STEP_ARRIVAL (R140 step 3): counted while the context is ACTIVE and no replay runs. -/
def State.stepArrival (s : State) (m : CtlMsg) : State :=
  if m.type ≠ 8 ∨ m.dest ≠ s.steward ∨ (m.words.headD 0) % 2 = 1 then s
  else
    let s := s.takeCtl (.ctl m) m.src m.dest
    let ctx := noticeCtx m
    let v := noticeVcore m
    let p := s.cxPart ctx
    if s.cxState ctx ≠ 2 ∨ s.replaying p then s
    else
      let l := (tget [] s.arrived [p]).filter (fun a => decide (¬ (a.1 = ctx ∧ a.2.1 = v)))
      { s with arrived := tset [] s.arrived [p] (l ++ [(ctx, v, m.words.getD 1 0)]) }

/-- Units of a partition in RETIRE are acted on at a step release (R506): bundles excluded, grafts begun; the spare of a core takes up its restart copy when it has power. -/
def State.retireAll (s : State) (p : Nat) : State :=
  let l := s.scored.filter (fun u => s.retired u && decide (s.unitPart u = some p))
  let s := each l (fun u s => match u with
    | .bundle n page b => if s.bundleState n (page - 0x10) b = 3 then s else s.excludeBundle n (page - 0x10) b
    | _ => s) s
  (s.unitActs (l.filterMap retireAct)).2

/-- Placement rotated within each die of a partition: the offset adds one, and every ACTIVE context is remapped (R468). -/
def State.rotate (s : State) (p : Nat) : State :=
  let s := each (s.ptDies p) (fun d s =>
    let n := (s.slotsOf d).length
    { s with rot := tset 0 s.rot [d] (if n = 0 then 0 else (tget 0 s.rot [d] + 1) % n) }) s
  each (s.ctxsIn p [2]) (fun x s => (s.onCx x (fun k => { k with remap := true })).preempt x true) s

/-- Is a rotation due at a release, and the count of releases since the last (R468). -/
def State.rotateStep (s : State) (p : Nat) : State :=
  let every := s.rd (F.TP_CFG_ROT_STEPS.at stw)
  if !(s.on (F.TP_CFG_ROT_EN.at stw)) ∨ every = 0 then s
  else
    let n := tget 0 s.rot [1000 + p] + 1
    if n < every then { s with rot := tset 0 s.rot [1000 + p] n } else ({ s with rot := tset 0 s.rot [1000 + p] 0 } : State).rotate p

/-- SNAPSHOT on every die of a partition (R293, R333 step 2). -/
def State.snapshotPart (s : State) (p : Nat) : State := each (s.ptDies p) (fun d s => s.snapshotDie d) s

/-- The release of a step, after SNAPSHOT (R333 steps 3 and 4, R140 step 4): retirements, fences renewed, rotation, and a release to every core that arrived. -/
def State.stepRelease (s : State) (p : Nat) : State :=
  let l := s.stepping p
  let step := ((tget [] s.arrived [p]).getLastD (0, 0, 0)).2.2
  let s := s.retireAll p
  let s := if s.on (F.PT_CFG_ARMED.at stw 0 p) then (s.applyFences p).2 else s
  let s := ((s.wr (F.PT_STEP_STEP.at stw 0 p) step).wr (F.RP_STAT_COUNT.at stw 0 p) 0).rotateStep p
  let s := s.graftBoundary p
  let s := each l (fun e s => s.send (.ctl (stepMsg true e.1 e.2.1 e.2.2.site s.steward e.2.2.slot step))) s
  ({ s with arrived := tset [] s.arrived [p] [] } : State)

/-- STEP_RELEASE (R333): a partition that steps with the grove waits for RELEASE (R400). -/
def State.stepReleaseCmd (s : State) (p : Nat) : State :=
  if s.allArrived p ∧ !(s.replaying p) ∧ !(s.groveBound p) then (s.snapshotPart p).stepRelease p else s

/-- STEP_RELEASE_RECEIVE (R140 step 5): STEP_END completes. -/
def State.stepReleased (s : State) (m : CtlMsg) : State :=
  let c : CoreId := ⟨m.dest, m.tag⟩
  if m.type ≠ 8 ∨ (m.words.headD 0) % 2 = 0 ∨ !(isDie m.dest) ∨ 18 ≤ m.tag ∨ s.dark m.dest then s
  else
    let s := s.takeCtl (.ctl m) m.src m.dest
    match (s.core c).held with
    | some h => if h.op = 0x03 ∧ s.bound c ∧ s.ctxOf c = noticeCtx m then s.finishHeld c h 0 0 else s
    | none => s

/-- A grafted core that has power outside a replay takes up its restart copy (R506, R507). -/
def State.regrown (s : State) (c : CoreId) : State :=
  if !(s.regrow.contains c) ∨ s.coreState c = 0 then s
  else
    match s.partOfSite c.site with
    | some p => if s.replaying p then s.holdsNow p else s.restartCore (s.ctxOf c, s.rd (F.CORE_BIND_VCORE.core c), c)
    | none => s

end Sys2Proof.Machine
end

