-- ==== Sys2Proof/Machine/GroveStep.lean ====
section
/-! DEFINITION. Scale-out ports, received Grove packets, the grove's step protocol, membership and shadowing, and PTP (R383 to R406). -/

namespace Sys2Proof.Machine

/-- Is a port UP (R409). -/
def State.etUp (s : State) (site port : Nat) : Bool := isIo site && decide (port < 8 ∧ s.rd (F.ET_STAT_STATE.at site port) = 2) && !(s.dark site)

/-- A frame or packet discarded (R385, R387). -/
def State.etDrop (s : State) (site port : Nat) : State := s.bump (F.ET_RX_DROP_COUNT.at site port)

/-- ET_ENABLE_WRITE (R383, R409): 1 trains the port, in the mode that PMODE then gives; 0 leaves it DOWN. -/
def State.etEnable (s : State) (site port : Nat) (v : Bool) : State :=
  if !(isIo site) ∨ 8 ≤ port ∨ s.dark site then s
  else
    let was := s.on (F.ET_CTL_ENABLE.at site port)
    let s := s.wr (F.ET_CTL_ENABLE.at site port) (bnat v)
    if v ∧ !was then
      let four := s.rd (F.GR_CFG_PMODE.at site) = 1
      let there := four ∨ port < 4
      let s := (s.wr (F.ET_INFO_PRESENT.at site port) (bnat there)).wr (F.ET_INFO_FIRST.at site port) (if four then 4 * port else if port < 4 then 8 * port else 0)
      let s := s.wr (F.ET_INFO_WIDTH.at site port) (if four then 4 else if port < 4 then 8 else 0)
      if there then s.wr (F.ET_STAT_STATE.at site port) 1 else s
    else if !v ∧ was then
      let up := s.rd (F.ET_STAT_STATE.at site port) = 2
      let s := (s.wr (F.ET_STAT_STATE.at site port) 0).wr (F.ET_STAT_FEC_LOCK.at site port) 0
      if up then s.grRecord site port 0xD501 2 0 0 0 0 0 else s
    else s

/-- PORT_UP (R407, R391). -/
def State.etPortUp (s : State) (site port : Nat) : State :=
  if !(isIo site) ∨ 8 ≤ port ∨ s.rd (F.ET_STAT_STATE.at site port) ≠ 1 then s
  else ((s.wr (F.ET_STAT_STATE.at site port) 2).wr (F.ET_STAT_FEC_LOCK.at site port) 1).grRecord site port 0xD502 0 0 0 0 0 0

/-- PORT_DOWN (R407, R391): the port is DOWN, or FAULT where a fault took it down. -/
def State.etPortDown (s : State) (site port : Nat) (fault : Bool) : State :=
  if !(isIo site) ∨ 8 ≤ port ∨ s.rd (F.ET_STAT_STATE.at site port) ≠ 2 then s
  else ((s.wr (F.ET_STAT_STATE.at site port) (if fault then 3 else 0)).wr (F.ET_STAT_FEC_LOCK.at site port) 0).grRecord site port 0xD501 2 0 0 0 0 0

/-- A big-endian number of a frame. -/
def frameNat (b : List Byte) (i n : Nat) : Nat := leNat ((b.drop i).take n).reverse

/-- Does a port accept a frame (R384, R385): its FCS, destination, tags, IPv6 and UDP; the first byte of an address on the wire is its most significant (DEDUCED, log 44). -/
def State.frameTaken (s : State) (site port : Nat) (b : List Byte) : Bool :=
  let n := b.length
  let tagged := decide (frameNat b 12 2 = 0x8100)
  let o := if tagged then 18 else 14
  let udp := frameNat b (o + 42) 2
  decide (64 ≤ n ∧ n ≤ 9216) && decide (leNat (b.drop (n - 4)) = crc32 (b.take (n - 4))) &&
    decide (frameNat b 0 6 = s.rd (F.ET_MAC.at site port) ∧ frameNat b (o - 2) 2 = 0x86DD ∧ frameNat b (o + 6) 1 = 17) &&
    decide ((b.drop (o + 24)).take 16 = s.grIp site) &&
    (decide (udp = s.rd (F.GR_CFG_UDP_PORT.at site)) || (s.on (F.ET_CTL_PTP.at site port) && decide (udp = 319 ∨ udp = 320)))

/-- ETH_FRAME_RECEIVE (R385): a frame that the port does not accept is discarded and counted; an accepted one arrives by the row of its packet. -/
def State.ethFrame (s : State) (site port : Nat) (b : List Byte) : State :=
  if s.etUp site port ∧ !(s.frameTaken site port b) then s.etDrop site port else s

/-- Steering toward the grandmaster (R425): at the first lock an offset above 1 µs is stepped within R424, else panel time is slewed. -/
def State.ptpSteer (s : State) (off : Int) : State :=
  if s.rd (F.RC_CTL_SRC.at 309) ≠ 1 then s
  else
    let first := !s.ptp.locked
    let s : State := { s with ptp := { s.ptp with locked := true } }
    if first ∧ 1000 < off.natAbs then
      (if 0 < off ∧ (List.range 64).any (fun p => s.ptValid p) then s
      else
        let v := ((-off) % 18446744073709551616).toNat
        (s.setTime (s.time + v)).clockRec 0x9301 309 0 0x1FF 0 v)
    else s.steer off

/-- PTP_EVENT_MESSAGE (R396): Sync is stamped with panel time, Follow_Up is answered with Delay_Req, Delay_Resp closes the exchange. -/
def State.ptpMessage (s : State) (site port : Nat) (m : PtpMsg) : State :=
  if !(s.etUp site port) ∨ !(s.on (F.ET_CTL_PTP.at site port)) then s
  else
    let k := s.ptp
    match m with
    | .sync q => { s with ptp := { k with seq := q, t2 := s.now site, asked := false } }
    | .followUp q t1 =>
      if q ≠ k.seq then s else { s with ptp := { k with t1 := t1, t3 := s.now site, asked := true } }.send (.ptpOut site port q)
    | .delayResp q t4 =>
      if q ≠ k.seq ∨ !k.asked then s
      else
        let s : State := { s with ptp := { k with asked := false } }
        let a : Int := (k.t2 : Int) - k.t1
        let b : Int := (t4 : Int) - k.t3
        s.ptpSteer ((a - b) / 2)

/-- The connection a received packet belongs to (R388). -/
def connOf (p : GPkt) : Nat := 16 * (p.member % 512) + p.die % 16

/-- A NACK reaches the sender (R389, R390): the transfer fails with 0xD104, and the PSN counts as received. -/
def State.grNacked (s : State) (site : Nat) (p : GPkt) : State :=
  let c := connOf p
  let k := s.conn site c
  let s := match k.unack.find? (fun g => g.out.p.psn == p.psn) with
    | some g =>
      let s := s.setConn site c { k with unack := k.unack.erase g }
      if g.out.chan < 64 then s.xcFail site g.out.chan g.out.ix 0xD104 (p.arg % 65536) else s
    | none => s
  s.grAcked site c p false

/-- A SIGNAL packet performed (R394): one added to the arrival cell of channel RCHAN; the STATUS of a refusal. -/
def State.grSignal (s : State) (site : Nat) (p : GPkt) : Nat × State :=
  let ch := p.arg % 65536
  if 64 ≤ ch then (0xD103, s.grRecord site 0xFF 0xD103 2 p.member p.die 1 0 p.psn)
  else (0, s.ioSignal site (s.rd (F.XC_AR_SITE.at site 0 ch)) (s.rd (F.XC_AR_CELL.at site 0 ch)))

/-- The KIND, grove ID and step of a CTRL packet (R399). -/
def ctrlHead (p : GPkt) : Nat × Nat × Nat := (leNat (p.data.take 1), leNat ((p.data.drop 2).take 2), leNat ((p.data.drop 4).take 4))

/-- The u32 that begins a CTRL payload (R399). -/
def ctrlWord (p : GPkt) : Nat := leNat ((p.data.drop 8).take 4)

/-- A numbered packet at its receiver (R389): duplicates are acknowledged again and not applied, packets beyond the record are discarded, others are performed once and recorded. -/
def State.grTake (s : State) (site port : Nat) (ce : Bool) (p : GPkt) (act : State → Nat × State) : State :=
  let c := connOf p
  let k := s.conn site c
  let d := psnDist p.psn k.apsn
  if 2 ^ 31 ≤ d ∨ (d < 256 ∧ k.got.testBit d) then s.ackCount site c ce
  else if 256 ≤ d then s.etDrop site port
  else
    let r := act s
    let s := if r.1 = 0 then r.2 else r.2.sendNack site c p.psn r.1
    (s.setConn site c (recordPsn (s.conn site c) d)).ackCount site c ce

/-- A packet applied once its connection's record is held (R388 to R394). `ctrl` is what a CTRL packet does. -/
def State.grApply (s : State) (site port : Nat) (ce : Bool) (p : GPkt) (ctrl : State → State) : State :=
  match p.type with
  | 1 => s.grTake site port ce p (fun s => s.grData site p)
  | 2 => s.grTake site port ce p (fun s => s.grSignal site p)
  | 3 => s.grAcked site (connOf p) p true
  | 4 => s.grNacked site p
  | _ => s.grTake site port ce p (fun s => (0, ctrl s))

/-- A Grove packet arrives at a port (R385, R387, R388, R401): checked, and applied or kept in the miss buffer while its record is fetched. -/
def State.grArrive (s : State) (site port : Nat) (ce : Bool) (p : GPkt) (ctrl : State → State) : State :=
  if !(s.etUp site port) then s
  else
    let s := if ce then s.bump (F.ET_CE_COUNT.at site port) else s
    if p.crc ≠ grCrc p ∨ p.type = 0 ∨ 5 < p.type ∨ p.toMember ≠ s.grMember ∨ p.toDie ≠ site - 288 ∨ s.memberState site s.grEpoch p.member = 0 then s.etDrop site port
    else
      let s : State := { s with grove := { s.grove with heard := tset 0 s.grove.heard [p.member] (s.time + 1) } }
      let q := s.connNeed site (connOf p)
      if q.1 then q.2.grApply site port ce p ctrl
      else
        let l := tget [] q.2.miss [site]
        if 16 ≤ l.length then q.2.bump (F.GR_MISSDROP_COUNT.at site) else { q.2 with miss := tset [] q.2.miss [site] (l ++ [(2 * port + bnat ce, p)]) }

/-- GR_STATE.STATE as the epoch's table gives the panel's own entry (R398, R405, R410). -/
def State.grOwnState (s : State) : State :=
  let io := s.ctlIo
  let st := if s.grRole = 0 then 0 else match s.memberState io s.grEpoch s.grMember with | 0 => 0 | 3 => 2 | _ => 1
  s.wr (F.GR_STATE_STATE.at io) st

/-- A higher epoch is taken (R389, R401): FAILED connections whose member is still named start again from PSN 0. -/
def State.grSwitch (s : State) (epoch : Nat) : State :=
  if epoch ≤ s.grEpoch then s
  else
    let s := s.wr (F.GR_EPOCH_EPOCH.at s.ctlIo) epoch
    let again := s.conns.filter (fun e => e.2.failed && decide (s.memberState s.ctlIo s.grEpoch (e.1.getD 1 0 / 16) ≠ 0))
    (each again (fun e s => s.setConn (e.1.headD 0) (e.1.getD 1 0) { connReset with hw := e.2.hw, used := e.2.used }) s).grOwnState

/-- The partition that steps with the grove (R400). -/
def State.grPart (s : State) : Nat := s.rd (F.GR_GROVE_PART.at s.ctlIo)

/-- Is a partition bound to the grove. -/
def State.grBound (s : State) : Bool := s.groveBound s.grPart

/-- The grove's step is over: what it held of arrivals and digests is dropped. -/
def State.grClear (s : State) : State := { s with grove := { s.grove with step := 0, arrived := [], digests := [] } }

/-- RELEASE reaches a member (R400 step 3, R401). -/
def State.grReleased (s : State) (epoch step : Nat) : State :=
  let s := s.grSwitch epoch
  if !s.grBound then s.grClear
  else
    let p := s.grPart
    let s := if s.allArrived p && !(s.replaying p) then s.stepRelease p else s.wr (F.PT_STEP_STEP.at stw 0 p) step
    s.grClear

/-- ABORT reaches a member (R400 step 4, R500): the epoch switches, and the partition's replay goes on from step 4, or starts. -/
def State.grAborted (s : State) (epoch : Nat) : State :=
  let s := (s.grSwitch epoch).grClear
  if !s.grBound then s
  else
    let p := s.grPart
    if (s.rpOf p).stage = 2 then (s.wr (F.RP_STAT_HOLD_GROVE.at stw 0 p) 0).replayUnits p
    else if (s.rpOf p).stage = 3 then s
    else
      let s := s.startReplay p
      if (s.rpOf p).stage = 1 then s.onRp p (fun k => { k with stage := 4 }) else s

/-- The manager sends RELEASE or ABORT to every other member and acts on it itself (R400, R500). -/
def State.grDecide (s : State) (abort : Bool) (epoch step : Nat) : State :=
  let s := each s.grOthers (fun m s => s.grCtrl (if abort then 3 else 2) m step (natLe epoch 4)) s
  if abort then s.grAborted epoch else s.grReleased epoch step

/-- The entries of a DIGEST message (R399, R234). -/
def digestEntries (b : List Byte) : List DigestW :=
  (pieces 24 (b.length / 24) b).map (fun e =>
    let n (i k : Nat) : Nat := leNat ((e.drop i).take k)
    { sum := n 0 4, sumsq := n 4 4, maxabs := n 8 4, count := n 12 8, nonfin := n 20 4 })

/-- The bytes of one DIGEST entry. -/
def digestBytes (d : DigestW) : List Byte := natLe d.sum 4 ++ natLe d.sumsq 4 ++ natLe d.maxabs 4 ++ natLe d.count 8 ++ natLe d.nonfin 4

/-- The manager's comparison of one shadow with the member it shadows (R406). -/
def State.shadowCheck (s : State) (m sh step : Nat) : State :=
  let io := s.ctlIo
  let a := digestEntries (tget [] s.grove.digests [m])
  let b := digestEntries (tget [] s.grove.digests [sh])
  if a = [] ∧ b = [] then s
  else
    let tol := s.rd (F.SH_CFG_TOL.at io)
    let bad := (List.range (max a.length b.length)).find? (fun i =>
      match a[i]?, b[i]? with | some x, some y => !(digestNear tol x y) | _, _ => true)
    match bad with
    | some i => (s.wr (F.SH_STAT_PASSED.at io) 0).grRecord io 0xFF 0xD401 2 sh 0 0 0 i
    | none =>
      let n := min 255 (s.rd (F.SH_STAT_PASSED.at io) + 1)
      let s := s.wr (F.SH_STAT_PASSED.at io) n
      if n = s.rd (F.SH_CFG_STEPS.at io) then s.grRecord io 0xFF 0xD402 0 sh 0 0 0 step else s

/-- Once the manager and every other member have arrived, the comparisons are made and RELEASE is sent, with the epoch the manager has decided on (R400 step 2; log 44). -/
def State.grCheck (s : State) (epoch : Nat) : State :=
  if s.grRole ≠ 2 ∨ s.grove.step = 0 ∨ !((s.grMember :: s.grOthers).all (fun m => s.grove.arrived.contains m)) then s
  else
    let step := s.grove.step - 1
    let pairs := (List.range 512).filterMap (fun m =>
      let sh := s.memberShadow s.ctlIo s.grEpoch m
      if sh < 512 ∧ s.memberState s.ctlIo s.grEpoch sh = 3 then some (m, sh) else none)
    let s := each pairs (fun e s => s.shadowCheck e.1 e.2 step) s
    s.grDecide false (max epoch s.grEpoch) step

/-- The DIGEST results of the shadow list (R405): each entry read at SH_LIST, its range digested at the stack it begins in. -/
def State.shadowDigests (s : State) : List Byte :=
  let io := s.ctlIo
  (List.range (s.rd (F.SH_COUNT_COUNT.at io))).flatMap (fun i =>
    let w := leNat (s.peek io (s.rd (F.SH_LIST.at io) + 16 * i) 16)
    match s.xlate io (bits w 47 0) with
    | .error _ => List.replicate 24 0
    | .ok (p, off) =>
      let d := s.digest p off (bits w 87 48) ((fmtOf (bits w 91 88)).getD .b32)
      digestBytes { sum := toB32 d.sum, sumsq := toB32 d.sumsq, maxabs := toB32 d.maxabs, count := d.count, nonfin := d.nonfin })

/-- STEP_ARRIVAL in a partition that steps with the grove (R400 step 1): after the panel's last core SNAPSHOT, DIGEST where it shadows or is shadowed, and ARRIVE. -/
def State.groveArrived (s : State) : State :=
  let p := s.grPart
  if !s.grBound ∨ !(s.allArrived p) ∨ s.replaying p ∨ s.grove.step ≠ 0 then s
  else
    let step := ((tget [] s.arrived [p]).getLastD (0, 0, 0)).2.2
    let s := s.snapshotPart p
    let io := s.ctlIo
    let shadows := decide (s.memberState io s.grEpoch s.grMember = 3 ∨ s.memberShadow io s.grEpoch s.grMember < 512)
    let dg := if shadows then s.shadowDigests else []
    let s : State := { s with grove := { s.grove with step := step + 1 } }
    if s.grRole = 2 then
      ({ s with grove := { s.grove with arrived := s.grMember :: s.grove.arrived, digests := tset [] s.grove.digests [s.grMember] dg } } : State).grCheck 0
    else
      let s := if shadows then s.grCtrl 5 s.grMgr step dg else s
      s.grCtrl 1 s.grMgr step []

/-- A CTRL packet of some KIND for this grove (R399). -/
def State.ctrlOf (s : State) (p : GPkt) (kind : Nat) : Bool := decide (p.type = 5 ∧ (ctrlHead p).1 = kind)

/-- Is a CTRL packet for this panel's grove. -/
def State.ctrlHere (s : State) (p : GPkt) : Bool := decide ((ctrlHead p).2.1 = s.rd (F.GR_GROVE_ID.at s.ctlIo))

/-- GROVE_ARRIVE at the manager (R400). -/
def State.ctrlArrive (s : State) (p : GPkt) (epoch : Nat) : State :=
  if !(s.ctrlHere p) ∨ s.grRole ≠ 2 then s
  else ({ s with grove := { s.grove with arrived := p.member :: (s.grove.arrived.filter (fun m => decide (m ≠ p.member))) } } : State).grCheck epoch

/-- GROVE_RELEASE at a member. -/
def State.ctrlRelease (s : State) (p : GPkt) : State := if s.ctrlHere p ∧ p.member = s.grMgr then s.grReleased (ctrlWord p) (ctrlHead p).2.2 else s

/-- GROVE_ABORT at a member. -/
def State.ctrlAbort (s : State) (p : GPkt) : State := if s.ctrlHere p ∧ p.member = s.grMgr then s.grAborted (ctrlWord p) else s

/-- GROVE_HEARTBEAT at a member (R397, R402, R500): the sender's control die is noted; bit 31 of the step asks the manager for a replay of the grove. -/
def State.ctrlHeartbeat (s : State) (p : GPkt) : State :=
  if !(s.ctrlHere p) then s
  else
    let s : State := { s with grove := { s.grove with ctl := tset 0 s.grove.ctl [p.member] (leNat ((p.data.drop 12).take 2) % 16) } }
    if s.grRole = 2 ∧ (ctrlHead p).2.2.testBit 31 then s.grDecide true s.grEpoch (clrBit (ctrlHead p).2.2 31) else s

/-- GROVE_DIGEST at the manager (R405, R406). -/
def State.ctrlDigest (s : State) (p : GPkt) : State :=
  if !(s.ctrlHere p) ∨ s.grRole ≠ 2 then s else { s with grove := { s.grove with digests := tset [] s.grove.digests [p.member] (p.data.drop 8) } }

/-- What a CTRL packet does, by its KIND; reserved kinds do nothing (R399). -/
def State.ctrlAct (s : State) (p : GPkt) (epoch : Nat) : State :=
  match (ctrlHead p).1 with
  | 1 => s.ctrlArrive p epoch
  | 2 => s.ctrlRelease p
  | 3 => s.ctrlAbort p
  | 4 => s.ctrlHeartbeat p
  | 5 => s.ctrlDigest p
  | _ => s

/-- A Grove packet of a TYPE arrives. -/
def State.grRow (s : State) (type site port : Nat) (ce : Bool) (p : GPkt) : State :=
  if p.type ≠ type then s else s.grArrive site port ce p (fun s => s.ctrlAct p 0)

/-- A CTRL packet of a KIND arrives. -/
def State.ctrlRow (s : State) (kind site port : Nat) (ce : Bool) (p : GPkt) (epoch : Nat) : State :=
  if s.ctrlOf p kind then s.grArrive site port ce p (fun s => s.ctrlAct p epoch) else s

/-- CONN_RECORD_FETCHED (R388): the record is held, and what waited for it proceeds. -/
def State.connFetched (s : State) (site c : Nat) : State :=
  let k := s.conn site c
  if !k.fetching then s
  else
    let s := (s.setConn site c { k with fetching := false, hw := true, used := s.now site }).wr (F.GR_CONNS_USED.at site) (s.rd (F.GR_CONNS_USED.at site) + 1)
    let l := tget [] s.miss [site]
    let s : State := { s with miss := tset [] s.miss [site] (l.filter (fun e => decide (connOf e.2 ≠ c))) }
    let s := each (l.filter (fun e => decide (connOf e.2 = c))) (fun e s => s.grApply site (e.1 / 2) (decide (e.1 % 2 = 1)) e.2 (fun s => s.ctrlAct e.2 0)) s
    s.connFlush site c

/-- The step a HEARTBEAT carries. -/
def State.grStepNow (s : State) : Nat := if s.grove.step = 0 then s.rd (F.PT_STEP_STEP.at stw 0 s.grPart) else s.grove.step - 1

/-- HEARTBEAT_TIMER (R399, R402): a worker tells the manager, the manager every worker. -/
def State.heartbeat (s : State) : State :=
  let io := s.ctlIo
  let dests := if s.grRole = 2 then s.grOthers else if s.grRole = 1 then [s.grMgr] else []
  each dests (fun m s => s.grCtrl 4 m (s.grStepNow % 2 ^ 31) (natLe s.grEpoch 4 ++ natLe (io - 288) 2)) s

/-- The silence that counts as a loss, in ns (R402, R410). -/
def State.grSilence (s : State) : Nat := 1000 * s.rd (F.GR_LIVE_HB_US.at s.ctlIo) * s.rd (F.GR_LIVE_MISS.at s.ctlIo)

/-- Has a member been silent for MISS periods. -/
def State.grSilent (s : State) (m : Nat) : Bool := decide (tget 0 s.grove.heard [m] + s.grSilence ≤ s.time + 1)

/-- MEMBER_LOST_TIMEOUT (R402): 0xD201, then ABORT with the next epoch. -/
def State.memberLost (s : State) (m : Nat) : State :=
  if s.grRole ≠ 2 ∨ !(s.grOthers.contains m) ∨ !(s.grSilent m) then s
  else
    let step := s.grStepNow
    (s.grRecord s.ctlIo 0xFF 0xD201 1 m 0 0 0 step).grDecide true (s.grEpoch + 1) step

/-- MANAGER_LOST_TIMEOUT (R402): 0xD202 and GR_STATE.HELD. -/
def State.managerLost (s : State) : State :=
  if s.grRole ≠ 1 ∨ !(s.grSilent s.grMgr) ∨ s.on (F.GR_STATE_HELD.at s.ctlIo) then s
  else (s.wr (F.GR_STATE_HELD.at s.ctlIo) 1).grRecord s.ctlIo 0xFF 0xD202 2 s.grMgr 0 0 0 s.grStepNow

/-- GR_ROLE_WRITE (R397, R402): a held worker that gets a new manager clears HELD and sends it ARRIVE for the step it holds. -/
def State.grRoleWrite (s : State) (v : Nat) : State :=
  let io := s.ctlIo
  let old := s.grMgr
  let s := ((s.wr (F.GR_ROLE_ROLE.at io) (bits v 1 0)).wr (F.GR_ROLE_MEMBER.at io) (bits v 10 2)).wr (F.GR_ROLE_MGR.at io) (bits v 19 11)
  let s := s.grOwnState
  let s : State := { s with grove := { s.grove with heard := if s.grMgr = old then s.grove.heard else tset 0 s.grove.heard [s.grMgr] (s.time + 1) } }
  if s.on (F.GR_STATE_HELD.at io) ∧ s.grMgr ≠ old then
    let s := s.wr (F.GR_STATE_HELD.at io) 0
    if s.grove.step = 0 then s else s.grCtrl 1 s.grMgr (s.grove.step - 1) []
  else s

/-- REPLAY_DRAIN_END with the manager's part (R500): a manager whose own partition has stopped sends ABORT. -/
def State.drainEndReplay (s : State) (p : Nat) : State :=
  let s := s.replayDrainEnd p
  if (s.rpOf p).stage = 2 ∧ s.grRole = 2 then s.grDecide true s.grEpoch s.grStepNow else s

end Sys2Proof.Machine
end

