-- ==== Sys2Proof/Machine/Thermal.lean ====
section
/-! DEFINITION. Cooling and thermal control (R459 to R471): sensors, die protections, ramp bounds, falling flow and the emergency shed. -/

namespace Sys2Proof.Machine

/-- Sensors of a site (R461). -/
def sensorCount (n : Nat) : Nat :=
  match partOf n with
  | .die => 8
  | .stack => 4
  | .io => 2
  | .guest | .noGuest | .none => 0
  | _ => 1

/-- The coolant zone over a site (R460). -/
def zoneOf (n : Nat) : Nat :=
  if n < 288 then plotOf n % 9
  else if resetOf .posEdge n 0 0 = 1 then 8
  else if resetOf .posEdge n 0 0 = 3 then 0
  else (Config.rindZone n).toNat

/-- The TRIP threshold of a site in degrees, which is fixed (R464, R470). -/
def tripLimit (n : Nat) : Nat := match partOf n with | .die => 108 | .stack => 100 | _ => 110

/-- The GATE threshold of a compute die in degrees (R464). -/
def gateLimit : Nat := 105

/-- A reading of 16 bits as a signed number (R462, R470). -/
def reading (v : Nat) : Int := sext v 16

/-- A signed number as a reading. -/
def readingOf (i : Int) : Nat := (i % 65536).toNat

/-- Has a site a THERM page with registers of its own (R470). -/
def hasTherm (n : Nat) : Bool := decide (blockOf n 3 = some .therm)

/-- A site's thermal state at its start. -/
def thInit : ThSt := { temps := [], moved := 0, told := 0, cool := 0, hist := [] }
/-- A site's thermal state. -/
def State.thermal (s : State) (n : Nat) : ThSt := tget thInit s.th [n]
/-- A site's thermal state changed. -/
def State.onThermal (s : State) (n : Nat) (f : ThSt → ThSt) : State := { s with th := tset thInit s.th [n] (f (s.thermal n)) }

/-- The hottest of some readings and its sensor, the lowest-numbered among equals (R461, R470). -/
def hottest (l : List Nat) : Int × Nat :=
  (l.zipIdx).foldl (fun a e => if a.1 < reading e.1 then (reading e.1, e.2) else a) (-32769, 0)

/-- A site's temperature as last read (R461), in 1/128 degree. -/
def State.siteTemp (s : State) (n : Nat) : Int := (hottest (s.thermal n).temps).1

/-- A thermal record (R469). -/
def State.thermRec (s : State) (code site unit sev : Nat) (value : Int) (limit : Nat) : State :=
  s.report { code := code, site := site, unit := unit, sev := sev, info0 := readingOf value + zoneOf site <<< 16, info1 := limit % 65536 }

/-- The THERM ceiling of a die moved by one step, within 0 to 9 (R419, R464). -/
def State.thermCeil (s : State) (n : Nat) (down : Bool) : State :=
  let v := s.rd (F.CK_CEIL_THERM.at n)
  s.wr (F.CK_CEIL_THERM.at n) (if down then v - 1 else min 9 (v + 1))

/-- The thermal throttle level of a stack set (R464). -/
def State.thermLevel (s : State) (n v : Nat) : State := (s.setStk (stkOf n) { s.stk (stkOf n) with thermLevel := min 3 v }).setThrot n

/-- May a site throttle further: a die above step 0, a stack below level 3. -/
def State.canThrottle (s : State) (n : Nat) : Bool :=
  if isDie n then decide (0 < s.rd (F.CK_CEIL_THERM.at n)) else decide ((s.stk (stkOf n)).thermLevel < 3)

/-- THROT of a die or stack (R464): one step in 1 ms, with 0x8101 at the first action within 1 s; and back one step per 10 ms below THROT - 3 degrees. -/
def State.throttle (s : State) (n : Nat) (t : Int) (sensor : Nat) : State :=
  let lim := s.rd (F.TH_LIM_THROT.at n)
  let k := s.thermal n
  let now := s.now n
  if (128 * lim : Nat) ≤ t then
    let s := s.onThermal n (fun k => { k with cool := 0 })
    if !(s.canThrottle n) ∨ (k.moved ≠ 0 ∧ now < k.moved - 1 + 1000000) then s
    else
      let s := (s.onThermal n (fun k => { k with moved := now + 1 })).bump (F.TH_THROTTLES_COUNT.at n)
      let s := if isDie n then s.thermCeil n true else s.thermLevel n ((s.stk (stkOf n)).thermLevel + 1)
      if k.told ≠ 0 ∧ now < k.told - 1 + 1000000000 then s
      else (s.onThermal n (fun k => { k with told := now + 1 })).thermRec 0x8101 n sensor 0 t (128 * lim)
  else if t < (128 * (lim - 3) : Nat) then
    if k.cool = 0 then s.onThermal n (fun k => { k with cool := now + 1 })
    else if now < k.cool - 1 + 10000000 then s
    else
      let s := s.onThermal n (fun k => { k with cool := now + 1 })
      if isDie n then s.thermCeil n false else s.thermLevel n ((s.stk (stkOf n)).thermLevel - 1)
  else s.onThermal n (fun k => { k with cool := 0 })

/-- CRIT is reached (R464). -/
def State.critical (s : State) (n : Nat) (t : Int) (sensor : Nat) : State :=
  let s := if isDie n then s.wr (F.CK_CEIL_THERM.at n) 0
    else if isStack n then each [4 * plotOf n, 4 * plotOf n + 1] (fun d s => if s.dark d then s else s.wr (F.CK_CEIL_THERM.at d) 0) (s.thermLevel n 3)
    else loopN 8 (fun port s => s.etPortDown n port false) s
  s.thermRec 0x8102 n sensor 0 t (128 * s.rd (F.TH_LIM_CRIT.at n))

/-- A site loses its supply for the rest of the power-on (R451, R464). -/
def State.tripSite (s : State) (n : Nat) : State :=
  if n < 288 then (if n % 4 = 3 then s.groupDown n 3 3 else s.groupDown (regOf (plotOf n)) (n % 4) 0)
  else ({ s with offSites := s.offSites.erase n ++ [n] } : State).fenceSite n true

/-- TRIP is reached: the site goes dark with 0x8104, on which the steward husks it (R464, R492). -/
def State.trip (s : State) (n : Nat) (t : Int) (sensor : Nat) : State := (s.tripSite n).thermRec 0x8104 n sensor 2 t (128 * tripLimit n)

/-- The THERM state that follows from a temperature: 0 NORMAL, 1 THROTTLE, 2 CRITICAL, 3 GATED, which a die leaves below THROT (R464, R470). -/
def State.thermNext (s : State) (n : Nat) (t : Int) : Nat :=
  let thr := s.rd (F.TH_LIM_THROT.at n)
  let crit := s.rd (F.TH_LIM_CRIT.at n)
  let at_ (lim : Nat) : Bool := decide ((128 * lim : Nat) ≤ t)
  if isDie n && (at_ gateLimit || (decide (s.rd (F.TH_STAT_STATE.at n) = 3) && at_ thr)) then 3
  else if 0 < crit ∧ at_ crit then 2
  else if 0 < thr ∧ at_ thr then 1
  else 0

/-- Are a site's sensors read: it is not dark, or it is a die without its cores in an emergency shed (R461, R467). -/
def State.sensed (s : State) (n : Nat) : Bool :=
  !(s.dark n) || (isDie n && decide (s.siteState n = 1 ∧ s.rd (F.TP_STAT_FLOW.at stw) = 4 ∧ s.rd (F.RG_STAT_STATE.at (regOf (plotOf n)) 0 3) = 1))

/-- A stack's retention period follows its hottest sensor: 16 ms from 85 °C upward, 32 ms again below 82 °C (R227). -/
def State.retention (s : State) (n : Nat) (t : Int) : State :=
  if !(isStack n) then s
  else if (10880 : Int) ≤ t then s.wr (F.SC_STAT_HOT.at n) 1
  else if t < 10496 then s.wr (F.SC_STAT_HOT.at n) 0
  else s

/-- SENSOR_READ: the sensors of a site are read, and its protections act (R461, R464). -/
def State.sensorRead (s : State) (n : Nat) (temps : List Nat) : State :=
  if sensorCount n = 0 ∨ temps.length ≠ sensorCount n ∨ !(s.sensed n) then s
  else
    let s := s.onThermal n (fun k => { k with temps := temps.map (· % 65536) })
    let h := hottest (temps.map (· % 65536))
    let t := h.1
    let s := s.retention n t
    if (128 * tripLimit n : Nat) ≤ t then (if hasTherm n then (s.wr (F.TH_MAX_TEMP.at n) (readingOf t)).wr (F.TH_MAX_SENSOR.at n) h.2 else s).trip n t h.2
    else if !(hasTherm n) then (if (12800 : Int) ≤ t then s.wr (F.PG_EVT_EVT.at n 3) (setBit (s.rd (F.PG_EVT_EVT.at n 3)) 0) else s)
    else
      let was := s.rd (F.TH_STAT_STATE.at n)
      let nx := s.thermNext n t
      let s := (s.wr (F.TH_MAX_TEMP.at n) (readingOf t)).wr (F.TH_MAX_SENSOR.at n) h.2
      let s := if (128 * s.rd (F.TH_LIM_WARN.at n) : Nat) ≤ t then s.wr (F.PG_EVT_EVT.at n 3) (setBit (s.rd (F.PG_EVT_EVT.at n 3)) 0) else s
      let s := s.wr (F.TH_STAT_STATE.at n) nx
      let s := if isDie n || isStack n then s.throttle n t h.2 else s
      let crit := s.rd (F.TH_LIM_CRIT.at n)
      let s := if 0 < crit ∧ (128 * crit : Nat) ≤ t ∧ was < 2 then s.critical n t h.2 else s
      if nx = 3 ∧ was ≠ 3 then (s.bump (F.TH_GATES_COUNT.at n)).thermRec 0x8103 n h.2 0 t (128 * gateLimit) else s

/-- RAMP_WINDOW: a 10 ms window ends with a site's average power in watts, and its effective cap is worked out again; the bounds are suspended in a shed (R465, R467). -/
def State.rampWindow (s : State) (n avg : Nat) : State :=
  if !(isDie n || isStack n) ∨ !(s.inService n) ∨ s.dark n then s
  else
    let now := s.now n
    let t := s.siteTemp n
    let hist := (s.thermal n).hist
    let rise : Int := ((hist.filter (fun e => decide (e.1 + 1000000000 ≤ now))).getLast?.map (fun e => t - e.2)).getD 0
    let s := s.onThermal n (fun k => { k with hist := hist.filter (fun e => decide (now < e.1 + 1020000000)) ++ (if k.temps = [] then [] else [(now, t)]) })
    let c := s.cap n
    if s.on (F.TH_STAT_SHED.at n) then s.setCap n { c with avg := avg }
    else
      let d := s.rd (F.TH_RAMP_WATTS.at n)
      let hot := decide (((128 * s.rd (F.TH_RAMP_KPS.at n) : Nat) : Int) < rise)
      let e := max (avg - d) (min (avg + d) (s.rd (F.PW_CAP_WATTS.at n)))
      let e := if hot then min e avg else e
      (s.wr (F.TH_STAT_RAMPHOLD.at n) (bnat hot)).setCap n { c with e := e + 1, avg := avg }

/-- TH_SHED_WRITE: the cores of a die gate their clocks or resume, a stack goes to throttle level 3 or back; E then restarts from the gated average (R467). -/
def State.thShed (s : State) (n : Nat) (v : Bool) : State :=
  if !(isDie n || isStack n) ∨ s.dark n then s
  else
    let was := s.on (F.TH_STAT_SHED.at n)
    let s := (s.wr (F.TH_CTL_SHED.at n) (bnat v)).wr (F.TH_STAT_SHED.at n) (bnat v)
    let s := if isStack n then s.setThrot n else s
    if v ∨ !was then s
    else
      let c := s.cap n
      s.setCap n { c with e := min (s.rd (F.PW_CAP_WATTS.at n)) (c.avg + s.rd (F.TH_RAMP_WATTS.at n)) + 1 }

/-- The flow ceiling of a flow in 1/100 L/min (R466). -/
def flowCap (f : Int) : Nat := if 2000 ≤ f then 14000 else if 1200 ≤ f then 5600 + 105 * (f.toNat - 1200) / 10 else 5600

/-- TP_STAT.FLOW. -/
def State.flowState (s : State) : Nat := s.rd (F.TP_STAT_FLOW.at stw)

/-- Is a tray sensor lost (R462). -/
def State.trayLost (s : State) : Bool := s.tray.fails.any (fun n => decide (3 ≤ n))

/-- Do the coolant rules act on the tray's readings: SRC is TRAY or BOTH (R463). -/
def State.traySrc (s : State) : Bool := decide (s.rd (F.TP_CFG_SRC.at stw) = 0 ∨ s.rd (F.TP_CFG_SRC.at stw) = 2)

/-- Does the DIE condition declare sudden loss: SRC is DIE or BOTH, or a tray sensor is lost (R463). -/
def State.dieSrc (s : State) : Bool := decide (s.rd (F.TP_CFG_SRC.at stw) = 1 ∨ s.rd (F.TP_CFG_SRC.at stw) = 2) || s.trayLost

/-- The median of the in-service compute dies' temperatures, the lower of the middle two of an even number (DESIGN CHOICE, log 46). -/
def State.medianTemp (s : State) : Option Int :=
  let l := (allDies.filter (fun n => s.inService n && decide ((s.thermal n).temps ≠ []))).map (fun n => (s.siteTemp n + 32768).toNat)
  let sorted := l.foldr (insertBy (fun x => x)) []
  (sorted[(sorted.length - 1) / 2]?).map (fun x => (x : Int) - 32768)

/-- The median rises faster than 2 K/s over 250 ms while PP_IN has not risen (R463). -/
def State.dieLoss (s : State) : Bool :=
  match s.tray.median.getLast? with
  | none => false
  | some (t, m, p) => s.tray.median.any (fun e => decide (e.1 + 250000000 ≤ t ∧ t < e.1 + 252000000 ∧ e.2.1 + 64 < m ∧ p ≤ e.2.2))

/-- Sudden loss is declared: 0x8301, GATED, and the shed told to every compute die and stack (R467 step 1). -/
def State.declareLoss (s : State) (value : Int) (limit : Nat) : State :=
  if 3 ≤ s.flowState then s
  else
    let s := (s.thermRec 0x8301 s.steward 0xFF 0 value limit).bump (F.TP_LOSSES_COUNT.at stw)
    let s : State := { s.wr (F.TP_STAT_FLOW.at stw) 3 with tray := { s.tray with lossAt := s.now s.steward + 1, back := 0 } }
    each ((allDies ++ allStacks).filter (fun n => !(s.dark n))) (fun n s => s.stwWr n 3 0x114 1) s

/-- A die's cores get power again after a shed: its memories zero, its cores OFF, its pages live (R190, R440, R467). -/
def State.dieBack (s : State) (n : Nat) : State := (s.dieBoot n).siteReady n

/-- The plots whose regulators serve and have their network rail (R435, R467). -/
def State.shedPlots (s : State) : List Nat :=
  (List.range 72).filter (fun p => s.inService (regOf p) && decide (s.rd (F.RG_STAT_STATE.at (regOf p) 0 3) = 1 ∨ s.rd (F.RG_STAT_STATE.at (regOf p) 0 3) = 2))

/-- The flow is back before the panel is powered down: the shed is cleared, and after step 4 the CORE groups come up and the stacks wake (R467). -/
def State.flowBack (s : State) : State :=
  let st := s.flowState
  if st ≠ 3 ∧ st ≠ 4 then s
  else
    let s := if st = 4 then each s.shedPlots (fun p s =>
        let s := each [0, 1, 4] (fun g s => if s.rd (F.RG_STAT_STATE.at (regOf p) 0 g) = 0 then s.groupOn (regOf p) g else s) s
        let s := each [4 * p, 4 * p + 1] (fun n s => if s.inService n then s.dieBack n else s) s
        s.sleepWrite (4 * p + 2) false) s else s
    let f := reading (s.rd (F.TP_FLOW_FLOW.at stw))
    let s := s.wr (F.TP_STAT_FLOW.at stw) (if !s.traySrc ∨ 2000 ≤ f then 0 else if 1200 ≤ f then 1 else 2)
    let s : State := { s with tray := { s.tray with lossAt := 0, back := 0 } }
    each ((allDies ++ allStacks).filter (fun n => !(s.dark n))) (fun n s => s.stwWr n 3 0x114 0) s

/-- The flow rules of R466 at one flow reading. -/
def State.flowRules (s : State) (f : Int) : State :=
  let now := s.now s.steward
  let s := (s.wr (F.TP_FLOWCAP_WATTS.at stw) (flowCap f)).scaleCaps
  let k := s.tray
  let ovr := if 2100 ≤ f then (if k.overFor = 0 then now + 1 else k.overFor) else 0
  let settled := decide (ovr ≠ 0 ∧ ovr - 1 + 1000000000 ≤ now)
  let low := k.toldLow && !settled
  let shed := k.toldShed && !settled
  let s := if f < 2000 ∧ !low then s.thermRec 0x8202 s.steward 0xFF 0 f 2000 else s
  let s := if f < 1200 ∧ !shed then s.thermRec 0x8203 s.steward 0xFF 0 f 1200 else s
  let s : State := { s with tray := { s.tray with overFor := ovr, toldLow := low || decide (f < 2000), toldShed := shed || decide (f < 1200) } }
  if 3 ≤ s.flowState then s else s.wr (F.TP_STAT_FLOW.at stw) (if 2000 ≤ f then 0 else if 1200 ≤ f then 1 else 2)

/-- Sudden loss and the return of flow by the tray's readings (R463, R467 step 3). -/
def State.trayFlow (s : State) (f out : Int) : State :=
  let now := s.now s.steward
  let k := s.tray
  let under := if f < 400 then min 2 (k.under + 1) else 0
  let back := if 1200 ≤ f then min 10 (k.back + 1) else 0
  let rises := k.outlet.any (fun e => decide (e.1 + 250000000 ≤ now ∧ e.2 + 64 < out))
  let s : State := { s with tray := { k with under := under, back := back, outlet := k.outlet.filter (fun e => decide (now < e.1 + 252000000)) ++ [(now, out)] } }
  if 3 ≤ s.flowState then (if back = 10 ∧ !s.dieLoss then s.flowBack else s)
  else if under = 2 then s.declareLoss f 400
  else if rises then s.declareLoss out 0
  else s

/-- A failed or good read of one tray sensor: reads failed in a row (R462). -/
def readFails (was : Nat) (r : Option Nat) : Nat := if r.isSome then 0 else min 3 (was + 1)

/-- TRAY_SENSOR_READ: inlet, outlet and flow, each as read or not answered (R462, R463, R466). -/
def State.trayRead (s : State) (inlet outlet flow : Option Nat) : State :=
  let l := [inlet, outlet, flow]
  let was := s.tray.fails
  let fails := (l.zipIdx).map (fun e => readFails (was.getD e.2 0) e.1)
  let seen := (l.zipIdx).map (fun e => (s.tray.seen.getD e.2 false || e.1.isSome) && decide (fails.getD e.2 0 < 3))
  let lost := (List.range 3).filter (fun i => decide (fails.getD i 0 = 3 ∧ was.getD i 0 ≠ 3))
  let put (f : Fld) (r : Option Nat) (s : State) : State := match r with | some v => s.wr (f.at stw) v | none => s
  let s := put F.TP_FLOW_FLOW flow (put F.TP_OUTLET_TEMP outlet (put F.TP_INLET_TEMP inlet s))
  let s : State := { s.wr (F.TP_STAT_TRAY_OK.at stw) (bnat (seen.all (fun b => b))) with tray := { s.tray with fails := fails, seen := seen } }
  let s := each lost (fun _ s => s.thermRec 0x8201 s.steward 0xFF 0 0 0) s
  let s := match inlet with
    | none => s
    | some v =>
      let t := reading v
      let bad := decide (t < 2560 ∨ 5760 < t)
      let s' : State := { s.wr (F.TP_STAT_INLET_OK.at stw) (bnat (!bad)) with tray := { s.tray with inletBad := bad } }
      if bad ∧ !s.tray.inletBad then s'.thermRec 0x8204 s.steward 0xFF 0 t (if t < 2560 then 2560 else 5760) else s'
  if !s.traySrc then { s with tray := { s.tray with under := 0, back := 0, outlet := [] } }
  else if s.trayLost then s
  else
    match flow with
    | none => { s with tray := { s.tray with under := 0, back := 0 } }
    | some f => (s.flowRules (reading f)).trayFlow (reading f) (reading (s.rd (F.TP_OUTLET_TEMP.at stw)))

/-- The median die temperature followed, with the DIE condition of a loss and the return of flow by it (R463, R467 step 3). -/
def State.medianSample (s : State) : State :=
  match s.medianTemp with
  | none => s
  | some m =>
    let now := s.now s.steward
    let l := s.tray.median.filter (fun e => decide (now < e.1 + 252000000)) ++ [(now, m, s.rd (F.PP_IN_WATTS.at stw))]
    let s : State := { s with tray := { s.tray with median := l } }
    if 3 ≤ s.flowState then
      (if s.rd (F.TP_CFG_SRC.at stw) = 1 ∧ l.any (fun e => decide (e.1 + 100000000 ≤ now ∧ now < e.1 + 102000000 ∧ s.tray.lossAt ≤ e.1 + 1 ∧ m + 128 ≤ e.2.1)) then s.flowBack else s)
    else if s.dieSrc && s.dieLoss then s.declareLoss m 0
    else s

/-- SHED_COMPUTE_OFF: 200 ms after a shed without flow, contexts reset, the CORE and RET groups off, the stacks in self-refresh (R467 step 4). -/
def State.shedComputeOff (s : State) : State :=
  if s.flowState ≠ 3 ∨ s.now s.steward < s.tray.lossAt - 1 + 200000000 then s
  else
    let s := s.thermRec 0x8302 s.steward 0xFF 3 (reading (s.rd (F.TP_FLOW_FLOW.at stw))) 0
    let s := s.wr (F.TP_STAT_FLOW.at stw) 4
    let ctxs := (List.range 1024).filter (fun x => decide (s.cxState x = 2 ∨ s.cxState x = 3 ∨ s.cxState x = 5))
    let s := each ctxs (fun x s => s.ctxReset x false) s
    each s.shedPlots (fun p s =>
      let s := each [0, 1, 4] (fun g s => s.groupOff (regOf p) g) s
      if s.dark (4 * p + 2) then s else s.sleepWrite (4 * p + 2) true) s

/-- What a loss of power and a cold reset leave: the repair store, the counters of R550, and the model's own queue and counter. -/
def State.kept (s : State) : State :=
  let keys := [F.SEC_FW_SVN_COUNT.at 308, F.SEC_KEY_SVN_COUNT.at 308].map (fun l => l.key)
  { State.reset with pending := s.pending, nonce := s.nonce, store := s.store, fld := tkeep s.fld (fun k => keys.contains k) }

/-- The whole panel without power: only the repair store keeps its contents (R467, R475, R483). -/
def State.panelOff (s : State) (lock : Nat) : State :=
  { s.kept with
    offSites := List.range 30 |>.map (· + 288) |>.append [320, 321, 322, 323],
    pins := { s.pins with pwrGood := false, held := true, lock := lock, ir := [], bsr := [] } }

/-- The error log since the last commit goes to the repair store, 0x8303 last (R467 step 5). -/
def State.saveLog (s : State) : State :=
  let r : Rec := { code := 0x8303, site := s.steward, unit := 0xFF, sev := 3, time := s.now s.steward, seq := s.rd (F.EL_NEXT_SEQ.at stw),
                   info0 := s.rd (F.TP_FLOW_FLOW.at stw) + zoneOf s.steward <<< 16 }
  let l := (s.elog.filter (fun x => decide (s.logMark ≤ x.seq ∧ x.sev < 2))) ++ [r]
  let s := s.jCommitDone
  ((each l (fun x s => s.jError (recBytes x)) s).jCommit).jCommitDone

/-- SHED_PANEL_OFF: 2 s after a shed without flow (R467 steps 5 and 6). -/
def State.shedPanelOff (s : State) : State :=
  if s.flowState ≠ 4 ∨ s.now s.steward < s.tray.lossAt - 1 + 2000000000 then s else s.saveLog.panelOff 2

/-- PP_IN_SAMPLE with what the coolant rules take from it (R449, R463). -/
def State.ppSample (s : State) (readings : List Nat) : State := (s.ppIn readings).medianSample

end Sys2Proof.Machine
end

