-- ==== Sys2Proof/Machine/Bringup.lean ====
section
/-! DEFINITION. Bring-up and resets (R519 to R546): the ten steps, cold grafts, and the resets of a core, a cluster, a partition and the running panel. -/

namespace Sys2Proof.Machine

/-- Is the panel held in panel reset (R482, R483). -/
def State.inReset (s : State) : Bool := s.pins.held || !s.pins.rstN || !s.pins.pwrGood

/-- A field of both stewards' BRINGUP pages (log 45). -/
def State.wrBr (s : State) (f : Fld) (v : Nat) : State := (s.wr (f.at 306) v).wr (f.at 307) v

/-- BR_STAT.STEP. -/
def State.brStep (s : State) : Nat := s.rd (F.BR_STAT_STEP.at 306)

/-- BR_STAT.BUSY. -/
def State.brBusy (s : State) : Bool := s.on (F.BR_STAT_BUSY.at 306)

/-- A page of the stewards is in use: its READY bit, kept for both under the active steward's virtual place (R519, R520 step 10). -/
def State.stwLive (s : State) (page : Nat) : Bool := s.on (F.PG_STAT_READY.at stw page)

/-- What a command does to a steward page that is in use; a page that is not discards it (R519). -/
def State.whenLive (s : State) (page : Nat) (f : State → State) : State := if s.stwLive page then f s else s

/-- A bring-up record (R542). -/
def State.brRec (s : State) (code site unit sev step cause info1 : Nat) : State :=
  s.report { code := code, site := site, unit := unit, sev := sev, info0 := step + cause <<< 4, info1 := info1 }

/-- A BRINGUP command refused (R519, R544). -/
def State.brRefuse (s : State) (site : Nat) : State := s.wr (F.BR_STAT_RESULT.at site) 0x5405

/-- A step ends without success: FAILED, RESULT and 0xB101 naming the step, beside the step's own record (R521). -/
def State.brFail (s : State) (step code cause info1 : Nat) : State :=
  let s := ((s.wrBr F.BR_STAT_FAILED 1).wrBr F.BR_STAT_RESULT code).wrBr F.BR_STAT_BUSY 0
  let s : State := { s with br := { s.br with run := 0, auto := false, failed := if step = 3 then 0 else step, cold := [] } }
  s.brRec 0xB101 s.steward 0xFF 2 step cause info1

/-- A site's state in the map is IN_SERVICE. -/
def State.serves (s : State) (n : Nat) : Bool := decide (s.mapState n = 1)

/-- Is a plot in service by the map (R563). -/
def State.plotServes (s : State) (p : Nat) : Bool :=
  s.serves (4 * p) && s.serves (4 * p + 1) && s.serves (regOf p) &&
    (s.serves (4 * p + 2) || s.substStack.any (fun e => decide (e.1 = 4 * p + 2) && s.serves e.2))

/-- Is any plot in service (R521). -/
def State.anyPlot (s : State) : Bool := (List.range 72).any (fun p => s.plotServes p)

/-- The rind I/O dies and the fitted guest dies (R520 step 5). -/
def rindLoads : List Nat := (List.range 16).map (· + 288) ++ [320, 321, 322, 323].filter (fun n => decide (partOf n = .guest))

/-- The output groups of a plot that have a site to serve (R435, R520 step 5). -/
def State.groupsFor (s : State) (p : Nat) : List Nat :=
  if !(s.serves (regOf p)) then []
  else
    (List.range 3).filter (fun k => s.serves (4 * p + k)) ++
      (if (List.range 3).any (fun k => s.serves (4 * p + k)) then [3] else []) ++ (if s.serves (4 * p) || s.serves (4 * p + 1) then [4] else [])

/-- Sites that failed a step are husked; a failed plot regulator takes its plot with it (R521). -/
def State.huskFailed (s : State) (l : List Nat) (code : Nat) : State :=
  each l (fun n s =>
    if n < 288 ∧ n % 4 = 3 then each [n - 3, n - 2, n - 1, n] (fun m s => s.huskSite m code) s
    else if decide (n < 288) || (match partOf n with | .io | .guest => true | _ => false) then s.huskSite n code
    else s) s

/-- Every site that has power. -/
def State.poweredSites (s : State) : List Nat := allSites.filter (fun n => decide (partOf n ≠ .none ∧ partOf n ≠ .noGuest) && !(s.dark n))

/-- The grant of bring-up (R345): WR on window 8 of each port's site for the port's default master. -/
def State.grantPorts (s : State) : State :=
  each [304, 305] (fun n s =>
    let l := F.AC_WR.at n 0 (aclIdx (1024 + s.rd (F.PS_DEFAULT_MOFF.at n)) 0)
    s.wr l (setBit (s.rd l) 8)) s

/-- Step 3 (R522, R549): firmware verified and started, the active steward chosen. None where it fails. -/
def State.step3 (s : State) (r : StepRes) : Option State × State :=
  let b := s.br.site
  let c := s.loadFirmware b
  if c.1 ≠ 0 then (none, (c.2.brRec 0xB102 b 0xFF 2 3 0 c.1).brFail 3 0xB102 1 c.1)
  else
    let s := c.2
    let mine := s.fwbuf.filter (fun e => decide (e.1 / 0x1000000 = b - 306))
    let other := mine.map (fun e => ((e.1 + 0x1000000) % 0x2000000, e.2))
    let act := if r.romOk then b - 306 else 307 - b
    let s : State := { s with fwbuf := if b = 306 then mine ++ other else other ++ mine, active := act }
    let s := (s.wr (F.BR_STAT_ACTIVE.at 306) (1 - act)).wr (F.BR_STAT_ACTIVE.at 307) act
    let s := s.wrBr F.BR_STAT_ROM 0
    let s := each [306, 307] (fun n s => s.setReady n [1, 2, 3, 5, 0xA, 0x20] true) s
    let s := s.grantPorts
    (some (s.setReady stw [0x21, 0x25] true), s)

/-- Stack grafts that the journal no longer tells are found again: a husked stack in a plot that otherwise serves goes with a stack that serves alone (log 45). -/
def State.pairStacks (s : State) : State :=
  let gone := (List.range 72).filter (fun p => decide (s.mapState (4 * p + 2) = 3) && s.serves (4 * p) && s.serves (4 * p + 1) && !(s.substStack.any (fun e => e.1 == 4 * p + 2)))
  let free := (List.range 72).filter (fun q => s.serves (4 * q + 2) && !(s.serves (4 * q)) && !(s.serves (4 * q + 1)) && !(s.substStack.any (fun e => e.2 == 4 * q + 2)))
  { s with substStack := s.substStack ++ (gone.zip free).map (fun e => (4 * e.1 + 2, 4 * e.2 + 2)) }

/-- A GRAFT_BEGIN without its GRAFT_END is resolved (R533). -/
def State.closeGraft (s : State) : State :=
  if !(s.on (F.OR_GRAFT_OPEN.at stw)) then s
  else
    let kind := s.rd (F.OR_GRAFT_KIND.at stw)
    let p := s.rd (F.OR_GRAFT_SRC.at stw)
    let q := s.rd (F.OR_GRAFT_DEST.at stw)
    let s := s.journal 6 (natLe kind 1 ++ natLe p 1 ++ natLe q 1 ++ natLe 2 1)
    let s := s.setSites (s.gf.former.filter (fun e => decide (s.mapState e.1 ≠ 3)))
    let husk := (graftSites (decide (kind = 1)) p q).any (fun n => decide (plotOf n = p ∧ s.mapState n = 3))
    let s : State := { s.wr (F.OR_GRAFT_OPEN.at stw) 0 with
      gf := { s.gf with former := [] }, br := { s.br with lost := if husk then s.br.lost ++ [p] else s.br.lost } }
    s.report { code := 0xB403, site := s.steward, unit := 0xFF, sev := 0, info0 := p + q <<< 7 + kind <<< 17 }

/-- Step 4 (R532, R533): the map verified, open grafts closed, SITE pages loaded. -/
def State.step4 (s : State) : Option State × State :=
  match ({ s with substCore := [], substSite := [], substStack := [] } : State).verifyMap (s.on (F.SEC_STAT_IDENT_OK.at secSite)) with
  | none => (none, (s.report { code := 0xB103, site := s.steward, unit := 0xFF, sev := 3, info0 := 4 }).brFail 4 0xB103 1 0xB103)
  | some (other, s) =>
    let s := s.setSlot 2 s.jprev
    let torn := decide (s.jbad.1 ≠ 0)
    let s : State := { s with sec := { s.sec with fallback := other, torn := torn } }
    let s := if other then s.report { code := 0xB202, site := s.steward, unit := 0xFF, sev := 0 } else s
    let s := if torn then s.report { code := 0xB201, site := s.steward, unit := 0xFF, sev := 0, info0 := s.jbad.2, info1 := s.jbad.1 } else s
    let s := s.closeGraft.loadSubst.pairStacks
    let s := each allSites (fun n s => s.loadSite n) s
    let s := each (s.poweredSites.filter (fun n => decide (288 ≤ n))) (fun n s => s.setReady n [0] true) s
    (some s, s)

/-- Step 5 (R520, R521): the rind loads and the plots in service get power. -/
def State.step5 (s : State) (r : StepRes) : State :=
  let s := s.huskFailed r.badSites 0
  let s := each (rindLoads.filter (fun n => decide (s.mapState n ≠ 3) && s.offSites.contains n)) (fun n s =>
    ({ s with offSites := s.offSites.erase n } : State).siteBoot n) s
  loopN 72 (fun p s => each (s.groupsFor p) (fun g s =>
    let st := s.rd (F.RG_STAT_STATE.at (regOf p) 0 g)
    if st = 1 ∨ st = 2 then s
    else
      let s := s.groupOn (regOf p) g
      if g < 3 then s.siteBoot (4 * p + g) else s) s) s

/-- Step 6 (R413, R415, R422): reference parents, delays, clocks and panel time of the sites that have power. -/
def State.step6 (s : State) (r : StepRes) : State :=
  let s := s.huskFailed r.badSites 0
  each s.poweredSites (fun n s =>
    let s := if hasClk n ∧ n ≠ 309 ∧ s.dark (s.rd (F.CK_REFPARENT_SITE.at n)) then
        (match s.refChoice n 0x1FF with | some m => s.wr (F.CK_REFPARENT_SITE.at n) m | none => s) else s
    let s := match r.tdly.find? (fun e => e.1 == n) with | some e => if hasClk n then s.wr (F.CK_TDLY_PS.at n) e.2 else s | none => s
    if isNode n then s.clockOn n else s.siteClock n) s

/-- Every link between two powered sites starts to train (R373, R520 step 7). -/
def State.trainAll (s : State) : State :=
  each s.poweredSites (fun n s => each (linksOf n) (fun l s =>
    match linkPeer n l with
    | some e => if n < e.1 ∧ !(s.dark e.1) ∧ s.linkState n l ≠ 2 then s.startTraining n l true else s
    | none => s) s) s

/-- The dies and stacks that step 8 tests. -/
def State.testSites (s : State) : List Nat := (allDies ++ allStacks).filter (fun n => s.serves n && !(s.dark n))

/-- Channels of the stacks train (R524). -/
def State.trainChannels (s : State) : State :=
  each (s.testSites.filter isStack) (fun n s => s.setChannels (stkOf n) 1) s

/-- The failing slots of a die in its map masks: SERVICE with the lowest spares in place, HUSK; none where the spares do not suffice (R523). -/
def State.slotFix (s : State) (n : Nat) (bad : List Nat) : Option (Nat × Nat) :=
  let cores := s.mapNat (siteEntry n + 4) 4
  let husk := s.mapNat (siteEntry n + 8) 4
  let gone := bad.filter (fun i => cores.testBit i)
  let spares := (List.range 18).filter (fun i => !(cores.testBit i) && !(husk.testBit i) && !(bad.contains i))
  if spares.length < gone.length then none
  else some ((spares.take gone.length).foldl setBit (gone.foldl clrBit cores), (bad.filter (fun i => decide (i < 18))).foldl setBit husk)

/-- The channels of a stack with a bank of more than 8 failing rows, those that the map already names among them, whose test they fail (R209). -/
def State.channelsOver (s : State) (r : StepRes) (n : Nat) : List Nat :=
  let l := r.rows.filter (fun e => isStack n && decide (e.1 = stkOf n))
  let rows (ch b : Nat) : List Nat :=
    (((List.range 8).map (fun i => s.mapNat (rowEntry (stkOf n) ch b i) 2)).filter (fun w => decide (w ≠ 0xFFFF)) ++
      (l.filter (fun e => decide (e.2.1 = ch ∧ e.2.2.1 = b))).map (fun e => e.2.2.2.2)).eraseDups
  ((l.filter (fun e => decide (8 < (rows e.2.1 e.2.2.1).length))).map (fun e => e.2.1)).eraseDups

/-- The rows that a test has newly mapped onto spares, journaled (R209, R529). -/
def State.mapRows (s : State) (l : List (Nat × Nat × Nat × Nat × Nat)) : State :=
  each l (fun e s => s.journal 3 (natLe e.1 2 ++ natLe e.2.1 1 ++ natLe e.2.2.1 1 ++ natLe e.2.2.2.1 1 ++ natLe e.2.2.2.2 2)) s

/-- The test result of one die or stack journaled: STARTS and LASTTEST, failed cores replaced, a failed site husked; `worn` are the channels that fail their test (R209, R523, R527). -/
def State.siteTested (s : State) (r : StepRes) (worn : List Nat) (n : Nat) : State :=
  let a := siteEntry n + 12
  let bad := (r.badCores.filter (fun c => c.site == n && decide (c.slot < 18))).map (fun c => c.slot)
  let s := s.mapPut a (natLe (min 65535 (s.mapNat a 2 + 1)) 2)
  let s := each bad (fun i s => s.brRec 0xB105 n i 0 8 0 0) s
  let s := each worn (fun ch s => s.wr (F.CH_STATE_STATE.at n ch) 4) s
  if r.badSites.contains n ∨ worn ≠ [] then (s.brRec 0xB105 n 0xFF 0 8 0 0).huskSite n 0xB105
  else
    match s.slotFix n bad with
    | none => (s.brRec 0xB105 n 0xFF 0 8 0 0).huskSite n 0xB105
    | some (cores, husk) => s.journalSite n (s.mapState n) cores husk (if bad = [] then 0 else 0xB105)

/-- The plots that a cold graft is to replace: those whose die or stack this bring-up has lost (R523, R533). -/
def State.coldPlots (s : State) (tested : List Nat) : List Nat :=
  ((s.br.lost ++ ((tested.filter (fun n => decide (s.mapState n = 3))).map plotOf)).eraseDups).filter (fun p => !(s.plotServes p))

/-- A standby plot is powered for a cold graft, and its links train (R523). -/
def State.coldPower (s : State) (q : Nat) : State :=
  let s := loopN 5 (fun g s => s.groupOn (regOf q) g) s
  let s := each [4 * q, 4 * q + 1, 4 * q + 2] (fun n s => (s.siteBoot n).clockOn n) s
  each [4 * q, 4 * q + 1, 4 * q + 2] (fun n s => s.trainSite n) s

/-- Cold grafts begin, each on the next standby plot of R509's order. -/
def State.coldStart (s : State) (plots : List Nat) : State :=
  if !(s.on (F.BR_CFG_COLDGRAFT.at s.steward)) then s
  else each plots (fun p s =>
    match (List.range 8).findSome? (fun d =>
        [p / 9 - d, p / 9 + d].findSome? (fun row => if row < 8 ∧ (d ≤ p / 9 ∨ row = p / 9 + d) ∧ s.plotStandby (9 * row + 8) ∧ !(s.br.cold.any (fun e => e.2 == 9 * row + 8)) then some (9 * row + 8) else none)) with
    | some q => ({ s with br := { s.br with cold := s.br.cold ++ [(p, q)] } } : State).coldPower q
    | none => s) s

/-- A cold graft ends: the standby plot in service in the plot's place, the plot's survivors STANDBY and off, 0xB106 (R508, R523). -/
def State.coldEnd (s : State) (r : StepRes) (p q : Nat) : State :=
  let sites := [4 * q, 4 * q + 1, 4 * q + 2]
  let worn := s.channelsOver r (4 * q + 2)
  let bad (n : Nat) : Bool := r.badSites.contains n || (decide (n = 4 * q + 2) && !worn.isEmpty)
  let s := s.mapRows (r.rows.filter (fun e => decide (e.1 = q)))
  if sites.any bad then
    let s := each (sites.filter bad) (fun n s => (s.brRec 0xB105 n 0xFF 0 8 0 0).huskSite n 0xB105) s
    s.plotOff q
  else
    let kept := [0, 1, 2, 3].filter (fun k => decide (s.mapState (4 * p + k) ≠ 3))
    let s := s.setSites ([0, 1, 2, 3].map (fun k => (4 * q + k, 1)) ++ kept.map (fun k => (4 * p + k, 2)))
    let s := ((s.addPlotSubst p q).journalSubst (p <<< 1 + q <<< 8)).plotOff p
    let s := each sites (fun n s => s.siteReady n) (s.zeroStack q)
    s.brRec 0xB106 (4 * q) 0xFF 0 8 0 0

/-- The first part of step 8's end: tests journaled, rows mapped, stacks zero, sites in use, cold grafts begun (R523, R524). -/
def State.step8 (s : State) (r : StepRes) : State :=
  let l := s.testSites
  let over_ := l.map (fun n => (n, s.channelsOver r n))
  let s := (each over_ (fun e s => s.siteTested r e.2 e.1) (s.mapRows r.rows)).jCommit
  let s := each (l.filter (fun n => decide (s.mapState n ≠ 3))) (fun n s => (if isStack n then s.zeroStack (plotOf n) else s).siteReady n) s
  (({ s with br := { s.br with cold := [] } } : State).coldStart (s.coldPlots l))

/-- Every router's pending tables in force at once: the routers carry no traffic yet (R520 step 9). -/
def State.flipRoutes (s : State) : State :=
  { s with bank := each ((allNodes ++ rindRouters).filter (fun n => !(s.dark n))) (fun n b => tset 0 (tset 0 b [n, 1] (1 - tget 0 b [n, 1])) [n, 3] (1 - tget 0 b [n, 3])) s.bank }

/-- Step 9 (R250, R251, R265): routes, control tree, epoch 1, the map committed; none where no acceptable route set exists. -/
def State.step9 (s : State) : Option State :=
  match s.prepRoutes with
  | none => none
  | some (more, t) =>
    let s := t.flipRoutes
    let s := if more then (match s.prepRoutes with | some (_, t) => t.flipRoutes | none => s) else s
    some (((s.wr (F.EP_NUM_EPOCH.at stw) 1).rebuildTree false).jCommit)

/-- A bring-up step begins (R519, R520): links and channels train from here; step 10 is done at once. -/
def State.brStart (s : State) (n : Nat) : State :=
  let s := (s.wrBr F.BR_STAT_FAILED 0).wrBr F.BR_STAT_RESULT 0
  if n = 10 then (s.grantPorts.setReady stw [0x22, 0x23, 0x24] true).wrBr F.BR_STAT_STEP 10
  else
    let s : State := { s.wrBr F.BR_STAT_BUSY 1 with br := { s.br with run := n } }
    if n = 7 then s.trainAll else if n = 8 then s.trainChannels else s

/-- BR_STEP (R519, R544): the command of a steward's page. -/
def State.brCmdStep (s : State) (site n : Nat) : State :=
  if ¬ (site = 306 ∨ site = 307) ∨ s.inReset ∨ s.dark site then s
  else if n < 3 ∨ 10 < n ∨ s.brStep + 1 ≠ n ∨ s.brBusy ∨ s.br.failed ≠ 0 ∨ (3 < n ∧ site ≠ s.steward) then s.brRefuse site
  else ({ s with br := { s.br with site := site, auto := false } } : State).brStart n

/-- BR_AUTO (R544). -/
def State.brAuto (s : State) (site : Nat) : State :=
  if ¬ (site = 306 ∨ site = 307) ∨ s.inReset ∨ s.dark site then s
  else if s.brStep < 3 ∨ s.brBusy ∨ s.br.failed ≠ 0 ∨ site ≠ s.steward then s.brRefuse site
  else if 9 ≤ s.brStep then s
  else ({ s with br := { s.br with site := site, auto := true } } : State).brStart (s.brStep + 1)

/-- BR_ABORT (R544): AUTO stops after the step in progress. -/
def State.brAbort (s : State) (site : Nat) : State :=
  if ¬ (site = 306 ∨ site = 307) ∨ s.inReset ∨ s.dark site then s
  else if !s.br.auto then s.brRefuse site
  else { s with br := { s.br with auto := false } }

/-- A step has ended well: STEP, its duration, and the next step where AUTO runs (R519, R543, R544). -/
def State.brDone (s : State) (n ms : Nat) : State :=
  let s := ((s.wrBr F.BR_STAT_STEP n).wrBr F.BR_STAT_BUSY 0).wr (F.BR_TMS_MS.at s.br.site 0 n) ms
  let auto := s.br.auto && decide (n < 9)
  let s : State := { s with br := { s.br with run := 0, auto := auto } }
  if auto then s.brStart (n + 1) else s

/-- The end of steps 5 to 8: on, unless no plot is left in service (R521). -/
def State.brNext (s : State) (n ms : Nat) : State := if s.anyPlot then s.brDone n ms else s.brFail n 0xB101 2 0

/-- BRINGUP_STEP_DONE with what the step found (R519 to R524). Step 2 ends with no command; step 7 ends once no link trains, and step 8 once its cold grafts have been tested. -/
def State.brStepDone (s : State) (r : StepRes) : State :=
  if s.inReset then s
  else
    match s.br.run with
    | 0 => if s.brStep < 2 then s.wrBr F.BR_STAT_STEP 2 else s
    | 3 => match s.step3 r with | (some t, _) => t.brDone 3 r.ms | (none, t) => t
    | 4 => match s.step4 with | (some t, _) => t.brDone 4 r.ms | (none, t) => t
    | 5 => (s.step5 r).brNext 5 r.ms
    | 6 => (s.step6 r).brNext 6 r.ms
    | 7 => if s.poweredSites.any (fun n => !(s.trained n)) then s else (s.huskFailed r.badSites 0).brNext 7 r.ms
    | 8 =>
      if s.br.cold = [] then
        let t := s.step8 r
        if t.br.cold = [] then ({ t with br := { t.br with lost := [] } } : State).brNext 8 r.ms else t
      else if s.br.cold.any (fun e => [0, 1, 2].any (fun k => !(s.trained (4 * e.2 + k)))) then s
      else
        let t := each s.br.cold (fun e s => s.coldEnd r e.1 e.2) s
        ({ t with br := { t.br with cold := [], lost := [] } } : State).brNext 8 r.ms
    | 9 =>
      if !s.anyPlot then s.brFail 9 0xB101 2 0
      else
        (match s.step9 with
        | some t => t.brDone 9 r.ms
        | none => (s.report { code := 0xB104, site := s.steward, unit := 0xFF, sev := 2, info0 := 9 }).brFail 9 0xB104 1 0xB104)
    | _ => s

/-- BR_FW_DATA_WRITE (R522, R543): an image word at ADDR of a steward's load buffer, and ADDR advanced by 4. -/
def State.brFwData (s : State) (site v : Nat) : State :=
  if ¬ (site = 306 ∨ site = 307) ∨ s.inReset ∨ s.dark site then s
  else
    let a := s.rd (F.BR_FW_ADDR_ADDR.at site)
    ({ s with fwbuf := mputNat s.fwbuf ((site - 306) * 0x1000000 + 4 * a) 4 v } : State).wr (F.BR_FW_ADDR_ADDR.at site) (a + 1)

/-- BR_INSERVICE: cores, plots and stacks in service (R543, R563). -/
def State.brInService (s : State) : Nat × Nat × Nat :=
  (((allDies.filter (fun n => s.inService n)).map (fun n => popcount (s.rd (F.SITE_CORES_SERVICE.at n)) 18)).foldl (· + ·) 0,
   ((List.range 72).filter (fun p => s.plotInService s.substStack p)).length, (allStacks.filter (fun n => s.inService n)).length)

/-- The dies of a reset's scope (R534). -/
def State.scopeDies (s : State) : DrainKind → List Nat
  | .cluster n => [n]
  | .partition p => s.ptDies p
  | .warm => allDies.filter (fun n => !(s.dark n))
  | _ => []

/-- The pages that a reset fences (R535 step 1), by site. -/
def State.scopePages (s : State) (k : DrainKind) : List (Nat × List Nat) :=
  match k with
  | .core c => [(c.site, corePages c)]
  | _ => (s.scopeDies k).map (fun n => (n, [8, 9] ++ (List.range 72).map (· + 0x40)))

/-- Does one reset's scope contain another's (R538). -/
def State.scopeHolds (s : State) (big small : DrainKind) : Bool :=
  match big, small with
  | .warm, _ => true
  | .partition p, .core c => (s.ptDies p).contains c.site
  | .partition p, .cluster n => (s.ptDies p).contains n
  | .partition p, .ctxReset x => decide (s.cxPart x = p)
  | .partition p, .ctxTeardown x => decide (s.cxPart x = p)
  | .partition p, .replay q => decide (p = q)
  | .cluster n, .core c => decide (c.site = n)
  | .cluster n, .ctxReset x => (s.cx x).cores.any (fun c => c.site == n)
  | _, _ => false

/-- Is a reset refused because an equal or larger one runs (R538). -/
def State.resetShut (s : State) (k : DrainKind) : Bool := s.drains.any (fun d => decide (d.kind = k) || (s.scopeHolds d.kind k && (match d.kind with | .core _ | .cluster _ | .partition _ | .warm => true | _ => false)))

/-- A reset begins (R535 steps 1 and 2): pages fenced, STOP to its cores, multicast copies of its dies dropped. -/
def State.resetStart (s : State) (k : DrainKind) (cores : List CoreId) : State :=
  let dies := s.scopeDies k
  let s := each (s.scopePages k) (fun e s => each e.2 (fun pg s => s.wr (F.PG_STAT_FENCED.at e.1 pg) 1) s) s
  let sent (e : Hold) : Bool := cores.contains ⟨e.pkt.src, e.pkt.sunit⟩
  let s := s.dropHolds (fun e => dies.contains e.site || sent e) sent
  s.startDrain k cores

/-- The cores of some dies. -/
def coresOf (dies : List Nat) : List CoreId := dies.flatMap (fun n => (List.range 18).map (fun i => ⟨n, i⟩))

/-- A reset of the BR_RST register refused (R534, R538). -/
def State.rstRefuse (s : State) : State := s.wr (F.BR_RST_STAT_RESULT.at s.steward) 0x5405

/-- A reset of the BR_RST register accepted. -/
def State.rstBegin (s : State) (k : DrainKind) (cores : List CoreId) : State :=
  ((s.wr (F.BR_RST_STAT_RESULT.at s.steward) 0).wr (F.BR_RST_STAT_BUSY.at s.steward) 1).resetStart k cores

/-- The contexts, ACTIVE, SAVING or RESTORING, that own a VALID cell or die-memory region of a die (R534). -/
def State.dieOwners (s : State) (n : Nat) : List Nat :=
  let cells := (s.validCells n).map (fun i => s.rd (F.SY_OWNER_OWNER.at n 0 i))
  let regs := ((List.range 48).filter (fun g => s.on (F.DIEMEM_REGION_VALID.at n 0 g))).map (fun g => s.rd (F.DIEMEM_REGION_OWNER.at n 0 g))
  ((cells ++ regs).eraseDups).filter (fun x => decide (x < 1024 ∧ (s.cxState x = 2 ∨ s.cxState x = 3 ∨ s.cxState x = 5)))

/-- Is the reset that BR_RST started still running: GO reads 1 (R10, R543). -/
def State.rstGoing (s : State) : Bool := match s.rstRun with | some k => s.drains.any (fun d => decide (d.kind = k)) | none => false

/-- A reset that BR_RST's GO starts (R10). -/
def State.rstGo (s : State) (k : DrainKind) (cores : List CoreId) : State := { s.rstBegin k cores with rstRun := some k }

/-- BR_RST_GO (R534, R538): the reset that BR_RST names, or its refusal; a write of GO while its reset runs has no effect (R10). -/
def State.brRst (s : State) : State :=
  let b := s.steward
  let n := s.rd (F.BR_RST_SITE.at b)
  let p := s.rd (F.BR_RST_PART.at b)
  if !(s.stwLive 0x21) ∨ s.inReset ∨ s.rstGoing then s
  else
    match s.rd (F.BR_RST_SCOPE.at b) with
    | 0 =>
      let c : CoreId := ⟨n, s.rd (F.BR_RST_SLOT.at b)⟩
      if !(isDie n) ∨ 18 ≤ c.slot ∨ s.dark n ∨ s.bound c ∨ s.resetShut (.core c) then s.rstRefuse else s.rstGo (.core c) [c]
    | 1 =>
      if !(isDie n) ∨ s.dark n ∨ s.resetShut (.cluster n) then s.rstRefuse
      else
        let l := s.dieOwners n
        if l ≠ [] ∧ !(s.on (F.BR_RST_FORCE.at b)) then s.rstRefuse
        else (each l (fun x s => s.ctxReset x false) s).rstGo (.cluster n) (coresOf [n])
    | 2 =>
      if !(s.ptValid p) ∨ s.resetShut (.partition p) then s.rstRefuse
      else
        let l := s.ctxsIn p [1, 2, 3, 4, 5]
        (each l (fun x s => s.ctxReset x false) s).rstGo (.partition p) (coresOf ((s.ptDies p).filter (fun d => !(s.dark d))))
    | _ => s.rstRefuse

/-- PG_CTL.RESET of a CORE_CTL page (R534): a core reset, refused for a bound core. -/
def State.coreCtlReset (s : State) (c : CoreId) : State :=
  if s.dark c.site ∨ s.bound c ∨ s.resetShut (.core c) then s.rstRefuse else s.rstBegin (.core c) [c]

/-- BR_PANEL_RESET (R534, R538, R544): a warm panel reset; a step in progress stops. -/
def State.brPanelReset (s : State) (site : Nat) : State :=
  if ¬ (site = 306 ∨ site = 307) ∨ s.inReset ∨ s.dark site then s
  else if s.brStep < 4 ∨ site ≠ s.steward ∨ s.resetShut .warm ∨ (s.br.failed = 9 ∧ s.rd (F.BR_STAT_RESULT.at site) = 0xB104) then s.brRefuse site
  else
    let back := if 9 ≤ s.brStep then 9 else 4
    let s : State := { (s.wrBr F.BR_STAT_STEP back).wrBr F.BR_STAT_BUSY 1 with br := { s.br with run := 0, auto := false, failed := 0, cold := [] } }
    let l := (List.range 1024).filter (fun x => decide (s.cxState x ≠ 0))
    let s := each l (fun x s => s.ctxReset x true) s
    s.resetStart .warm (coresOf (s.scopeDies .warm))

/-- Does a graft at its commit hold a reset back (R539). -/
def State.graftHolds (s : State) (k : DrainKind) : Bool :=
  decide (s.gfState = 5) && (match k with
    | .cluster n => decide (plotOf n = s.gfP ∨ plotOf n = s.gfQ)
    | .partition p => (s.plotSet p).testBit s.gfP || (s.plotSet p).testBit s.gfQ
    | .warm => true
    | _ => false)

/-- The pages of a scope serve again (R535 step 6). -/
def State.scopeOpen (s : State) (l : List (Nat × List Nat)) : State :=
  each l (fun e s => (each e.2 (fun pg s => s.wr (F.PG_STAT_FENCED.at e.1 pg) 0) s).setReady e.1 e.2 true) s

/-- The record 0xB401 of a reset that is done (R541, R542). -/
def State.resetRec (s : State) (d : Drain) (site unit scope part n : Nat) : State :=
  s.report { code := 0xB401, site := site, unit := unit, sev := 0, info0 := scope + part <<< 3, info1 := n, info2 := (s.time - d.start) % 2 ^ 32 }

/-- The fence tags of the units other than cores advance in a reset of the whole panel, their requests abandoned (R536). -/
def State.drainPanel (s : State) : Nat × State :=
  let n := (s.outst.filter (fun r => decide (18 ≤ r.unit))).length
  let units := (List.range 20).map (· + 288) ++ [320, 321, 322, 323]
  (n, { s with outst := s.outst.filter (fun r => decide (r.unit < 18)), hostReqs := [], crds := [],
               tagNext := each units (fun x t => tset 0 t [x, 64] ((tget 0 t [x, 64] + 1) % 65536)) s.tagNext })

/-- The effects of a warm panel reset (R534). -/
def State.warmEffects (s : State) : State :=
  let s := if s.grafting then (s.graftUndo 2).graftRec 0xB403 0 |>.wr (F.GF_STAT_STATE.at stw) 0 else s
  let s := loopN 64 (fun p s =>
    let s := if s.ptValid p then s.clearPart p else s
    (s.endReplay p).wr (F.RP_STAT_COUNT.at stw 0 p) 0) s
  let s := loopN 4096 (fun q s => if s.on (F.QU_CFG_ENABLE.at stw 0 q) then s.wr (F.QU_CFG_ENABLE.at stw 0 q) 0 else s) s
  let s := each [304, 305] (fun h s => loopN 512 (fun e s => if s.on (F.EQ_CFG_ENABLE.at h 0 e) then s.wr (F.EQ_CFG_ENABLE.at h 0 e) 0 else s) s) s
  let s := loopN 16 (fun i s => loopN 64 (fun ch s => if s.on (F.XC_CFG_ENABLE.at (288 + i) 0 ch) then s.wr (F.XC_CFG_ENABLE.at (288 + i) 0 ch) 0 else s) s) s
  let acl := [F.AC_RD, F.AC_WR, F.AC_FENCE, F.AC_WBASE_MIB, F.AC_WLIMIT_MIB].map (fun f => f.bit)
  let s : State := { s with queues := [], eqs := [], xchans := [], flists := [], arrived := [], lifted := [],
                            fld := tkeep s.fld (fun k => !(decide (k.getD 1 0 = 4 ∧ k.getD 2 0 = F.BK_MC_ENTRY_VALID.bit)) && !(decide (k.getD 1 0 = 0xA) && acl.contains (k.getD 2 0))) }
  let s := each (s.scopeDies .warm) (fun n s => s.clusterResetNow n) s
  let s := each (allStacks.filter (fun n => !(s.dark n))) (fun n s => s.cleanAll (stkOf n)) s
  (s.setReady stw [0x22, 0x23, 0x24] false).graftNext

/-- The effects of a reset after its drain (R534), and its record. -/
def State.resetEffects (s : State) (d : Drain) (n : Nat) : State :=
  let b := s.steward
  match d.kind with
  | .core c => ((s.coreResetNow c).resetRec d c.site c.slot 0 0 n)
  | .cluster x => ((s.clusterResetNow x).resetRec d x 0xFF 1 0 n)
  | .partition p =>
    let s := each ((s.ptDies p).filter (fun x => !(s.dark x))) (fun x s => s.clusterResetNow x) s
    let s := (((s.endReplay p).wr (F.RP_STAT_COUNT.at stw 0 p) 0).disarm p)
    ({ s with arrived := tset [] s.arrived [p] [] } : State).resetRec d b 0xFF 2 p n
  | .warm => (s.warmEffects.resetRec d b 0xFF 3 0 n).wrBr F.BR_STAT_BUSY 0
  | _ => s

/-- RESET_DRAIN_END (R317, R535 steps 4 to 6): the drain at a place of the list ends, unless a smaller one in its scope or a graft's commit comes first; requests unanswered are abandoned, the effects of the reset follow. -/
def State.resetDrainEnd (s : State) (i : Nat) : State :=
  match s.drains[i]? with
  | none => s
  | some d =>
    match d.kind with
    | .replay _ | .cold => s
    | .ctxReset x =>
      let r := ({ s with drains := s.drains.eraseIdx i } : State).drainCores d.cores
      (r.2.drainLate d 2 (s.cxPart x) r.1).ctxResetEnd x false d.cores
    | .ctxTeardown x =>
      let r := ({ s with drains := s.drains.eraseIdx i } : State).drainCores d.cores
      (r.2.drainLate d 2 (s.cxPart x) r.1).ctxResetEnd x true d.cores
    | k =>
      if s.graftHolds k ∨ s.drains.any (fun e => decide (e ≠ d) && s.scopeHolds k e.kind) then s
      else
        let pages := s.scopePages k
        let s : State := { s with drains := s.drains.eraseIdx i }
        let r := s.drainCores d.cores
        let r := if k = .warm then (let q := r.2.drainPanel; (r.1 + q.1, q.2)) else r
        let scope := match k with | .core _ => 0 | .cluster _ => 1 | .partition _ => 2 | _ => 3
        let part := match k with | .partition p => p | _ => 0
        let s := (r.2.drainLate d scope part r.1).resetEffects d r.1
        let s := s.scopeOpen pages
        let s := if (match k with | .warm => true | _ => false) then s else s.wr (F.BR_RST_STAT_BUSY.at s.steward) (bnat (s.drains.any (fun e => match e.kind with | .core _ | .cluster _ | .partition _ => true | _ => false)))
        s.kick.graftGo.holdsAll

/-- STEWARD_LOST_TIMEOUT: the standby steward's 0xB501, in its copy of the log and on its UART (R540). -/
def State.stewardLost (s : State) : State :=
  if !s.sec.running ∨ s.inReset then s
  else
    let b := 613 - s.steward
    let seq := s.rd (F.EL_NEXT_SEQ.at stw)
    let r : Rec := { code := 0xB501, site := b, unit := 0xFF, sev := 3, time := s.now b, seq := seq }
    let s := ((s.wr (F.EL_NEXT_SEQ.at stw) (seq + 1)).logRec r).uartQueue r
    { s with fatal := true }

end Sys2Proof.Machine
end

