-- ==== Sys2Proof/Machine/Pins.lean ====
section
/-! DEFINITION. Connectors and pins (R472 to R489): power and reset, ALERT_N, reference presence, and the JTAG port. -/

namespace Sys2Proof.Machine

/-- Pins changed. -/
def State.onPins (s : State) (f : PinSt → PinSt) : State := { s with pins := f s.pins }

/-- PWR_EN_RISE: with how long PWR_EN has been low, in µs, and whether the input lies within R474, which is what ends a stop of R475 (R482, R483). -/
def State.pwrEnRise (s : State) (lowUs : Nat) (inputOk : Bool) : State :=
  if s.pins.pwrEn then s
  else s.onPins (fun k => { k with pwrEn := true, lock := if k.lock = 1 ∧ ¬ (100000 ≤ lowUs ∧ inputOk) then 1 else 0 })

/-- STANDBY_POWER_GOOD: the standby domain, sites 304 to 317, is powered and PWR_GOOD is released; panel reset holds until PANEL_RST_N rises (R482 steps 3 and 4). -/
def State.standbyGood (s : State) : State :=
  if !s.pins.pwrEn ∨ s.pins.pwrGood ∨ s.pins.lock ≠ 0 then s
  else ({ s with offSites := State.reset.offSites } : State).onPins (fun k => { k with pwrGood := true, held := true })

/-- PWR_EN_FALL: a journal write in progress completes, then every regulator stops (R483). -/
def State.pwrEnFall (s : State) : State :=
  if !s.pins.pwrEn then s
  else
    let s := if s.pins.pwrGood then s.jCommitDone.panelOff 0 else s
    s.onPins (fun k => { k with pwrEn := false })

/-- PANEL_RST_N_RISE: panel reset ends, or is held until a reference input is present (R482 step 5, R483). -/
def State.rstRise (s : State) : State :=
  if s.pins.rstN then s else s.onPins (fun k => { k with rstN := true, held := k.held && !(k.pwrGood && decide (k.refs ≠ 0)) })

/-- PANEL_RST_N_FALL: a cold reset; a commit in progress completes, every site except the repair store is reset and the plot field is powered down (R483, R534, R538). -/
def State.rstFall (s : State) : State :=
  if !s.pins.rstN then s
  else if s.pins.pwrGood then { s.jCommitDone.kept with pins := { s.pins with rstN := false, held := true } }
  else s.onPins (fun k => { k with rstN := false })

/-- INPUT_UNDERVOLTAGE and INPUT_OVERVOLTAGE: every regulator stops until PWR_EN has been low for 100 ms and the input is within limits again (R475). -/
def State.inputLost (s : State) : State := if s.pins.pwrGood then s.panelOff 1 else s.onPins (fun k => { k with lock := 1 })

/-- REF_INPUT_LOST with the pin that it is seen at (R412, R483). -/
def State.refPinLost (s : State) (input : Nat) : State := (s.refLost input).onPins (fun k => { k with refs := clrBit k.refs (input % 2) })

/-- REF_INPUT_RETURN: the input is present, and a panel reset held for want of one ends (R483). -/
def State.refPinBack (s : State) (input : Nat) : State :=
  let s := if s.pins.pwrGood then s.refBack input else s
  s.onPins (fun k => { k with refs := setBit (k.refs % 4) (input % 2), held := k.held && !(k.rstN && k.pwrGood) })

/-- Is ALERT_N driven low (R484): the flow is not OK, a site is CRITICAL or GATED, or a FATAL record has been produced; never before steward firmware runs. -/
def State.alert (s : State) : Bool :=
  s.sec.running && (decide (s.flowState ≠ 0) || s.fatal || allSites.any (fun n => hasTherm n && decide (2 ≤ s.rd (F.TH_STAT_STATE.at n))))

/-- A die in the JTAG chain whose TAP is not held (R487). -/
def State.tapFree (s : State) (n : Nat) : Bool := decide (288 ≤ n ∧ n ≤ 317) && s.pins.trstN && s.pins.pwrGood

/-- A die's JTAG instruction taken, with the value of its data register as it is captured (R487). -/
def State.jtagLoad (s : State) (n instr value : Nat) : State :=
  (s.onPins (fun k => { k with ir := tset 0 k.ir [n] instr })).send (.jtag n instr value)

/-- The identification code of a rind die (R487). -/
def idcode (n : Nat) : Nat := 1 + Config.jep106.toNat <<< 1 + (0x4C00 ||| partCode (partOf n)) <<< 12 + 1 <<< 28

/-- TRST_N driven low, which holds every TAP in Test-Logic-Reset, or released (R487). -/
def State.trst (s : State) (low : Bool) : State := s.onPins (fun k => { k with trstN := !low, ir := if low then [] else k.ir })

/-- BYPASS: the one-bit bypass register, which captures 0 (R487; IEEE 1149.1, log 4). -/
def State.jtagBypass (s : State) (n : Nat) : State := if s.tapFree n then s.jtagLoad n 1 0 else s

/-- IDCODE (R487). -/
def State.jtagIdcode (s : State) (n : Nat) : State := if s.tapFree n then s.jtagLoad n 0 (idcode n) else s

/-- SAMPLE/PRELOAD: the levels of the die's pins sampled, and the boundary register preloaded (R487). -/
def State.jtagSample (s : State) (n levels preload : Nat) : State :=
  if s.tapFree n then (s.jtagLoad n 2 levels).onPins (fun k => { k with bsr := tset 0 k.bsr [n] preload }) else s

/-- EXTEST: the pins take the boundary register's value, and the next value is shifted in (R487). -/
def State.jtagExtest (s : State) (n next : Nat) : State :=
  if s.tapFree n then (s.jtagLoad n 3 (tget 0 s.pins.bsr [n])).onPins (fun k => { k with bsr := tset 0 k.bsr [n] next }) else s

end Sys2Proof.Machine
end

