-- ==== Sys2Proof/Machine/Responses.lean ====
section
/-! DEFINITION. Responses of the bulk network at their requesters, requests that are given up (R254, R256), and the memory agents through which the stewards reach panel memory (R268). -/

namespace Sys2Proof.Machine

/-- The answer of a memory agent to a steward: STATUS and, for a read, its words (R268). -/
def mrspMsg (site dest tag status : Nat) (words : List Nat) : CtlMsg :=
  { type := 0xB, dest := dest, src := site, tag := tag, words := (status % 65536) :: words }

/-- What an agent keeps of a request: the steward and tag it answers, the byte of the sector and the words asked for. -/
def agentRef (m : CtlMsg) (byte n : Nat) : Nat := ((m.src * 64 + m.tag % 64) * 64 + byte) * 8 + n

/-- A bulk response to a memory agent's request (R268). -/
def State.agentAnswer (s : State) (r : Req) (status : Nat) (data : List Byte) : State :=
  let n := r.ref % 8
  let byte := r.ref / 8 % 64
  let words := if status = 0 ∧ r.pkt.type = 1 then (pieces 4 n ((data.drop byte).take (4 * n))).map leNat else []
  s.send (.ctl (mrspMsg r.site (r.ref / 32768) (r.ref / 512 % 64) status words))

/-- A response to a request of any unit, by what the request was for. -/
def State.answerReq (s : State) (r : Req) (status : Nat) (data : List Byte) : State :=
  match r.why with
  | 1 => s.fetchAnswer r status data
  | 2 => s.accumAnswer r status
  | 3 => s.mcastLate r status
  | 4 => s.agentAnswer r status data
  | 5 | 6 => s.hostBulkAnswer r status data
  | _ => s

/-- The data of a response: inline when it has no data flits (R241). -/
def rspData (p : Pkt) : List Byte := if p.len = 0 then p.inl else p.data

/-- A response of a TYPE reaches its requester: matched by TAG and fence tag, or discarded (R242, R254, R256); a guest's is passed on to the guest (R376). -/
def State.response (s : State) (site type : Nat) (p : Pkt) : State :=
  s.arrive site type 1 p (fun s =>
    match s.matchReq p with
    | none => s
    | some r =>
      if rspType r.pkt.type ≠ type then s
      else if r.why = 7 then ((s.dropReq r).accDone r).guestResponse site p
      else (s.answered r).answerReq r p.status (rspData p))

/-- READ_RSP (R254). -/
def State.readRsp (s : State) (site : Nat) (p : Pkt) : State := s.response site 8 p

/-- WRITE_ACK (R123). -/
def State.writeAck (s : State) (site : Nat) (p : Pkt) : State := s.response site 9 p

/-- ACCUM_ACK (R257). -/
def State.accumAck (s : State) (site : Nat) (p : Pkt) : State := s.response site 0xA p

/-- RSP_TIMEOUT (R254, R274): the request of a unit with a tag is re-issued with a new TAG if it reads and has re-issues left, else given up with 0x3101; a guest's own timer is the guest's. -/
def State.rspTimeout (s : State) (site unit tag : Nat) : State :=
  match s.outst.find? (fun r => decide (r.site = site ∧ r.unit = unit ∧ r.pkt.tag = tag)) with
  | none => s
  | some r =>
    if r.why = 7 then (s.dropReq r).accDone r
    else if (r.pkt.type = 1 ∨ r.pkt.type = 4) ∧ r.tries < s.rd (F.BK_CFG_READ_RETRIES.at site) then
      (s.dropReq r).request r.pkt r.why r.ref (r.tries + 1)
    else ((s.dropReq r).netRecord r 0x3101 1).answerReq r 0x3101 []

/-- The panel address of an MRD or MWR (R268). -/
def agentAddr (m : CtlMsg) : Nat := m.words.headD 0 + (m.words.getD 1 0 % 65536) <<< 32

/-- The words it names. -/
def agentWords (m : CtlMsg) : Nat := bits (m.words.getD 1 0) 18 16

/-- Messages of a steward that an agent holds outstanding. -/
def State.agentHeld (s : State) (site src : Nat) : Nat :=
  (s.outst.filter (fun r => decide (r.site = site ∧ r.why = 4 ∧ r.ref / 32768 = src))).length

/-- An MRD or MWR reaches a memory agent (R268): 16 of a steward outstanding, refused where it crosses a sector or names no word or its address is not mapped, else a bulk request with the steward's master ID. The steward's own accesses are made where they are decided (log 25), so the message is the command's. -/
def State.agentTake (s : State) (type : Nat) (m : CtlMsg) : State :=
  if m.type ≠ type ∨ ¬ (m.dest = 304 ∨ m.dest = 305) ∨ ¬ (m.src = 306 ∨ m.src = 307) ∨
      16 ≤ s.agentHeld m.dest m.src then s
  else
    let s := s.takeCtl (.ctl m) m.src m.dest
    let n := agentWords m
    let addr := agentAddr m - agentAddr m % 4
    let refuse (s : State) (code : Nat) : State := s.send (.ctl (mrspMsg m.dest m.src m.tag code []))
    if n = 0 ∨ addr % 64 + 4 * n > 64 ∨ (type = 0xA ∧ 6 < n) then refuse s 0x2202
    else
      let q : Asker := { master := 782 + m.src, site := m.dest, slot := 0x1F, type := if type = 9 then 1 else 3, op := if type = 9 then 0 else 9 }
      match s.xlate m.dest addr with
      | .error cause => refuse (s.badAddr q addr cause) 0x2202
      | .ok (p, off) =>
        if !(s.routed m.dest (4 * p + 2)) then refuse (s.noRoute q addr (4 * p + 2)) 0x3103
        else
          let byte := off % 64
          let base : Pkt := { type := q.type, dest := 4 * p + 2, src := m.dest, master := q.master, addr := stkAddr p (off - byte), len := 1 }
          let bytes := (m.words.drop 2).flatMap (fun w => natLe w 4)
          let pkt : Pkt := if type = 9 then base else
            { base with bmask := (2 ^ (4 * n) - 1) <<< byte,
                        data := (List.replicate byte (0 : Byte) ++ (bytes ++ List.replicate 28 0).take (4 * n) ++ List.replicate 64 0).take 64 }
          s.request pkt 4 (agentRef m byte n) 0

/-- MRD (R268). -/
def State.mrd (s : State) (m : CtlMsg) : State := s.agentTake 9 m

/-- MWR (R268). -/
def State.mwr (s : State) (m : CtlMsg) : State := s.agentTake 0xA m

/-- MRSP reaches the steward (R268). -/
def State.mrsp (s : State) (m : CtlMsg) : State :=
  if s.msgs.contains (.ctl m) ∧ m.type = 0xB then s.takeCtl (.ctl m) m.src m.dest else s

end Sys2Proof.Machine
end

