-- ==== Sys2Proof/Machine/Flags.lean ====
section
/-! DEFINITION. Status fields that are worked out from the rest of the state when they are read: busy and quiesced flags, sequencer, vector and waiter status, link and pool status, the error log's window, the orchard's history. -/

namespace Sys2Proof.Machine

/-- The far end of a bulk port (R237, R276, R381; LOCAL joins the node's own die): none where the port does not exist. -/
def portEnd (n port : Nat) : Option Nat :=
  if port = 7 then none
  else if isNode n then (if port = 4 then some n else portPeer n port)
  else (attachNodes n)[port]?

/-- BK_PORT_STAT.UP (R275). -/
def State.portLive (s : State) (n port : Nat) : Bool :=
  if isNode n ∧ port = 4 then !(s.dark n)
  else
    match portEnd n port with
    | none => false
    | some q =>
      if 320 ≤ n then decide (s.rd (F.GU_STAT_STATE.at n) = 6)
      else if 320 ≤ q then decide (s.rd (F.GU_STAT_STATE.at q) = 6)
      else decide (s.linkState n port = 2)

/-- BK_POOL.FREE: pool credits held toward a port whose link is up (R245, R246, R275): of the buffer of 512 flits of LOCAL and of 128 of a guest port all but the 32 reserved, and toward a guest its RXBUF but the 4 credits of each VC (R375), since no flit stays in them between commands. -/
def State.poolFree (s : State) (n port : Nat) : Nat :=
  if !(s.portLive n port) then 0
  else if (linkInfo n port).isSome then poolSize n port - (s.linkEnd n port).pool.length
  else if isNode n ∧ port = 4 then 480
  else if 320 ≤ n then 96
  else s.rd (F.GU_CAP_RXBUF.at ((portEnd n port).getD 0)) - 16

/-- Is work in flight in the block of a page: PG_STAT.BUSY (R40; DESIGN CHOICE, log 48: what counts as work is the block's own status). -/
def State.pageBusy (s : State) (n page : Nat) : Bool :=
  match blockOf n page with
  | some .coreCtl | some .coreSeq =>
    let st := s.coreState ⟨n, (page - 0x40) / 4⟩
    decide (st = 2 ∨ st = 3 ∨ st = 6)
  | some .coreVec => (s.core ⟨n, (page - 0x40) / 4⟩).vx.active
  | some .coreBuf => s.on (F.CB_STAT_ZEROING.at n (4 * ((page - 0x40) / 4))) || s.on (F.CB_STAT_FILLING.at n (4 * ((page - 0x40) / 4)))
  | some .diemem => s.on (F.DIEMEM_STAT_SCRUBBING.at n)
  | some .sync => s.on (F.SY_STAT_CMD_BUSY.at n)
  | some .stkCache => s.on (F.SC_STAT_FLUSHING.at n)
  | some .stkPref => decide (s.rd (F.PF_ACTIVE.at n) ≠ 0)
  | some .stkNme => s.on (F.NM_STAT_DG_BUSY.at n) || s.on (F.NM_STAT_MG_ACTIVE.at n)
  | some .mesoax => decide (s.linkState n (page - 0x10) = 1)
  | some .bulk => s.outst.any (fun r => r.site == n)
  | some .clk => s.on (F.CK_STAT_CHANGING.at n)
  | some .epoch => s.epochBusy
  | some .bringup => s.brBusy
  | some .orchard => s.on (F.OR_STAT_COMMITTING.at stw)
  | some .errlog => s.on (F.LR_CMD_GO.at stw) || s.grafting
  | _ => false

/-- The record of the error log that EL_RSEL selects, if the log holds it (R516). -/
def State.logged (s : State) : List Byte :=
  match s.elog.find? (fun r => decide (r.seq = s.rd (F.EL_RSEL_SEQ.at stw))) with
  | some r => recBytes r
  | none => []

/-- SQ_STAT (R146). -/
def State.sqStat (s : State) (c : CoreId) (f : Fld) : Nat :=
  let k := s.core c
  if f = F.SQ_STAT_INFLIGHT then k.window.length
  else if f = F.SQ_STAT_LOOPD then k.loops.length
  else if f = F.SQ_STAT_CALLD then k.calls.length
  else if f = F.SQ_STAT_ISSUE_WAIT then bnat (decide (s.coreState c = 3) && (match k.held with | some h => decide (h.op = 0x11) | none => k.cand.isSome))
  else bnat (match k.held with | some h => decide (h.op = 0x03) | none => false)

/-- VX_STAT and VX_POS (R175). -/
def State.vxStat (s : State) (c : CoreId) (f : Fld) : Nat :=
  let v := (s.core c).vx
  if f = F.VX_STAT_SECTION then (if v.active then v.section_ else 3)
  else if !v.active then 0
  else if f = F.VX_STAT_ACTIVE then 1
  else if f = F.VX_STAT_RERUN then bnat (v.rerun ≠ [])
  else if f = F.VX_STAT_PASS then v.pass
  else if f = F.VX_STAT_REDUCE then bnat (isRed v.desc)
  else if f = F.VX_STAT_PC then v.pc
  else if f = F.VX_POS_BAND then v.band
  else v.col

/-- The waiter that SY_WSEL selects, in registration order (R298). -/
def State.selWaiter (s : State) (n : Nat) : Option Waiter := (s.cellWaiters n (s.sySel n))[s.rd (F.SY_WSEL_INDEX.at n)]?

/-- SY_WCOUNT, SY_WAITER, SY_WTHRESH and POOL_FREE (R279, R298). -/
def State.syStat (s : State) (n : Nat) (f : Fld) : Nat :=
  if f = F.SY_WCOUNT_COUNT then (s.cellWaiters n (s.sySel n)).length
  else if f = F.SY_STAT_POOL_FREE then 4096 - s.poolUsed n
  else
    match s.selWaiter n with
    | none => 0
    | some w =>
      if f = F.SY_WAITER_SITE then w.site
      else if f = F.SY_WAITER_SLOT then w.slot
      else if f = F.SY_WAITER_KIND then bnat w.barrier
      else if f = F.SY_WAITER_CONS then bnat w.cons
      else if f = F.SY_WAITER_POOL then bnat w.pool
      else w.thresh

/-- SC_DIRTY.LINES: lines with a dirty sector (R232). -/
def State.dirtyLines (s : State) (n : Nat) : Nat :=
  (s.cache.filter (fun e => decide (e.1.headD 0 = stkOf n ∧ e.2.dirty ≠ 0))).length

/-- CH_SPARE.USED: most spare rows mapped in any one bank (R232, R528). -/
def State.spareUsed (s : State) (n ch : Nat) : Nat :=
  (List.range 32).foldl (fun m b => max m ((List.range 8).filter (fun r => decide (s.mapNat (rowEntry (stkOf n) ch b r) 2 ≠ 0xFFFF))).length) 0

/-- PG_HEALTH of a page (R40, R504): a core's on its CORE_CTL page, a link's the highest of its bundles, any other page its site's. -/
def State.pageHealth (s : State) (n page : Nat) : Nat × Nat :=
  match blockOf n page with
  | some .coreCtl | some .coreSeq | some .coreVec | some .coreBuf =>
    let u := HUnit.core ⟨n, (page - 0x40) / 4⟩
    (s.rd u.score, s.rd u.state)
  | some .mesoax =>
    (List.range (linkBundles n (page - 0x10))).foldl (fun m b =>
      let u := HUnit.bundle n page b
      (max m.1 (s.rd u.score), max m.2 (s.rd u.state))) (0, 0)
  | _ => (s.rd (HUnit.site n).score, s.rd (HUnit.site n).state)

/-- A sensor's last reading as TH_TEMP shows it (R464, R470): 0 before the first; a sensor that does not exist reads a free value. -/
def State.thTemp (s : State) (n : Nat) : Nat :=
  let k := s.rd (F.TH_SEL_SENSOR.at n)
  if k < sensorCount n then (s.thermal n).temps.getD k 0 else (Config.freeWord s.nonce).toNat

/-- The value of a field that is worked out when it is read; `i` is its entry. None: the field is kept as it reads. -/
def State.computed (s : State) (n page : Nat) (b : Blk) (f : Fld) (i : Nat) : Option Nat :=
  let c : CoreId := ⟨n, (page - 0x40) / 4⟩
  match b with
  | .coreCtl => if f = F.CORE_CTL_STEP then some (bnat (decide ((s.core c).stopReq = .one ∨ (s.core c).stopReq = .halt))) else none
  | .coreSeq => if f.bit / 32 = F.SQ_STAT_INFLIGHT.bit / 32 then some (s.sqStat c f) else none
  | .coreVec => if 0x820 ≤ f.bit ∧ f.bit < 0x860 then some (s.vxStat c f) else none
  | .sync =>
    if f = F.SY_WCOUNT_COUNT ∨ f = F.SY_STAT_POOL_FREE ∨ f = F.SY_WTHRESH_VALUE ∨ f.bit / 32 = F.SY_WAITER_SITE.bit / 32 then some (s.syStat n f) else none
  | .stkCache =>
    if f = F.SC_DIRTY_LINES then some (s.dirtyLines n)
    else if f = F.SC_CTL_FLUSH then some (bnat (decide ((s.stk (stkOf n)).flushOp = 1)))
    else if f = F.SC_CTL_INVAL then some (bnat (decide ((s.stk (stkOf n)).flushOp = 2)))
    else none
  | .stkNme =>
    if f = F.DG_CTL_GO then some (s.rd (F.NM_STAT_DG_BUSY.at n)) else if f = F.MG_CTL_START then some (s.rd (F.NM_STAT_MG_ACTIVE.at n)) else none
  | .mesoax => if f = F.ML_CTL_RETRAIN then some (bnat (decide (s.linkState n (page - 0x10) = 1))) else none
  | .guest => if f = F.GU_CTL_RETRAIN then some (bnat (decide (s.guState n = 7))) else none
  | .stkChan =>
    if f = F.CH_STATE_HOT then some (s.rd (F.SC_STAT_HOT.at n)) else if f = F.CH_SPARE_USED then some (s.spareUsed n (page - 0x40)) else none
  | .bulk =>
    if f = F.BK_PORT_STAT_PEER then some (if s.portLive n i then (portEnd n i).getD 0x1FF else 0x1FF)
    else if f = F.BK_PORT_STAT_UP then some (bnat (s.portLive n i))
    else if f = F.BK_PORT_STAT_WIDTH then some (if (linkInfo n i).isSome then s.rd (F.ML_STAT_ACTIVE.at n i) else 0)
    else if f = F.BK_POOL_FREE then some (s.poolFree n i)
    else if f = F.BK_EA_HELD_COUNT then some (min (2 ^ 32 - 1) (s.rd (F.BK_EA_HELD_COUNT.at n 0 i) + s.eaWaited n i))
    else none
  | .ctrlnet =>
    if f = F.CN_STAT_UPQ then some (s.upQueued n) else none
  | .queue =>
    if f = F.QU_RING ∧ s.rd (F.QU_CFG_LOC.at stw 0 i) = 0 then some (s.rd (F.QU_RING.at stw 0 i) % 2 ^ 36)
    else if f = F.QU_STAT_FULL then
      some (bnat (decide ((s.rd (F.QU_TAIL_TAIL.at stw 0 i) + 2 ^ 32 - s.rd (F.QU_HEAD_HEAD.at stw 0 i)) % 2 ^ 32 = 2 ^ s.rd (F.QU_CFG_LOG2SIZE.at stw 0 i))))
    else none
  | .cxlp => if f = F.CP_CACHE_OUT then some (s.crds.filter (fun e => hostSite e.1 == n)).length else none
  | .clk =>
    if f = F.CK_TIME then some (s.now n)
    else if f = F.CK_EP_CTL_ROLLBACK then some (bnat (decide (s.rd (F.CK_EP_STAT_STATE.at n) = 5)))
    else if isDie n then none
    else if f = F.CK_STAT_STEP then some 0xF
    else if f.bit / 32 = F.CK_CEIL_POWER.bit / 32 ∨ f.bit / 32 = F.CK_DROOP_SLOT.bit / 32 ∨ f = F.CK_STRETCH_COUNT ∨ f = F.CK_GATE_COUNT then some 0
    else none
  | .pwr =>
    if f = F.PW_STAT_TOKENS then some (s.tokens n)
    else if f = F.PW_STAT_QUEUED then some (s.admq.filter (fun e => e.site == n)).length
    else if isDie n then (if f = F.PW_STAT_THROT then some 0 else none)
    else if f.bit / 32 = F.PW_ADM_LIMIT.bit / 32 ∨ f.bit / 32 = F.PW_CFG_OFF_DLY.bit / 32 ∨ f = F.PW_ADMWAIT_COUNT then some 0
    else none
  | .pwrRg => if f = F.RG_CRACK_PAIRS ∧ ¬ (n = 310 ∨ n = 311 ∨ n = 314 ∨ n = 315) then some 0 else none
  | .therm => if f = F.TH_TEMP_TEMP then some (s.thTemp n) else none
  | .errlog =>
    if f = F.EL_STAT_COUNT then some s.elog.length
    else if f = F.EL_OLDEST_SEQ then some ((s.elog.head?.map (fun r => r.seq)).getD (s.rd (F.EL_NEXT_SEQ.at stw)))
    else if 0x110 ≤ f.bit / 8 ∧ f.bit / 8 < 0x130 then some (leNat ((s.logged.drop (f.bit / 8 - 0x110)).take 4))
    else none
  | .bringup =>
    if f = F.BR_INSERVICE_CORES then some s.brInService.1
    else if f = F.BR_INSERVICE_PLOTS then some s.brInService.2.1
    else if f = F.BR_INSERVICE_STACKS then some s.brInService.2.2
    else if f = F.BR_RST_GO then some (bnat s.rstGoing)
    else none
  | .orchard =>
    let e := siteEntry (s.rd (F.OR_SEL_SITE.at stw))
    if f = F.OR_HIST_STARTS then some (if s.rd (F.OR_SEL_SITE.at stw) < 324 then s.mapNat (e + 12) 2 else 0)
    else if f = F.OR_HIST_LASTTEST then some (if s.rd (F.OR_SEL_SITE.at stw) < 324 then s.mapNat (e + 14) 2 else 0)
    else if f = F.OR_CMD_COMMIT then some (bnat (decide (s.jopen ≠ [])))
    else if f = F.OR_CMD_COMPACT then some (bnat s.jimg.isSome)
    else none
  | .sec => if f = F.SEC_MDATA_DATA then some s.secMdata else none
  | .hdr =>
    if f = F.PG_STAT_BUSY then some (bnat (s.pageBusy n page))
    else if f = F.PG_STAT_QUIESCED then some (bnat (s.on (F.PG_CTL_QUIESCE.at n page) && !(s.pageBusy n page)))
    else if f = F.PG_HEALTH_SCORE then some (s.pageHealth n page).1
    else if f = F.PG_HEALTH_STATE then some (s.pageHealth n page).2
    else none
  | _ => none

end Sys2Proof.Machine
end

