-- ==== Sys2Proof/Machine/RegRead.lean ====
section
/-! DEFINITION. Register accesses (R7, R10, R27, R33 to R40): which page answers, the access checks (R39, R327 to R331), what a field reads, and what a write stores, sets, clears, starts or discards, page by page. -/

namespace Sys2Proof.Machine

/-- Counters that PG_CTL.RESET of their page clears; a stack's clear only at its power-up (R235) (R278, R362, R382, R432, R457, R471, R518, R546). -/
def counterFlds : List Fld :=
  [F.DIEMEM_RECOV_COUNT, F.DIEMEM_LOST_COUNT, F.BK_TX, F.BK_EA_HELD_COUNT, F.BK_CRC_DROP_COUNT, F.BK_TIMEOUTS_COUNT, F.BK_MC_DROPS_COUNT] ++
  [F.CN_MSG, F.CN_WAIT_MAX_NS, F.CN_LINKFIX_COUNT, F.SN_MSG, F.SN_LINKFIX_COUNT, F.SN_QMAX_DEPTH, F.SY_NOROOM_COUNT, F.SY_SATCNT_COUNT, F.QU_STARTS_COUNT] ++
  [F.AC_DENY_COUNT, F.CP_UNALIGNED_COUNT, F.CP_REFUSED_COUNT, F.CP_POISON_COUNT, F.CP_TIMEOUT_COUNT, F.PS_UNMAPPED_COUNT, F.EQ_DROP_COUNT, F.ML_NAK_COUNT, F.ML_REPLAY_COUNT] ++
  [F.ML_RETRAINS_COUNT, F.GU_ADAPT_RETRY_COUNT, F.GU_DISCARD_COUNT, F.GU_RETRAINS_COUNT, F.ET_FEC_CORR_COUNT, F.ET_FEC_UNCORR_COUNT, F.ET_RX_DROP_COUNT, F.ET_CE_COUNT, F.GR_EVICT_COUNT] ++
  [F.GR_MISSDROP_COUNT, F.GR_RETX_COUNT, F.GR_SHDROP_COUNT, F.EC_UPDATES_COUNT, F.CK_STEPS_COUNT, F.CK_STRETCH_COUNT, F.CK_GATE_COUNT, F.RC_SWITCHES_COUNT, F.PW_CAPHIT_COUNT] ++
  [F.PW_ADMWAIT_COUNT, F.RG_TRIPS_COUNT, F.PP_OVER_COUNT, F.TH_THROTTLES_COUNT, F.TH_GATES_COUNT, F.TP_LOSSES_COUNT, F.EL_DROPPED_COUNT, F.EL_OVERWRITTEN_COUNT, F.RP_TOTAL_COUNT] ++
  [F.OR_DROPPED_COUNT]

/-- Fields that keep what an event or a command that is over has left: the result of a command, the last refusal, the last signaller, the last wire test, a step's duration. PG_CTL.RESET of their page returns them to their reset values (R40). -/
def recordFlds : List Fld :=
  [F.SY_LAST_SITE, F.SY_LAST_SLOT, F.SY_LAST_TIME, F.CX_CMD_STAT_RESULT, F.PT_STEP_STEP, F.AC_LAST_MASTER, F.AC_LAST_WINDOW, F.AC_LAST_TABLE, F.AC_LAST_WRITE, F.AC_LAST_FENCED] ++
  [F.ML_FAILW_DATA, F.ML_FAILX_FRAME, F.ML_FAILX_CLOCK, F.ML_FAILX_PIPS, F.EP_STAT_RESULT, F.EP_FIRST_SITE, F.PP_STAT_RESULT, F.RP_CMD_RESULT, F.RP_STEP_STEP, F.LR_CMD_RESULT] ++
  [F.GF_RESULT_CODE, F.BR_STAT_RESULT, F.BR_RST_STAT_RESULT, F.BR_TMS_MS, F.SEC_RESULT_CODE, F.RC_PPS]

/-- Fields of a word of a page: its header's or its block's (R40). -/
def wordFlds (b : Blk) (off : Nat) : List Fld :=
  (if off < 0x100 then flds_hdr else blockFlds b).filter (fun f => decide (f.bit < 8 * off + 32 ∧ 8 * off < f.bit + f.width))

/-- The site under whose number a page's registers are kept: the active steward's pages 0x21 to 0x25, and its block registers of pages 0x02 and 0x03, are kept once (R38). -/
def homeOf (n page off : Nat) : Nat :=
  if (n = 306 ∨ n = 307) ∧ ((0x21 ≤ page ∧ page ≤ 0x25) ∨ ((page = 2 ∨ page = 3) ∧ 0x100 ≤ off)) then stw else n

/-- The copy of a table entry that a word of a page addresses: the view and the entry its selector registers name, the port, group, cell, context, partition, queue, channel, sensor, step or bundle selected; 0 for a register that is there once. -/
def State.entryOf (s : State) (n page : Nat) (b : Blk) (off : Nat) : Nat :=
  match b with
  | .addrmap =>
    let e := 64 * s.viewCopy n 0 (s.rd (F.AM_SEL_VIEW.at n)) + s.rd (F.AM_SEL_SET.at n)
    if off < 0x104 then 0 else if off = 0x114 then 64 * e + s.rd (F.AM_SEL_ENTRY.at n) else e
  | .diemem => if off = 0x104 then s.rd (F.DIEMEM_SEL_REGION.at n) else 0
  | .bulk =>
    if off = 0x11C then 512 * s.viewCopy n 1 (s.rd (F.BK_RT_SEL_VIEW.at n)) + s.rd (F.BK_RT_SEL_SITE.at n)
    else if off = 0x124 ∨ off = 0x128 ∨ off = 0x12C ∨ off = 0x148 then
      4096 * s.viewCopy n 2 (s.rd (F.BK_MC_SEL_VIEW.at n)) + s.rd (F.BK_MC_SEL_GROUP.at n)
    else if (0x108 ≤ off ∧ off ≤ 0x114) ∨ off = 0x130 ∨ off = 0x134 then s.rd (F.BK_PORT_SEL_PORT.at n)
    else 0
  | .syncnet => if off = 0x104 then 512 * s.viewCopy n 3 (s.rd (F.SN_RT_SEL_VIEW.at n)) + s.rd (F.SN_RT_SEL_SITE.at n) else 0
  | .sync => if 0x104 ≤ off ∧ off ≤ 0x120 ∧ off ≠ 0x10C then s.sySel n else 0
  | .ctx => if 0x104 ≤ off ∧ off ≤ 0x144 then s.cxSel else if 0x164 ≤ off ∧ off ≤ 0x180 then s.ptSel else 0
  | .queue => if 0x104 ≤ off ∧ off ≤ 0x128 then s.rd (F.QU_SEL_QUEUE.at stw) else 0
  | .acl =>
    if 0x104 ≤ off ∧ off ≤ 0x110 then aclIdx (s.rd (F.AC_SEL_MASTER.at n)) (s.rd (F.AC_SEL_TABLE.at n))
    else if off = 0x114 ∨ off = 0x118 then 4096 * s.rd (F.AC_SEL_TABLE.at n)
    else if off = 0x120 ∨ off = 0x124 then s.rd (F.AC_WSEL_WINDOW.at n)
    else 0
  | .pasid => if off = 0x104 then s.rd (F.PS_SEL_ENTRY.at n) else 0
  | .msix => if 0x104 ≤ off ∧ off ≤ 0x11C then s.rd (F.EQ_SEL_EQ.at n) else 0
  | .mesoax =>
    let k := s.rd (F.ML_SEL_BUNDLE.at n (page - 0x10))
    if off = 0x114 then k else if 0x118 ≤ off ∧ off ≤ 0x120 then 8 * k + s.rd (F.ML_SEL_SUB.at n (page - 0x10)) else 0
  | .grove => if 0x184 ≤ off ∧ off ≤ 0x1A0 then s.rd (F.XC_SEL_CHAN.at n) else 0
  | .erasure => if 0x104 ≤ off then s.rd (F.EC_SEL_GROUP.at n) else 0
  | .clk => if off = 0x104 then s.activeCopy n 4 else if off = 0x124 ∨ off = 0x128 then s.rd (F.CK_DROOP_SLOT.at n) else 0
  | .pwrRg => if 0x104 ≤ off ∧ off ≤ 0x10C then s.rd (F.RG_SEL_GROUP.at n) else 0
  | .pwrPp => if off = 0x124 then s.rd (F.PP_SEL_PART.at stw) else 0
  | .errlog =>
    if 0x148 ≤ off ∧ off ≤ 0x158 then s.rd (F.RP_SEL_PART.at stw)
    else if off = 0x164 ∨ off = 0x168 then s.rd (F.RA_SEL_CTX.at stw)
    else 0
  | .bringup => if off = 0x128 then s.rd (F.BR_TSEL_STEP.at n) else 0
  | _ => 0

/-- The place of a field of a page. CK_CFG holds MINSTEP and DWELL once, and MAXSTEP in two tables (R428). -/
def State.fieldLoc (s : State) (n page : Nat) (b : Blk) (off : Nat) (f : Fld) : Loc :=
  let i := if f = F.CK_CFG_MINSTEP ∨ f = F.CK_CFG_DWELL then 0 else s.entryOf n page b off
  f.at (homeOf n page off) (page - f.page) i

/-- Does a register exist at what its selectors name (R37, R276, R331, R339, R381, R397, R455, R458, R470): if not it reads zero and discards writes. -/
def State.regThere (s : State) (n page : Nat) (b : Blk) (off : Nat) : Bool :=
  if off < 0x100 then !(bareP2 n page) || decide (off = 0 ∨ off = 4 ∨ off = 0xC)
  else if bareP2 n page then false
  else
    match b with
    | .diemem => decide (off ≠ 0x104 ∨ s.rd (F.DIEMEM_SEL_REGION.at n) < 48)
    | .bulk =>
      let port := s.rd (F.BK_PORT_SEL_PORT.at n)
      if off = 0x108 then true
      else if 0x10C ≤ off ∧ off ≤ 0x114 then (portEnd n port).isSome
      else if off = 0x130 ∨ off = 0x134 then (portEnd n port).isSome && decide (off = 0x134 ∨ (isNode n ∧ (port = 5 ∨ port = 6)))
      else true
    | .acl =>
      let t := s.rd (F.AC_SEL_TABLE.at n)
      if 0x104 ≤ off ∧ off ≤ 0x110 then (s.acSel n).isSome
      else if off = 0x114 ∨ off = 0x118 then decide (t = 0) || hasRes n
      else if 0x11C ≤ off ∧ off ≤ 0x124 then isStack n
      else true
    | .mesoax => decide (off = 0x100) || (linkInfo n (page - 0x10)).isSome
    | .grove =>
      if (0x130 ≤ off ∧ off ≤ 0x140) ∨ (0x1C0 ≤ off ∧ off ≤ 0x1D0) then decide (n = s.ctlIo) else true
    | _ => true

/-- Does a field exist on a site's part: what R430, R455 and R470 give to other parts reads zero there. -/
def fieldThere (n : Nat) (f : Fld) : Bool :=
  if f = F.TH_LIM_THROT then decide ((thermLimits n).2.1 ≠ 0)
  else if f = F.TH_LIM_CRIT then decide ((thermLimits n).2.2 ≠ 0)
  else if f = F.TH_CTL_SHED ∨ f = F.TH_STAT_SHED then isDie n || isStack n
  else true

/-- The bits of a word that a field of value `v` fills (R7). -/
def partOfWord (off : Nat) (f : Fld) (v : Nat) : Nat :=
  if 8 * off ≤ f.bit then (v <<< (f.bit - 8 * off)) % 2 ^ 32 else (v >>> (8 * off - f.bit)) % 2 ^ 32

/-- A field's value after a word is stored over it (R7, R10 RW). -/
def wordInto (off : Nat) (f : Fld) (old w : Nat) : Nat :=
  if 8 * off ≤ f.bit then
    let n := min f.width (8 * off + 32 - f.bit)
    old - old % 2 ^ n + (w >>> (f.bit - 8 * off)) % 2 ^ n
  else
    let k := 8 * off - f.bit
    let n := min 32 (f.width - k)
    old % 2 ^ k + (w % 2 ^ n) <<< k + (old >>> (k + n)) <<< (k + n)

/-- What a field reads (R10): a write-only field zero, an SC field 1 while its action runs. -/
def State.fieldRead (s : State) (n page : Nat) (b : Blk) (off : Nat) (f : Fld) : Nat :=
  if !(fieldThere n f) ∨ f.acc = .wo then 0
  else
    match s.computed n page (if off < 0x100 then .hdr else b) f (s.entryOf n page b off) with
    | some v => v
    | none => s.rd (s.fieldLoc n page b off f)

/-- A word of a page as it stands. -/
def State.wordAt (s : State) (n page : Nat) (b : Blk) (off : Nat) : Nat :=
  if s.regThere n page b off then
    ((wordFlds b off).map (fun f => partOfWord off f (s.fieldRead n page b off f % 2 ^ f.width))).foldl (· + ·) 0
  else 0

/-- How an access is answered (R27, R34, R38, R519, R537). -/
inductive Answer where
  /-- zero, or discarded, without a record -/
  | nothing
  /-- zero, or discarded, once the access table has let it through (R39) -/
  | zero
  /-- page 0x00 of a dark site, answered by the steward (R27) -/
  | dark
  /-- the header's PG_STAT only, once the access table has let it through (R38, R39) -/
  | status
  /-- by the page -/
  | page (b : Blk)
  deriving DecidableEq, Repr

/-- Is a register of the BRINGUP page live: the boot ROM answers part of it, the standby steward all but the resets and counts (R519, R543). -/
def State.brLive (s : State) (n off : Nat) : Bool :=
  if off < 0x100 then true
  else if s.on (F.BR_STAT_ROM.at n) then decide (off < 0x118)
  else decide (n = s.steward) || !(decide (0x118 ≤ off ∧ off ≤ 0x120) || decide (off = 0x12C))

/-- Who answers an access to a register. A fenced page's PG_STAT still reads FENCED, and any other access to it reads zero or is discarded without a record, as R537 says (DEDUCED, log 48). Pages 0x21 to 0x25 of the active steward before they are live read as the standby's do: PG_STAT with READY 0 and FENCED 1, and zero elsewhere, PG_ID included; R519 gives only READY 0 (DESIGN CHOICE, log 65). -/
def State.answerer (s : State) (n page off : Nat) : Answer :=
  if s.inReset ∨ 1024 ≤ off / 4 then .nothing
  else
    match blockOf n page with
    | none => .nothing
    | some b =>
      if s.dark n then (if page = 0 then .dark else .nothing)
      else if (n = 306 ∨ n = 307) ∧ 0x21 ≤ page ∧ page ≤ 0x25 ∧ !(decide (n = s.steward) && s.stwLive page) then .status
      else if (n = 306 ∨ n = 307) ∧ (page = 2 ∨ page = 3) ∧ 0x100 ≤ off ∧ (n ≠ s.steward ∨ s.on (F.BR_STAT_ROM.at n)) then .zero
      else if (n = 306 ∨ n = 307) ∧ page = 0x20 ∧ !(s.brLive n off) then .zero
      else if page ≠ 0 ∧ s.on (F.PG_STAT_FENCED.at (homeOf n page off) page) then (if off = 0xC then .status else .nothing)
      else .page b

/-- A record of a refused register access at a site without a table, limited as a table's (R331). -/
def State.refuseBare (s : State) (n master page off src : Nat) : State :=
  let seen := tget 0 s.lastDeny [n, master]
  if seen ≠ 0 ∧ s.now n < (seen - 1) + 1000000 then s
  else
    ({ s with lastDeny := tset 0 s.lastDeny [n, master] (s.now n + 1) } : State).report
      { code := 0x5201, site := n, unit := 0xFF, sev := 2, master := master, info0 := page / 4 + 128 + 2 <<< 8 + 2 <<< 12,
        info1 := page <<< 12 + off, info2 := src <<< 16 + 0x1F <<< 25 }

/-- The registers that a sync unit's resource table covers, for reading and for writing (R327). -/
def resCovered (wr : Bool) (off : Nat) : Bool :=
  if wr then decide (off = 0x104 ∨ off = 0x108 ∨ off = 0x11C ∨ off = 0x130) else decide (0x104 ≤ off ∧ off ≤ 0x130)

/-- May a master make an access (R39, R327 to R332, R518): none where it may, else its table, code, cause, window, and the address of the record. The ACL page takes the stewards' writes whatever its table holds (R329). -/
def State.regRefusal (s : State) (n page off master : Nat) (wr : Bool) : Option (Nat × (Nat × Nat × Nat) × Nat) :=
  let w := page / 4
  let a := page <<< 12 + off
  if wr ∧ page = 0xA ∧ !(isSteward master) then some (0, (0x5201, 4, w), a)
  else if wr ∧ !(isSteward master) ∧ master ≠ 0xFFF ∧ s.fenceBit n 0 w then some (0, (0x5202, 0, w), a)
  else if !(wr && decide (page = 0xA)) && !(s.aclBit n 0 master w wr) then some (0, (0x5201, if wr then 2 else 1, w), a)
  else if wr ∧ (n = 306 ∨ n = 307) ∧ page = 0x25 ∧ !(isSteward master) ∧ ¬ (1024 ≤ master ∧ master < 1088) then some (0, (0x5201, 2, w), a)
  else if isDie n ∧ page = 8 ∧ resCovered wr off then
    let c := s.sySel n
    if wr ∧ !(isSteward master) ∧ s.fenceBit n 1 (c / 32) then some (1, (0x5202, 0, c / 32), c)
    else if !(s.aclBit n 1 master (c / 32) wr) then some (1, (0x5201, if wr then 2 else 1, c / 32), c)
    else none
  else none

/-- Does a site without a table refuse a master's access (R331). -/
def State.bareShut (s : State) (master : Nat) (wr : Bool) : Bool :=
  wr && !(isSteward master) && !(decide (1024 ≤ master ∧ master < 1088) && s.aclBit s.steward 0 master 8 true)

/-- An access let through to `f`, or refused: it reads zero and discards its write, with its record (R39, R328, R331). -/
def State.checked (s : State) (n page off master src : Nat) (wr : Bool) (f : State → Nat × State) : Nat × State :=
  if hasAcl n then
    match s.regRefusal n page off master wr with
    | some (t, v, a) => (0, s.deny n t master wr v (if wr then 2 else 1) a src 0x1F)
    | none => f s
  else if s.bareShut master wr then (0, s.refuseBare n master page off src)
  else f s

/-- The code with which the table in force refuses an access that is checked (R39, R331): none where it lets it through, or where the access needs no check. -/
def State.regShut (s : State) (n page off master : Nat) (wr : Bool) : Option Nat :=
  match if off % 4 = 0 then s.answerer n page off else .nothing with
  | .nothing | .dark => none
  | _ =>
    if hasAcl n then (s.regRefusal n page off master wr).map (fun r => r.2.1.1)
    else if s.bareShut master wr then some 0x5201 else none

/-- PG_STAT of a page that only its status answers: READY 0, FENCED 1 (R27, R38). -/
def fencedStat (off : Nat) : Nat := if off = 0xC then 8 else 0

/-- A register read: the value, and the state after what the read itself does (R200, R545); an access that is no aligned word reads zero (R7, R35). -/
def State.regRead (s : State) (n page off master src : Nat) : Nat × State :=
  match if off % 4 = 0 then s.answerer n page off else .nothing with
  | .nothing => (0, s)
  | .dark => (if off = 0xC then 8 else if 0x100 ≤ off ∨ off < 8 ∨ off = 0x38 then s.wordAt n 0 .site off else 0, s)
  | .zero => s.checked n page off master src false (fun s => (0, s))
  | .status => s.checked n page off master src false (fun s => (fencedStat off, s))
  | .page b =>
    s.checked n page off master src false (fun s =>
      if b = .coreBuf ∧ off = 0x10C then s.dbgData ⟨n, (page - 0x40) / 4⟩ none
      else if b = .orchard ∧ off = 0x11C then s.orRdata
      else if b = .therm ∧ off = 0x104 ∧ sensorCount n ≤ s.rd (F.TH_SEL_SENSOR.at n) then (s.wordAt n page b off, s.fresh.2)
      else (s.wordAt n page b off, s))

end Sys2Proof.Machine
end

