-- ==== Sys2Proof/Machine/RegWrite.lean ====
section
/-! DEFINITION. Register writes (R10, R40): the guards that keep a field's value, the registers whose write is a command, and PG_CTL.RESET. -/

namespace Sys2Proof.Machine

/-- Is a value written to a field kept out: the ranges and states that the register tables give (R44, R106, R144 to R147, R175, R216, R275, R305, R336, R338, R341, R360, R362, R381, R428, R465, R471, R517, R543). `v` is the field's new value, `w` the word. -/
def State.keeps (s : State) (n page : Nat) (b : Blk) (off : Nat) (f : Fld) (v w master : Nat) : Bool :=
  match b with
  | .addrmap => decide (0x104 ≤ off) && (!(s.on (F.AM_SEL_VIEW.at n)) || s.epochBusy)
  | .coreCtl =>
    if f = F.MX_CFG_TOL_EXP then decide (v < 4 ∨ 14 < v)
    else if f = F.MX_CFG_CHECK_EN then decide (v = 0) && (match s.partOfSite n with | some p => s.on (F.PT_CFG_PRODUCTION.at stw 0 p) | none => false)
    else false
  | .coreSeq => decide (0x128 ≤ off ∧ off ≤ 0x140 ∧ s.coreState ⟨n, (page - 0x40) / 4⟩ ≠ 5)
  | .coreVec => decide (v = 0) && (match s.partOfSite n with | some p => s.on (F.PT_CFG_PRODUCTION.at stw 0 p) | none => false)
  | .stkPref => decide (f = F.PF_CFG_AHEAD ∧ (v = 0 ∨ 64 < v))
  | .bulk =>
    if f = F.BK_CFG_RSP_TMO then decide (v < 16)
    else if off = 0x11C then !(s.on (F.BK_RT_SEL_VIEW.at n)) || s.epochBusy
    else if off = 0x124 ∨ off = 0x128 ∨ off = 0x12C ∨ off = 0x148 then !(s.on (F.BK_MC_SEL_VIEW.at n)) || s.epochBusy || s.heldBack n master
    else false
  | .ctrlnet => decide (f = F.CN_TREE_PARENT) && !(isSteward master)
  | .syncnet => decide (off = 0x104) && (!(s.on (F.SN_RT_SEL_VIEW.at n)) || s.epochBusy)
  | .ctx =>
    if 0x104 ≤ off ∧ off ≤ 0x144 then decide (¬ (s.cxState s.cxSel = 0 ∨ s.cxState s.cxSel = 1 ∨ s.cxState s.cxSel = 4))
    else if f = F.PT_FCOUNT_COUNT then decide (4096 < v)
    else if f = F.PT_FLIST then false
    else decide (0x164 ≤ off ∧ off ≤ 0x180) && s.ptValid s.ptSel
  | .queue =>
    let q := s.rd (F.QU_SEL_QUEUE.at stw)
    if 0x104 ≤ off ∧ off ≤ 0x110 ∧ f ≠ F.QU_CFG_ENABLE ∧ s.on (F.QU_CFG_ENABLE.at stw 0 q) then true
    else if f = F.QU_CFG_WEIGHT then decide (v = 0)
    else if f = F.QU_CFG_LOG2SIZE then decide (v < 6 ∨ 16 < v)
    else false
  | .cxlp =>
    if f = F.CP_CFG_INT_TMO then decide (v < 100) else if f = F.CP_CACHE_MAX then decide (v = 0 ∨ 2048 < v) else false
  | .msix =>
    let e := s.rd (F.EQ_SEL_EQ.at n)
    let on := s.on (F.EQ_CFG_ENABLE.at n 0 e)
    if f = F.EQ_CFG_LOG2SIZE then on || decide (v < 6 ∨ 16 < v)
    else on && decide (f = F.EQ_CFG_VECTOR ∨ f = F.EQ_CFG_IMOD ∨ f = F.EQ_BASE)
  | .mesoax => decide (f = F.ML_CTL_MIN_WIDTH ∧ (v = 0 ∨ 8 < v))
  | .grove => if f = F.XC_CFG_LOG2SIZE then decide (v < 6 ∨ 16 < v) else false
  | .clk => if isDie n then false else decide (off = 0x120)
  | .pwr =>
    if off = 0x104 then !(isSteward master)
    else !(isDie n) && decide (off = 0x108 ∨ off = 0x10C)
  | .therm =>
    if off = 0x10C then !(isSteward master) || !(fieldThere n f)
    else if off = 0x118 then
      let sum := (s.capSites).foldl (fun t x => t + (if x = n then bits w 7 0 else s.rd (F.TH_RAMP_WATTS.at x))) 0
      !(isSteward master) || decide (800 < sum ∨ bits w 15 8 = 0 ∨ 50 < bits w 15 8)
    else false
  | .thermTp => decide (f = F.TP_CFG_SRC ∧ v = 3)
  | .errlog =>
    if f = F.RP_CFG_LIMIT then decide (v = 0)
    else if f = F.HL_CFG_RETIRE then decide (v ≤ bits w 15 0)
    else if f = F.HL_OK_OK then decide (s.rd (F.HL_CFG_WATCH.at stw) ≤ v)
    else false
  | .bringup => decide ((f = F.BR_CFG_DRAIN ∨ f = F.BR_CFG_WDRAIN) ∧ v = 0)
  | _ => false

/-- A word stored over the fields it holds (R10): RW and WO store, W1C clears, W1S sets, RO and SC keep. -/
def State.storeWord (s : State) (n page : Nat) (b : Blk) (off w master : Nat) : State :=
  each (wordFlds b off) (fun f t =>
    let l := s.fieldLoc n page b off f
    let old := s.rd l
    let v := wordInto off f old w
    match f.acc with
    | .ro | .sc => t
    | .w1c => t.wr l (old - (old &&& wordInto off f 0 w))
    | .w1s => t.wr l (old ||| wordInto off f 0 w)
    | .rw | .wo => if !(fieldThere n f) || s.keeps n page (if off < 0x100 then .hdr else b) off f v w master then t else t.wr l v) s

/-- Does PG_CTL.RESET of a page return a field to its reset value: what software wrote, the counters, what a field keeps of an event or a command that is over, the header's errors and events; a field that only reports a unit's condition, READY and FENCED among them, reports that condition again as soon as the reset is complete (R40; DEDUCED, log 48). -/
def pageResets (b : Blk) (bit : Nat) : Bool :=
  if bit < 0x800 then decide (bit ≠ F.PG_STAT_READY.bit ∧ bit ≠ F.PG_STAT_FENCED.bit ∧ bit ≠ F.PG_HEALTH_SCORE.bit ∧ bit ≠ F.PG_HEALTH_STATE.bit)
  else (blockFlds b).any (fun f => decide (f.bit = bit) && (decide (f.acc ≠ .ro) || counterFlds.contains f || recordFlds.contains f))

/-- PG_CTL.RESET of a page (R40, R534): of CORE_CTL it is a core reset; a port or channel that the page enables goes down with it. Of DIEMEM during a scrub, SCRUB reads 0 with the region not filled, SCRUBBING stays 1 and the assignment that waits for the end of the scrub goes on waiting: the spec does not say what a page reset does to a running scrub (DESIGN CHOICE, log 65). -/
def State.pageReset (s : State) (n page : Nat) (b : Blk) : State :=
  if bareP2 n page then s
  else
    match b with
    | .coreCtl => s.coreCtlReset ⟨n, (page - 0x40) / 4⟩
    | _ =>
      let s := match b with
        | .guest => s.guEnable n false
        | .bulk => (s.eaSettle n 5).eaSettle n 6
        | .ethport => s.etEnable n (page - 0x20) false
        | .grove => loopN 64 (fun ch s => s.xcEnable n ch false) s
        | .therm => s.thShed n false
        | _ => s
      let h := homeOf n page 0x100
      { s with fld := tkeep s.fld (fun k => !(decide ((k.headD 0 = n ∨ k.headD 0 = h) ∧ k.getD 1 0 = page) && pageResets b (k.getD 2 0))) }

/-- CORE_CTL written (R144, R145): HALT, then STEP, and the breakpoint enable. -/
def State.coreCtlWrite (s : State) (c : CoreId) (w : Nat) : State :=
  let s := s.wr (F.CORE_CTL_BKPT_EN.core c) (w / 4 % 2)
  let s := if w % 2 = s.rd (F.CORE_CTL_HALT.core c) then s else s.coreHalt c (w.testBit 0)
  if w.testBit 1 then s.coreStep c else s

/-- SC_CTL written (R213, R216, R228). -/
def State.scCtlWrite (s : State) (n w : Nat) : State :=
  let s := s.wr (F.SC_CTL_PF_EN.at n) (w % 2)
  let s := if w.testBit 1 then s.scFlush n else s
  let s := if w.testBit 2 then s.scInval n else s
  if w / 8 % 2 = s.rd (F.SC_CTL_SLEEP.at n) then s else s.sleepWrite n (w.testBit 3)

/-- MG_CTL written (R231, R234): DEST is stored; a migration that runs keeps the destination it started with (DESIGN CHOICE, log 63). -/
def State.mgCtlWrite (s : State) (n w : Nat) : State :=
  let s := s.wr (F.MG_CTL_DEST.at n) w
  let s := if w.testBit 8 then s.mgStart n else s
  let s := if w.testBit 9 then s.mgAbort n else s
  if w.testBit 10 then s.mgRelease n else s

/-- SY_CMD written (R299): OP 7 is reserved. -/
def State.syCmdWrite (s : State) (n src op : Nat) : State :=
  match op % 8 with
  | 1 => s.syCmdSignal n src
  | 2 => s.syCmdBreak n
  | 3 => s.syCmdPurge n
  | 4 => s.syCmdSnapshot n
  | 5 => s.syCmdRestore n
  | 6 => s.syCmdClear n
  | _ => s

/-- CX_CMD written (R337): a reserved OP returns 0x5405. -/
def State.cxCmdWrite (s : State) (op : Nat) : State :=
  match op % 16 with
  | 0 => s
  | 1 => s.cxCreate
  | 2 => s.cxPreempt
  | 3 => s.cxRemap
  | 4 => s.cxReset
  | 5 => s.cxTeardown
  | 6 => s.partSet
  | 7 => s.cxPartClear
  | 8 => s.cxFenceOn
  | 9 => s.cxFenceOff
  | 10 => s.cxAclSet
  | 11 => s.cxWinSet
  | _ => s.cxResult 0x5405

/-- QU_CFG written (R338, R341). A word whose LOC names a port in non-CXL operation is refused whole with 0x5405. -/
def State.quCfgWrite (s : State) (n page w master : Nat) : State :=
  let q := s.rd (F.QU_SEL_QUEUE.at stw)
  let was := s.rd (F.QU_CFG_ENABLE.at stw 0 q)
  if was = 0 ∧ s.locShut (bits w 3 2) then s.cxResult 0x5405
  else ((s.storeWord n page .queue 0x104 w master).wr (F.QU_CFG_ENABLE.at stw 0 q) was).quEnable q (w.testBit 0)

/-- EQ_CFG written (R362). -/
def State.eqCfgWrite (s : State) (n page w master : Nat) : State :=
  let l := F.EQ_CFG_ENABLE.at n 0 (s.rd (F.EQ_SEL_EQ.at n))
  let was := s.rd l
  ((s.storeWord n page .msix 0x104 w master).wr l was).eqEnable (n - 304) (w.testBit 0)

/-- XC_CFG written (R392, R394). -/
def State.xcCfgWrite (s : State) (n page w master : Nat) : State :=
  let ch := s.rd (F.XC_SEL_CHAN.at n)
  let l := F.XC_CFG_ENABLE.at n 0 ch
  let was := s.rd l
  ((s.storeWord n page .grove 0x184 w master).wr l was).xcEnable n ch (w.testBit 0)

/-- ET_CTL written (R383, R384, R396). -/
def State.etCtlWrite (s : State) (n page w master : Nat) : State :=
  let l := F.ET_CTL_ENABLE.at n (page - 0x20)
  let was := s.rd l
  ((s.storeWord n page .ethport 0x104 w master).wr l was).etEnable n (page - 0x20) (w.testBit 0)

/-- GU_CTL written (R374, R382). -/
def State.guCtlWrite (s : State) (n w : Nat) : State :=
  let s := s.wr (F.GU_CTL_SPEED_CAP.at n) (w / 2 % 2)
  let s := if w.testBit 0 ∨ s.on (F.GU_CTL_ENABLE.at n) then s.guEnable n (w.testBit 0) else s
  if w.testBit 2 then s.guRetrain n else s

/-- RP_CMD written (R501, R517): OP 3 is reserved. -/
def State.rpCmdWrite (s : State) (op : Nat) : State :=
  match op % 4 with
  | 1 => s.rpResume
  | 2 => s.rpAbandon
  | 3 => s.rpResult 0x5405
  | _ => s

/-- GF_CMD written (R509, R518). -/
def State.gfCmdWrite (s : State) (w : Nat) : State :=
  match w % 4 with
  | 1 => s.gfPlot (bits w 8 2) (bits w 15 9)
  | 2 => s.gfStackCmd (bits w 8 2) (bits w 15 9)
  | 3 => s.gfAbort
  | _ => s

/-- BR_CMD written (R544): a reserved OP is not allowed. -/
def State.brCmdWrite (s : State) (n w : Nat) : State :=
  match w % 16 with
  | 0 => s
  | 1 => s.brCmdStep n (bits w 7 4)
  | 2 => s.brAuto n
  | 3 => s.brPanelReset n
  | 4 => s.brAbort n
  | _ => s.brRefuse n

/-- SEC_CMD written (R551, R556, R559, R561): COMMIT_SVN by the stewards and hosts admitted to window 8, the others by the stewards only. -/
def State.secCmdWrite (s : State) (master w : Nat) : State :=
  match w % 4 with
  | 0 => s
  | 1 =>
    if isSteward master || (decide (1024 ≤ master ∧ master < 1088) && s.aclBit secSite 0 master 8 true) then s.commitSvn 0 else s.secResult 0x5405
  | 2 => if isSteward master then s.secExtend (bits w 4 2) else s.secResult 0x5405
  | _ => if isSteward master then s.closeDebug else s.secResult 0x5405

/-- A write to a block register: the command it is, or the word stored. -/
def State.blockWrite (s : State) (n page : Nat) (b : Blk) (off w master src : Nat) : State :=
  let c : CoreId := ⟨n, (page - 0x40) / 4⟩
  let store : State := s.storeWord n page b off w master
  match b with
  | .coreCtl => if off = 0x104 then s.coreCtlWrite c w else store
  | .coreSeq =>
    if off = 0x150 then s.onCore c (fun k => { k with seedLo := w }) else if off = 0x154 then s.seedHi c w else store
  | .coreBuf => if off = 0x10C then (s.dbgData c (some w)).2 else store
  | .diemem => if off = 0x104 then s.regionSet n w master else store
  | .bulk => if off = 0x130 then (s.eaSettle n (s.rd (F.BK_PORT_SEL_PORT.at n))).storeWord n page b off w master else store
  | .stkCache => if off = 0x100 then s.scCtlWrite n w else store
  | .stkNme =>
    if off = 0x108 then s.nmSeedHi n w
    else if off = 0x11C then (if w.testBit 8 then store.dgGo n else store)
    else if off = 0x140 then s.mgCtlWrite n w
    else store
  | .sync =>
    if off = 0x104 then s.syValueWrite n w
    else if off = 0x108 then s.syOwnerSet n w master
    else if off = 0x130 then s.syCmdWrite n src w
    else if off = 0x13C then (if w.testBit 0 then s.xltInv n else s)
    else store
  | .ctx =>
    if off = 0x148 then s.cxCmdWrite w
    else if off = 0x104 ∧ !(s.keeps n page .ctx off F.CX_CFG_PART (bits w 5 0) w master) then (s.partChange w).storeWord n page b off w master
    else store
  | .queue =>
    let q := s.rd (F.QU_SEL_QUEUE.at stw)
    if off = 0x104 then s.quCfgWrite n page w master
    else if off = 0x10C ∧ s.rd (F.QU_CFG_LOC.at stw 0 q) = 0 then s.storeWord n page b off (w % 2 ^ 16) master
    else if off = 0x124 then (if w % 4 = 1 then s.quRestart q else if w % 4 = 2 then s.quFlush q else s)
    else store
  | .acl =>
    if off = 0x104 then s.holdLo n 0 w
    else if off = 0x108 then s.acRdHi n w
    else if off = 0x10C then s.holdLo n 1 w
    else if off = 0x110 then s.acWrHi n w
    else if off = 0x114 then s.holdLo n 2 w
    else if off = 0x118 then s.acFenceHi n w
    else if off = 0x120 then s.holdLo n 3 (w % 2 ^ 17)
    else if off = 0x124 then s.acWlimit n w
    else store
  | .msix => if off = 0x104 then s.eqCfgWrite n page w master else if off = 0x114 then s.eqHead (n - 304) w else store
  | .mesoax => if off = 0x104 ∧ w.testBit 0 then store.retrain n (page - 0x10) else store
  | .guest => if off = 0x100 then s.guCtlWrite n w else store
  | .ethport => if off = 0x104 then s.etCtlWrite n page w master else store
  | .grove => if off = 0x130 then s.grRoleWrite w else if off = 0x184 then s.xcCfgWrite n page w master else store
  | .clk => if off = 0x134 then (if isSteward master then s.epCtl n w else s) else store
  | .refclk => if off = 0x100 then s.rcSel w else if off = 0x114 then (if w.testBit 0 then s.rcStep else s) else store
  | .epoch => if off = 0x10C then (if w % 4 = 1 then s.epCommit else if w % 4 = 2 then s.epCancel else s) else store
  | .pwrPp =>
    if off = 0x100 then s.ppCeil w
    else if off = 0x10C then (if w.testBit 0 then s.wr (F.PP_IN_MAX_WATTS.at stw) 0 else s)
    else if off = 0x128 then (if w.testBit 0 then s.ppApply else s)
    else store
  | .therm => if off = 0x114 then s.thShed n (w.testBit 0) else store
  | .errlog =>
    if off = 0x158 then s.rpCmdWrite w
    else if off = 0x184 then (if w.testBit 0 then s.lrGo else s)
    else if off = 0x1A4 then s.gfCmdWrite w
    else store
  | .bringup =>
    if off = 0x104 then s.brCmdWrite n w
    else if off = 0x110 then s.brFwData n w
    else if off = 0x118 then (if w.testBit 23 then store.brRst else store)
    else store
  | .orchard =>
    if off = 0x120 then
      let s := if w.testBit 0 then s.jCommit else s
      if w.testBit 1 then s.jCompact else s
    else store
  | .sec => if off = 0x118 then s.secCmdWrite master w else store
  | _ => store

/-- A write that the page takes: PG_CTL.RESET alone, a header word, or a block register that is there. -/
def State.pageWrite (s : State) (n page : Nat) (b : Blk) (off w master src : Nat) : State :=
  if !(s.regThere n page b off) then s
  else if off = 8 ∧ w.testBit 2 then s.pageReset n page b
  else if off < 0x100 then s.storeWord n page b off w master
  else s.blockWrite n page b off w master src

/-- A register write by a master from a site (R10, R34 to R40, R327 to R331); an access that is no aligned word is discarded (R7, R35). -/
def State.regWrite (s : State) (n page off w master src : Nat) : State :=
  match if off % 4 = 0 then s.answerer n page off else .nothing with
  | .nothing | .dark => s
  | .zero | .status => (s.checked n page off master src true (fun s => (0, s))).2
  | .page b => (s.checked n page off master src true (fun s => (0, s.pageWrite n page b off (w % 2 ^ 32) master src))).2

/-- PG_RESET (R40): PG_CTL written with RESET by a steward. -/
def State.pgReset (s : State) (n page : Nat) : State := s.regWrite n page 8 4 s.stewardMaster s.steward

/-- A control RD or WR reaches its site (R266): from a port it is one in flight; the stewards' own are the command's (log 25). -/
def State.ctlAccess (s : State) (type : Nat) (m : CtlMsg) : Bool :=
  decide (m.type = type) && (s.msgs.contains (.ctl m) || decide (m.src = 306 ∨ m.src = 307))

/-- PAGE of an RD or WR (R266). -/
def ctlPage (m : CtlMsg) : Nat := m.words.headD 0 % 256
/-- Register offset of an RD or WR. -/
def ctlOff (m : CtlMsg) : Nat := 4 * bits (m.words.headD 0) 17 8
/-- Master of an RD or WR. -/
def ctlMaster (m : CtlMsg) : Nat := bits (m.words.headD 0) 29 18

/-- A BAR0 access that the site's table refuses is counted and reported at its port too (R354). -/
def State.portRefused (s : State) (m : CtlMsg) (code : Option Nat) : State :=
  match code, s.hostReqs.find? (fun h => decide (h.path = 1 ∧ hostSite h.port = m.src ∧ h.site = m.dest) && h.tags.contains m.tag) with
  | some c, some h => s.hostRefuse h.port 1 h.write h.pasid h.master h.addr c
  | _, _ => s

/-- RD (R36, R266): answered RD_RSP with the value. -/
def State.ctlRd (s : State) (m : CtlMsg) : State :=
  if !(s.ctlAccess 1 m) then s
  else
    let code := s.regShut m.dest (ctlPage m) (ctlOff m) (ctlMaster m) false
    let r := (s.takeCtl (.ctl m) m.src m.dest).regRead m.dest (ctlPage m) (ctlOff m) (ctlMaster m) m.src
    (r.2.portRefused m code).send (.ctl { type := 3, dest := m.src, src := m.dest, tag := m.tag, words := [r.1] })

/-- WR (R36, R266): answered WR_ACK. -/
def State.ctlWr (s : State) (m : CtlMsg) : State :=
  if !(s.ctlAccess 2 m) then s
  else
    let code := s.regShut m.dest (ctlPage m) (ctlOff m) (ctlMaster m) true
    (((s.takeCtl (.ctl m) m.src m.dest).regWrite m.dest (ctlPage m) (ctlOff m) (m.words.getD 1 0) (ctlMaster m) m.src).portRefused m code).send
      (.ctl { type := 4, dest := m.src, src := m.dest, tag := m.tag })

/-- RD_RSP or WR_ACK reaches its requester (R36, R266): a host's request goes on; a steward's answer is its own. -/
def State.ctlAnswer (s : State) (type : Nat) (m : CtlMsg) : State :=
  if s.msgs.contains (.ctl m) ∧ m.type = type then (s.takeCtl (.ctl m) m.src m.dest).hostRegAnswer m else s

/-- RD_RSP. -/
def State.rdRsp (s : State) (m : CtlMsg) : State := s.ctlAnswer 3 m

/-- WR_ACK. -/
def State.wrAck (s : State) (m : CtlMsg) : State := s.ctlAnswer 4 m

end Sys2Proof.Machine
end

