-- ==== Sys2Proof/Machine/Rows.lean ====
section
/-! DEFINITION. How a row of the table runs: where a register row's page takes the write, what goes on after the rows a graft or an epoch waits for, and how every command ends. -/

namespace Sys2Proof.Machine

/-- A memory written down in its canonical form; what it reads as stays the same. -/
def tidy (m : Memory) : Memory := m.foldr (fun e t => mset t e.1 e.2) []

/-- The state a command leaves: the waiting commands are those of the state it began in, memories stand in canonical form, and panel time is a 64-bit count (R421). -/
def State.settle (t : State) (waiting : List Instr) : State :=
  { t with pending := waiting, time := t.time % 2 ^ 64, mem := tidy t.mem, cmem := tidy t.cmem, dmem := tidy t.dmem,
           store := tidy t.store, msixTab := tidy t.msixTab, fwbuf := tidy t.fwbuf }

/-- How every command ends: its effect on everything but the queue of waiting commands. -/
def onward (s : State) (f : State → State) : Host.Outcome State Fault Refusal := .next ((f s).settle s.pending)

/-- What the panel does with no command waiting: one tick of the reference (R421; log 9). -/
def idle (s : State) : Host.Outcome State Fault Refusal := onward s State.tick

/-- Does the page of a register answer for itself: the site powered, the page there, in use and not fenced (R36, R37, R334, R519). -/
def State.takes (s : State) (n page off : Nat) : Bool :=
  match s.answerer n page off with
  | .page _ => true
  | _ => false

/-- What a register row does where its page takes the write; it is discarded elsewhere (R36, R37). -/
def State.onPage (s : State) (n page off : Nat) (f : State → State) : State := if s.takes n page off then f s else s

/-- A commit that waited begins, and the graft and the replays that wait for what has ended go on (R426, R498, R510). -/
def State.followUp (s : State) : State := s.epNext.graftGo.holdsAll

/-- An answer of a cell reaches whom it is for: it leaves the network, and the core or the I/O die acts on it; the stewards' signals ask for no answer (R269, R282). -/
def State.syncAnswer (s : State) (type : Nat) (m : SyncMsg) (core io : State → State) : State :=
  if m.type ≠ type ∨ s.dark m.dest then s
  else if isIo m.dest then io (s.takeSync m)
  else if isDie m.dest then s.whenClocked ⟨m.dest, m.slot⟩ (fun s => core (s.takeSync m))
  else s.takeSync m

/-- SYNC_WAKE (R282). -/
def State.wakeArrives (s : State) (m : SyncMsg) : State :=
  s.syncAnswer 5 m (fun s => s.coreWake ⟨m.dest, m.slot⟩ m) (fun s => s.ioWake m.dest m)

/-- SYNC_BROKEN (R282, R296). -/
def State.brokenArrives (s : State) (m : SyncMsg) : State :=
  s.syncAnswer 6 m (fun s => s.coreBroken ⟨m.dest, m.slot⟩ m) (fun s => s.ioBroken m.dest m)

/-- WAIT_RESEND at a core or an I/O die (R287). -/
def State.resendWaits (s : State) (site slot : Nat) : State :=
  if isIo site then s.ioResend site else s.whenClocked ⟨site, slot⟩ (fun s => s.waitResend ⟨site, slot⟩)

/-- OR_RDATA_READ: the word goes to the reader (R545). -/
def State.readRdata (s : State) : State :=
  let r := s.orRdata
  r.2.send (.regValue s.steward 0x21 0x11C r.1)

end Sys2Proof.Machine
end

