-- ==== Sys2Proof/Machine/BringupCmds.lean ====
section
/-! DEFINITION. What the commands of one family do: bring-up, resets and the orchard map. -/

namespace Sys2Proof.Machine

/-- BR_STEP (R519). -/
def execBrStep (site : Nat) (step : Nat) (s : State) : Host.Outcome State Fault Refusal :=
  onward s (fun s => s.onPage site 0x20 0x104 (fun s => s.brCmdStep site step))

/-- BR_AUTO (R544). -/
def execBrAuto (site : Nat) (s : State) : Host.Outcome State Fault Refusal :=
  onward s (fun s => s.onPage site 0x20 0x104 (fun s => s.brAuto site))

/-- BR_PANEL_RESET (R534). -/
def execBrPanelReset (site : Nat) (s : State) : Host.Outcome State Fault Refusal :=
  onward s (fun s => s.onPage site 0x20 0x104 (fun s => s.brPanelReset site))

/-- BR_ABORT (R544). -/
def execBrAbort (site : Nat) (s : State) : Host.Outcome State Fault Refusal :=
  onward s (fun s => s.onPage site 0x20 0x104 (fun s => s.brAbort site))

/-- BRINGUP_STEP_DONE (R520). -/
def execBringupStepDone (res : StepRes) (s : State) : Host.Outcome State Fault Refusal :=
  onward s (fun s => s.brStepDone res)

/-- BR_FW_DATA_WRITE (R543). -/
def execBrFwDataWrite (site : Nat) (value : Nat) (s : State) : Host.Outcome State Fault Refusal :=
  onward s (fun s => s.onPage site 0x20 0x110 (fun s => s.brFwData site value))

/-- BR_RST_GO (R534). -/
def execBrRstGo (s : State) : Host.Outcome State Fault Refusal :=
  onward s (fun s => s.onPage s.steward 0x20 0x118 (fun s => s.brRst))

/-- RESET_DRAIN_END (R535). -/
def execResetDrainEnd (index : Nat) (s : State) : Host.Outcome State Fault Refusal :=
  onward s (fun s => s.resetDrainEnd index)

/-- ORCHARD_COMMIT_TIMER (R530). -/
def execOrchardCommitTimer (s : State) : Host.Outcome State Fault Refusal :=
  onward s (fun s => s.jCommit)

/-- ORCHARD_COMMIT_DONE (R530). -/
def execOrchardCommitDone (s : State) : Host.Outcome State Fault Refusal :=
  onward s (fun s => s.jCommitDone.followUp)

/-- OR_COMMIT (R545). -/
def execOrCommit (s : State) : Host.Outcome State Fault Refusal :=
  onward s (fun s => s.onPage s.steward 0x21 0x120 (fun s => s.jCommit))

/-- OR_COMPACT (R531). -/
def execOrCompact (s : State) : Host.Outcome State Fault Refusal :=
  onward s (fun s => s.onPage s.steward 0x21 0x120 (fun s => s.jCompact))

/-- OR_RDATA_READ (R545). -/
def execOrRdataRead (s : State) : Host.Outcome State Fault Refusal :=
  onward s (fun s => s.onPage s.steward 0x21 0x11C (fun s => s.readRdata))

/-- STEWARD_LOST_TIMEOUT (R540). -/
def execStewardLostTimeout (s : State) : Host.Outcome State Fault Refusal :=
  onward s (fun s => s.stewardLost)

/-- IMAGE_SWITCH_DONE (R531). -/
def execImageSwitchDone (s : State) : Host.Outcome State Fault Refusal :=
  onward s (fun s => s.jSwitchDone)

end Sys2Proof.Machine
end

