-- ==== Sys2Proof/Machine/ClockCmds.lean ====
section
/-! DEFINITION. What the commands of one family do: clocks, panel time and epochs. -/

namespace Sys2Proof.Machine

/-- REF_INPUT_LOST (R412). -/
def execRefInputLost (input : Nat) (s : State) : Host.Outcome State Fault Refusal :=
  onward s (fun s => s.refPinLost input)

/-- RC_SEL_WRITE (R412). -/
def execRcSelWrite (value : Nat) (s : State) : Host.Outcome State Fault Refusal :=
  onward s (fun s => s.onPage 309 0x20 0x100 (fun s => s.rcSel value))

/-- REF_PARENT_LOST (R414). -/
def execRefParentLost (site : Nat) (tdly : Nat) (s : State) : Host.Outcome State Fault Refusal :=
  onward s (fun s => s.refParentLost site tdly)

/-- PLL_LOCK_LOST (R415). -/
def execPllLockLost (site : Nat) (s : State) : Host.Outcome State Fault Refusal :=
  onward s (fun s => s.pllDrop site)

/-- PLL_RELOCK (R415). -/
def execPllRelock (site : Nat) (s : State) : Host.Outcome State Fault Refusal :=
  onward s (fun s => s.pllBack site)

/-- PLL_RELOCK_TIMEOUT (R415). -/
def execPllRelockTimeout (site : Nat) (s : State) : Host.Outcome State Fault Refusal :=
  onward s (fun s => s.pllFail site)

/-- DROOP_GATE (R417). -/
def execDroopGate (c : CoreId) (s : State) : Host.Outcome State Fault Refusal :=
  onward s (fun s => s.droopGate c)

/-- DROOP_RESUME (R417). -/
def execDroopResume (c : CoreId) (s : State) : Host.Outcome State Fault Refusal :=
  onward s (fun s => s.droopResume c)

/-- MON_CEILING_RESTORE (R418). -/
def execMonCeilingRestore (site : Nat) (s : State) : Host.Outcome State Fault Refusal :=
  onward s (fun s => s.monRestore site)

/-- LADDER_CHANGE (R420). -/
def execLadderChange (site : Nat) (s : State) : Host.Outcome State Fault Refusal :=
  onward s (fun s => s.ladderChange site)

/-- LADDER_CHANGE_DONE (R420). -/
def execLadderChangeDone (site : Nat) (s : State) : Host.Outcome State Fault Refusal :=
  onward s (fun s => s.ladderDone site)

/-- DWELL_EXPIRE (R419). -/
def execDwellExpire (site : Nat) (s : State) : Host.Outcome State Fault Refusal :=
  onward s (fun s => s.dwellEnd site)

/-- VOLTAGE_READY (R436). -/
def execVoltageReady (site : Nat) (s : State) : Host.Outcome State Fault Refusal :=
  onward s (fun s => s.voltageReady site)

/-- TIME_LOAD (R422). -/
def execTimeLoad (value : Nat) (s : State) : Host.Outcome State Fault Refusal :=
  onward s (fun s => s.timeLoad value)

/-- TIME_SLEW (R422). -/
def execTimeSlew (sign : Bool) (interval : Nat) (s : State) : Host.Outcome State Fault Refusal :=
  onward s (fun s => s.timeSlew sign interval)

/-- RC_STEP_CMD (R424). -/
def execRcStepCmd (s : State) : Host.Outcome State Fault Refusal :=
  onward s (fun s => s.onPage 309 0x20 0x114 (fun s => s.rcStep))

/-- PPS_EDGE (R479). -/
def execPpsEdge (s : State) : Host.Outcome State Fault Refusal :=
  onward s (fun s => s.ppsEdge)

/-- TIME_SOURCE_SILENT (R425). -/
def execTimeSourceSilent (s : State) : Host.Outcome State Fault Refusal :=
  onward s (fun s => s.sourceSilent)

/-- EP_COMMIT (R426). -/
def execEpCommit (s : State) : Host.Outcome State Fault Refusal :=
  onward s (fun s => (s.onPage s.steward 0x24 0x10C (fun s => s.epCommit)).followUp)

/-- EP_CANCEL (R432). -/
def execEpCancel (s : State) : Host.Outcome State Fault Refusal :=
  onward s (fun s => (s.onPage s.steward 0x24 0x10C (fun s => s.epCancel)).followUp)

/-- CK_EP_ARM (R426). -/
def execCkEpArm (site : Nat) (mask : Nat) (s : State) : Host.Outcome State Fault Refusal :=
  onward s (fun s => (s.onPage site 1 0x134 (fun s => s.epArm site mask)).followUp)

/-- CK_EP_CANCEL (R426). -/
def execCkEpCancel (site : Nat) (s : State) : Host.Outcome State Fault Refusal :=
  onward s (fun s => (s.onPage site 1 0x134 (fun s => s.epDisarm site)).followUp)

/-- CK_EP_CATCHUP (R427). -/
def execCkEpCatchup (site : Nat) (s : State) : Host.Outcome State Fault Refusal :=
  onward s (fun s => (s.onPage site 1 0x134 (fun s => s.epCatch site)).followUp)

/-- CK_EP_ROLLBACK (R427). -/
def execCkEpRollback (site : Nat) (s : State) : Host.Outcome State Fault Refusal :=
  onward s (fun s => (s.onPage site 1 0x134 (fun s => s.epRollback site)).followUp)

/-- EPOCH_SWITCH_TIME (R426). -/
def execEpochSwitchTime (site : Nat) (s : State) : Host.Outcome State Fault Refusal :=
  onward s (fun s => (s.epSwitch site).followUp)

/-- EP_TMO_EXPIRE (R427). -/
def execEpTmoExpire (s : State) : Host.Outcome State Fault Refusal :=
  onward s (fun s => s.epTimeout.followUp)

/-- CLOCK_STRETCH (R417). -/
def execClockStretch (c : CoreId) (s : State) : Host.Outcome State Fault Refusal :=
  onward s (fun s => s.stretch c)

/-- REF_INPUT_RETURN (R483). -/
def execRefInputReturn (input : Nat) (s : State) : Host.Outcome State Fault Refusal :=
  onward s (fun s => s.refPinBack input)

end Sys2Proof.Machine
end

