-- ==== Sys2Proof/Machine/ContextCmds.lean ====
section
/-! DEFINITION. What the commands of one family do: contexts, partitions, queues and access tables. -/

namespace Sys2Proof.Machine

/-- CX_CREATE (R337). -/
def execCxCreate (s : State) : Host.Outcome State Fault Refusal :=
  onward s (fun s => s.onPage s.steward 0x22 0x148 (fun s => s.cxCreate))

/-- CX_PREEMPT (R315). -/
def execCxPreempt (s : State) : Host.Outcome State Fault Refusal :=
  onward s (fun s => s.onPage s.steward 0x22 0x148 (fun s => s.cxPreempt))

/-- CX_REMAP (R311). -/
def execCxRemap (s : State) : Host.Outcome State Fault Refusal :=
  onward s (fun s => s.onPage s.steward 0x22 0x148 (fun s => s.cxRemap))

/-- CX_RESET (R317). -/
def execCxReset (s : State) : Host.Outcome State Fault Refusal :=
  onward s (fun s => s.onPage s.steward 0x22 0x148 (fun s => s.cxReset))

/-- CX_TEARDOWN (R317). -/
def execCxTeardown (s : State) : Host.Outcome State Fault Refusal :=
  onward s (fun s => s.onPage s.steward 0x22 0x148 (fun s => s.cxTeardown))

/-- CX_PART_SET (R304). -/
def execCxPartSet (s : State) : Host.Outcome State Fault Refusal :=
  onward s (fun s => s.onPage s.steward 0x22 0x148 (fun s => s.partSet))

/-- CX_PART_CLEAR (R337). -/
def execCxPartClear (s : State) : Host.Outcome State Fault Refusal :=
  onward s (fun s => s.onPage s.steward 0x22 0x148 (fun s => s.cxPartClear))

/-- CX_FENCE_ON (R333). -/
def execCxFenceOn (s : State) : Host.Outcome State Fault Refusal :=
  onward s (fun s => s.onPage s.steward 0x22 0x148 (fun s => s.cxFenceOn))

/-- CX_FENCE_OFF (R333). -/
def execCxFenceOff (s : State) : Host.Outcome State Fault Refusal :=
  onward s (fun s => s.onPage s.steward 0x22 0x148 (fun s => s.cxFenceOff))

/-- CX_ACL_SET (R329). -/
def execCxAclSet (s : State) : Host.Outcome State Fault Refusal :=
  onward s (fun s => s.onPage s.steward 0x22 0x148 (fun s => s.cxAclSet))

/-- CX_WIN_SET (R329). -/
def execCxWinSet (s : State) : Host.Outcome State Fault Refusal :=
  onward s (fun s => s.onPage s.steward 0x22 0x148 (fun s => s.cxWinSet))

/-- PREEMPT_DECISION (R314). -/
def execPreemptDecision (queue : Nat) (s : State) : Host.Outcome State Fault Refusal :=
  onward s (fun s => s.preemptDecision queue)

/-- PRE_TMO_EXPIRE (R316). -/
def execPreTmoExpire (ctx : Nat) (s : State) : Host.Outcome State Fault Refusal :=
  onward s (fun s => s.preTmo ctx)

/-- CORE_SAVE_DONE (R313). -/
def execCoreSaveDone (c : CoreId) (s : State) : Host.Outcome State Fault Refusal :=
  onward s (fun s => s.whenClocked c (fun s => s.coreSaveDone c))

/-- CORE_RESTORE_DONE (R310). -/
def execCoreRestoreDone (c : CoreId) (s : State) : Host.Outcome State Fault Refusal :=
  onward s (fun s => s.whenClocked c (fun s => s.coreRestoreDone c))

/-- ENTRY_START (R322). -/
def execEntryStart (queue : Nat) (s : State) : Host.Outcome State Fault Refusal :=
  onward s (fun s => s.entryStart queue)

/-- QU_ENABLE_WRITE (R338). -/
def execQuEnableWrite (queue : Nat) (value : Bool) (s : State) : Host.Outcome State Fault Refusal :=
  onward s (fun s => s.onPage s.steward 0x23 0x104 (fun s => s.quEnable queue value))

/-- QU_RESTART (R325). -/
def execQuRestart (queue : Nat) (s : State) : Host.Outcome State Fault Refusal :=
  onward s (fun s => s.onPage s.steward 0x23 0x124 (fun s => s.quRestart queue))

/-- QU_FLUSH (R324). -/
def execQuFlush (queue : Nat) (s : State) : Host.Outcome State Fault Refusal :=
  onward s (fun s => s.onPage s.steward 0x23 0x124 (fun s => s.quFlush queue))

/-- AC_RD_HI_WRITE (R330). -/
def execAcRdHiWrite (site : Nat) (value : Nat) (s : State) : Host.Outcome State Fault Refusal :=
  onward s (fun s => s.onPage site 0xA 0x108 (fun s => s.acRdHi site value))

/-- AC_WR_HI_WRITE (R330). -/
def execAcWrHiWrite (site : Nat) (value : Nat) (s : State) : Host.Outcome State Fault Refusal :=
  onward s (fun s => s.onPage site 0xA 0x110 (fun s => s.acWrHi site value))

/-- AC_FENCE_HI_WRITE (R330). -/
def execAcFenceHiWrite (site : Nat) (value : Nat) (s : State) : Host.Outcome State Fault Refusal :=
  onward s (fun s => s.onPage site 0xA 0x118 (fun s => s.acFenceHi site value))

/-- AC_WLIMIT_WRITE (R330). -/
def execAcWlimitWrite (site : Nat) (value : Nat) (s : State) : Host.Outcome State Fault Refusal :=
  onward s (fun s => s.onPage site 0xA 0x124 (fun s => s.acWlimit site value))

end Sys2Proof.Machine
end

