-- ==== Sys2Proof/Machine/ControlCmds.lean ====
section
/-! DEFINITION. What the commands of one family do: the messages of the control network. -/

namespace Sys2Proof.Machine

/-- RD (R266). -/
def execRd (m : CtlMsg) (s : State) : Host.Outcome State Fault Refusal :=
  onward s (fun s => s.whenTurn (.ctl m) (fun s => s.ctlRd m))

/-- WR (R266). -/
def execWr (m : CtlMsg) (s : State) : Host.Outcome State Fault Refusal :=
  onward s (fun s => s.whenTurn (.ctl m) (fun s => s.ctlWr m))

/-- RD_RSP (R266). -/
def execRdRsp (m : CtlMsg) (s : State) : Host.Outcome State Fault Refusal :=
  onward s (fun s => s.whenTurn (.ctl m) (fun s => s.rdRsp m))

/-- WR_ACK (R266). -/
def execWrAck (m : CtlMsg) (s : State) : Host.Outcome State Fault Refusal :=
  onward s (fun s => s.whenTurn (.ctl m) (fun s => s.wrAck m))

/-- DOORBELL_TAIL (R319). -/
def execDoorbellTail (m : CtlMsg) (s : State) : Host.Outcome State Fault Refusal :=
  onward s (fun s => s.whenTurn (.ctl m) (fun s => s.hostDoorbell m))

/-- DOORBELL_RESERVE (R320). -/
def execDoorbellReserve (m : CtlMsg) (s : State) : Host.Outcome State Fault Refusal :=
  onward s (fun s => s.whenTurn (.ctl m) (fun s => s.doorbellReserve m))

/-- DOORBELL_PUBLISH (R320). -/
def execDoorbellPublish (m : CtlMsg) (s : State) : Host.Outcome State Fault Refusal :=
  onward s (fun s => s.whenTurn (.ctl m) (fun s => s.doorbellPublish m))

/-- ERREC (R491). -/
def execErrec (r : Rec) (s : State) : Host.Outcome State Fault Refusal :=
  onward s (fun s => s.whenTurn (.errec r) (fun s => s.errec r))

/-- NOTICE_BIND (R310). -/
def execNoticeBind (m : CtlMsg) (s : State) : Host.Outcome State Fault Refusal :=
  onward s (fun s => s.whenTurn (.ctl m) (fun s => s.whenClocked (noticeCore m) (fun s => s.noticeBind m)))

/-- NOTICE_DISPATCH (R322). -/
def execNoticeDispatch (m : CtlMsg) (s : State) : Host.Outcome State Fault Refusal :=
  onward s (fun s => s.whenTurn (.ctl m) (fun s => s.whenClocked (noticeCore m) (fun s => s.noticeDispatch m)))

/-- NOTICE_PREEMPT (R315). -/
def execNoticePreempt (m : CtlMsg) (s : State) : Host.Outcome State Fault Refusal :=
  onward s (fun s => s.whenTurn (.ctl m) (fun s => s.whenClocked (noticeCore m) (fun s => s.noticePreempt m)))

/-- NOTICE_SAVED (R315). -/
def execNoticeSaved (m : CtlMsg) (s : State) : Host.Outcome State Fault Refusal :=
  onward s (fun s => s.whenTurn (.ctl m) (fun s => (s.noticeSaved m).followUp))

/-- NOTICE_BOUND (R310). -/
def execNoticeBound (m : CtlMsg) (s : State) : Host.Outcome State Fault Refusal :=
  onward s (fun s => s.whenTurn (.ctl m) (fun s => s.noticeBound m))

/-- NOTICE_HALTED (R324). -/
def execNoticeHalted (m : CtlMsg) (s : State) : Host.Outcome State Fault Refusal :=
  onward s (fun s => s.whenTurn (.ctl m) (fun s => s.noticeHalted m))

/-- NOTICE_GRANT (R320). -/
def execNoticeGrant (m : CtlMsg) (s : State) : Host.Outcome State Fault Refusal :=
  onward s (fun s => s.whenTurn (.ctl m) (fun s => s.whenClocked (noticeCore m) (fun s => s.noticeGrant m)))

/-- NOTICE_FULL (R320). -/
def execNoticeFull (m : CtlMsg) (s : State) : Host.Outcome State Fault Refusal :=
  onward s (fun s => s.whenTurn (.ctl m) (fun s => s.whenClocked (noticeCore m) (fun s => s.noticeFull m)))

/-- NOTICE_DB_ACK (R320). -/
def execNoticeDbAck (m : CtlMsg) (s : State) : Host.Outcome State Fault Refusal :=
  onward s (fun s => s.whenTurn (.ctl m) (fun s => s.whenClocked (noticeCore m) (fun s => s.noticeDbAck m)))

/-- NOTICE_STOP (R498). -/
def execNoticeStop (m : CtlMsg) (s : State) : Host.Outcome State Fault Refusal :=
  onward s (fun s => s.whenTurn (.ctl m) (fun s => s.whenClocked (noticeCore m) (fun s => s.noticeStop m)))

/-- STEP_ARRIVAL (R140). -/
def execStepArrival (m : CtlMsg) (s : State) : Host.Outcome State Fault Refusal :=
  onward s (fun s => s.whenTurn (.ctl m) (fun s => (s.stepArrival m).groveArrived.followUp))

/-- STEP_RELEASE (R333). -/
def execStepRelease (part : Nat) (s : State) : Host.Outcome State Fault Refusal :=
  onward s (fun s => (s.stepReleaseCmd part).followUp)

/-- STEP_RELEASE_RECEIVE (R140). -/
def execStepReleaseReceive (m : CtlMsg) (s : State) : Host.Outcome State Fault Refusal :=
  onward s (fun s => s.whenTurn (.ctl m) (fun s => s.whenClocked (noticeCore m) (fun s => s.stepReleased m)))

/-- MRD (R268). -/
def execMrd (m : CtlMsg) (s : State) : Host.Outcome State Fault Refusal :=
  onward s (fun s => s.whenTurn (.ctl m) (fun s => s.mrd m))

/-- MWR (R268). -/
def execMwr (m : CtlMsg) (s : State) : Host.Outcome State Fault Refusal :=
  onward s (fun s => s.whenTurn (.ctl m) (fun s => s.mwr m))

/-- MRSP (R268). -/
def execMrsp (m : CtlMsg) (s : State) : Host.Outcome State Fault Refusal :=
  onward s (fun s => s.whenTurn (.ctl m) (fun s => s.mrsp m))

end Sys2Proof.Machine
end

