-- ==== Sys2Proof/Machine/EngineCmds.lean ====
section
/-! DEFINITION. What the commands of one family do: the descriptors the DMA channels, the vector engine and the matrix engine execute, and their ends. -/

namespace Sys2Proof.Machine

/-- LOAD (R131). -/
def execLoad (c : CoreId) (s : State) : Host.Outcome State Fault Refusal :=
  onward s (fun s => s.whenClocked c (fun s => s.dataMove c 0x20))

/-- STORE (R131). -/
def execStore (c : CoreId) (s : State) : Host.Outcome State Fault Refusal :=
  onward s (fun s => s.whenClocked c (fun s => s.dataMove c 0x21))

/-- COPY (R131). -/
def execCopy (c : CoreId) (s : State) : Host.Outcome State Fault Refusal :=
  onward s (fun s => s.whenClocked c (fun s => s.dataCopy c))

/-- FILL (R131). -/
def execFill (c : CoreId) (s : State) : Host.Outcome State Fault Refusal :=
  onward s (fun s => s.whenClocked c (fun s => s.dataFill c))

/-- ACCUM (R131). -/
def execAccum (c : CoreId) (s : State) : Host.Outcome State Fault Refusal :=
  onward s (fun s => s.whenClocked c (fun s => s.dataAccum c))

/-- MCAST (R262). -/
def execMcast (c : CoreId) (s : State) : Host.Outcome State Fault Refusal :=
  onward s (fun s => s.whenClocked c (fun s => s.dataMcast c))

/-- GATHER (R132). -/
def execGather (c : CoreId) (s : State) : Host.Outcome State Fault Refusal :=
  onward s (fun s => s.whenClocked c (fun s => s.dataList c 0x26))

/-- SCATTER (R132). -/
def execScatter (c : CoreId) (s : State) : Host.Outcome State Fault Refusal :=
  onward s (fun s => s.whenClocked c (fun s => s.dataList c 0x27))

/-- VRUN (R152). -/
def execVrun (c : CoreId) (s : State) : Host.Outcome State Fault Refusal :=
  onward s (fun s => s.whenClocked c (fun s => s.startVector c 0x30))

/-- VREDUCE (R170). -/
def execVreduce (c : CoreId) (s : State) : Host.Outcome State Fault Refusal :=
  onward s (fun s => s.whenClocked c (fun s => s.startVector c 0x31))

/-- MM (R127). -/
def execMm (c : CoreId) (s : State) : Host.Outcome State Fault Refusal :=
  onward s (fun s => s.whenClocked c (fun s => s.startMatrix c 0x40))

/-- MM_ACC (R127). -/
def execMmAcc (c : CoreId) (s : State) : Host.Outcome State Fault Refusal :=
  onward s (fun s => s.whenClocked c (fun s => s.startMatrix c 0x41))

/-- PBP (R94). -/
def execPbp (c : CoreId) (s : State) : Host.Outcome State Fault Refusal :=
  onward s (fun s => s.whenClocked c (fun s => s.startMatrix c 0x42))

/-- DESC_COMPLETE (R123). -/
def execDescComplete (c : CoreId) (s : State) : Host.Outcome State Fault Refusal :=
  onward s (fun s => s.whenClocked c (fun s => s.descComplete c))

/-- DESC_FAIL (R124). -/
def execDescFail (c : CoreId) (s : State) : Host.Outcome State Fault Refusal :=
  onward s (fun s => s.whenClocked c (fun s => s.descFail c))

/-- TILE_SEGMENT_END (R101). -/
def execTileSegmentEnd (c : CoreId) (flips : List (Nat × Nat)) (parity : Option Nat) (s : State) : Host.Outcome State Fault Refusal :=
  onward s (fun s => s.whenClocked c (fun s => s.segEnd c flips parity))

/-- TILE_CONVERT_DONE (R88). -/
def execTileConvertDone (c : CoreId) (parity : Option Nat) (s : State) : Host.Outcome State Fault Refusal :=
  onward s (fun s => s.whenClocked c (fun s => s.convertEnd c parity))

/-- STREAM_WRITEBACK_DONE (R155). -/
def execStreamWritebackDone (c : CoreId) (ev : LaneEvent) (s : State) : Host.Outcome State Fault Refusal :=
  onward s (fun s => s.whenClocked c (fun s => s.streamWriteback c ev))

end Sys2Proof.Machine
end

