-- ==== Sys2Proof/Machine/GraftCmds.lean ====
section
/-! DEFINITION. What the commands of one family do: grafting. -/

namespace Sys2Proof.Machine

/-- GF_PLOT (R510). -/
def execGfPlot (src : Nat) (dest : Nat) (s : State) : Host.Outcome State Fault Refusal :=
  onward s (fun s => s.onPage s.steward 0x25 0x1A4 (fun s => s.gfPlot src dest))

/-- GF_STACK (R512). -/
def execGfStack (src : Nat) (dest : Nat) (s : State) : Host.Outcome State Fault Refusal :=
  onward s (fun s => s.onPage s.steward 0x25 0x1A4 (fun s => s.gfStackCmd src dest))

/-- GF_ABORT (R518). -/
def execGfAbort (s : State) : Host.Outcome State Fault Refusal :=
  onward s (fun s => s.onPage s.steward 0x25 0x1A4 (fun s => s.gfAbort))

/-- GRAFT_POWER_DONE (R510). -/
def execGraftPowerDone (bad : List Nat) (s : State) : Host.Outcome State Fault Refusal :=
  onward s (fun s => (s.graftPowerDone bad).followUp)

/-- GRAFT_TEST_DONE (R510). -/
def execGraftTestDone (bad : List Nat) (s : State) : Host.Outcome State Fault Refusal :=
  onward s (fun s => s.graftTestDone bad)

/-- SHADOW_COMPARE (R510). -/
def execShadowCompare (reference : DigestW) (cores : List (CoreId × DigestW)) (s : State) : Host.Outcome State Fault Refusal :=
  onward s (fun s => s.shadowCompare reference cores)

/-- GRAFT_SOAK_END (R510). -/
def execGraftSoakEnd (s : State) : Host.Outcome State Fault Refusal :=
  onward s (fun s => s.graftSoakEnd.followUp)

end Sys2Proof.Machine
end

