-- ==== Sys2Proof/Machine/GroveCmds.lean ====
section
/-! DEFINITION. What the commands of one family do: the scale-out ports and the grove. -/

namespace Sys2Proof.Machine

/-- ETH_FRAME_RECEIVE (R385). -/
def execEthFrameReceive (site : Nat) (port : Nat) (frame : List Byte) (s : State) : Host.Outcome State Fault Refusal :=
  onward s (fun s => s.ethFrame site port frame)

/-- PTP_EVENT_MESSAGE (R396). -/
def execPtpEventMessage (site : Nat) (port : Nat) (m : PtpMsg) (s : State) : Host.Outcome State Fault Refusal :=
  onward s (fun s => s.ptpMessage site port m)

/-- GROVE_DATA (R390). -/
def execGroveData (site : Nat) (port : Nat) (ce : Bool) (p : GPkt) (s : State) : Host.Outcome State Fault Refusal :=
  onward s (fun s => s.grRow 1 site port ce p)

/-- GROVE_SIGNAL (R394). -/
def execGroveSignal (site : Nat) (port : Nat) (ce : Bool) (p : GPkt) (s : State) : Host.Outcome State Fault Refusal :=
  onward s (fun s => s.grRow 2 site port ce p)

/-- GROVE_ACK (R389). -/
def execGroveAck (site : Nat) (port : Nat) (ce : Bool) (p : GPkt) (s : State) : Host.Outcome State Fault Refusal :=
  onward s (fun s => s.grRow 3 site port ce p)

/-- GROVE_NACK (R390). -/
def execGroveNack (site : Nat) (port : Nat) (ce : Bool) (p : GPkt) (s : State) : Host.Outcome State Fault Refusal :=
  onward s (fun s => s.grRow 4 site port ce p)

/-- GROVE_ARRIVE (R400). -/
def execGroveArrive (site : Nat) (port : Nat) (ce : Bool) (p : GPkt) (epoch : Nat) (s : State) : Host.Outcome State Fault Refusal :=
  onward s (fun s => (s.ctrlRow 1 site port ce p epoch).followUp)

/-- GROVE_RELEASE (R400). -/
def execGroveRelease (site : Nat) (port : Nat) (ce : Bool) (p : GPkt) (epoch : Nat) (s : State) : Host.Outcome State Fault Refusal :=
  onward s (fun s => (s.ctrlRow 2 site port ce p epoch).followUp)

/-- GROVE_ABORT (R400). -/
def execGroveAbort (site : Nat) (port : Nat) (ce : Bool) (p : GPkt) (epoch : Nat) (s : State) : Host.Outcome State Fault Refusal :=
  onward s (fun s => (s.ctrlRow 3 site port ce p epoch).followUp)

/-- GROVE_HEARTBEAT (R402). -/
def execGroveHeartbeat (site : Nat) (port : Nat) (ce : Bool) (p : GPkt) (s : State) : Host.Outcome State Fault Refusal :=
  onward s (fun s => s.ctrlRow 4 site port ce p 0)

/-- GROVE_DIGEST (R406). -/
def execGroveDigest (site : Nat) (port : Nat) (ce : Bool) (p : GPkt) (s : State) : Host.Outcome State Fault Refusal :=
  onward s (fun s => s.ctrlRow 5 site port ce p 0)

/-- GROVE_ACK_TIMER (R389). -/
def execGroveAckTimer (site : Nat) (conn : Nat) (s : State) : Host.Outcome State Fault Refusal :=
  onward s (fun s => s.ackTimer site conn)

/-- GROVE_RTO_EXPIRE (R389). -/
def execGroveRtoExpire (site : Nat) (conn : Nat) (s : State) : Host.Outcome State Fault Refusal :=
  onward s (fun s => s.rtoExpire site conn)

/-- CC_TINC_EXPIRE (R391). -/
def execCcTincExpire (site : Nat) (conn : Nat) (s : State) : Host.Outcome State Fault Refusal :=
  onward s (fun s => s.tincExpire site conn)

/-- CONN_RECORD_FETCHED (R388). -/
def execConnRecordFetched (site : Nat) (conn : Nat) (s : State) : Host.Outcome State Fault Refusal :=
  onward s (fun s => s.connFetched site conn)

/-- PUT (R394). -/
def execPut (site : Nat) (chan : Nat) (s : State) : Host.Outcome State Fault Refusal :=
  onward s (fun s => s.xcStart site chan 1)

/-- PUT_ACCUM (R395). -/
def execPutAccum (site : Nat) (chan : Nat) (s : State) : Host.Outcome State Fault Refusal :=
  onward s (fun s => s.xcStart site chan 2)

/-- PUT_EC (R404). -/
def execPutEc (site : Nat) (chan : Nat) (s : State) : Host.Outcome State Fault Refusal :=
  onward s (fun s => s.xcStart site chan 3)

/-- SIGNAL_ONLY (R393). -/
def execSignalOnly (site : Nat) (chan : Nat) (s : State) : Host.Outcome State Fault Refusal :=
  onward s (fun s => s.xcStart site chan 4)

/-- XFER_ENTRY_COMPLETE (R394). -/
def execXferEntryComplete (site : Nat) (chan : Nat) (s : State) : Host.Outcome State Fault Refusal :=
  onward s (fun s => s.xcComplete site chan)

/-- XC_ENABLE_WRITE (R394). -/
def execXcEnableWrite (site : Nat) (chan : Nat) (value : Bool) (s : State) : Host.Outcome State Fault Refusal :=
  onward s (fun s => s.onPage site 0x30 0x184 (fun s => s.xcEnable site chan value))

/-- HEARTBEAT_TIMER (R402). -/
def execHeartbeatTimer (s : State) : Host.Outcome State Fault Refusal :=
  onward s (fun s => s.heartbeat)

/-- MEMBER_LOST_TIMEOUT (R402). -/
def execMemberLostTimeout (member : Nat) (s : State) : Host.Outcome State Fault Refusal :=
  onward s (fun s => s.memberLost member)

/-- MANAGER_LOST_TIMEOUT (R402). -/
def execManagerLostTimeout (s : State) : Host.Outcome State Fault Refusal :=
  onward s (fun s => s.managerLost)

/-- GR_ROLE_WRITE (R402). -/
def execGrRoleWrite (value : Nat) (s : State) : Host.Outcome State Fault Refusal :=
  onward s (fun s => s.onPage s.ctlIo 0x30 0x130 (fun s => s.grRoleWrite value))

/-- ET_ENABLE_WRITE (R383). -/
def execEtEnableWrite (site : Nat) (port : Nat) (value : Bool) (s : State) : Host.Outcome State Fault Refusal :=
  onward s (fun s => s.onPage site (0x20 + port) 0x104 (fun s => s.etEnable site port value))

/-- PORT_UP (R407). -/
def execPortUp (site : Nat) (port : Nat) (s : State) : Host.Outcome State Fault Refusal :=
  onward s (fun s => s.etPortUp site port)

/-- PORT_DOWN (R407). -/
def execPortDown (site : Nat) (port : Nat) (fault : Bool) (s : State) : Host.Outcome State Fault Refusal :=
  onward s (fun s => s.etPortDown site port fault)

end Sys2Proof.Machine
end

