-- ==== Sys2Proof/Machine/HostCmds.lean ====
section
/-! DEFINITION. What the commands of one family do: the host ports. -/

namespace Sys2Proof.Machine

/-- BAR0_ACCESS (R35). -/
def execBar0Access (port : Nat) (pasid : Option Nat) (off : Nat) (len : Nat) (w : Option Nat) (s : State) : Host.Outcome State Fault Refusal :=
  onward s (fun s => s.bar0 port pasid off len w)

/-- BAR2_DOORBELL_WRITE (R350). -/
def execBar2DoorbellWrite (port : Nat) (pasid : Option Nat) (off : Nat) (w : Option Nat) (s : State) : Host.Outcome State Fault Refusal :=
  onward s (fun s => s.bar2 port pasid off w)

/-- BAR4_APERTURE_ACCESS (R344). -/
def execBar4ApertureAccess (port : Nat) (pasid : Option Nat) (off : Nat) (len : Nat) (w : Option (List Byte)) (s : State) : Host.Outcome State Fault Refusal :=
  onward s (fun s => s.bar4 port pasid off len w)

/-- CXL_MEM_READ (R348). -/
def execCxlMemRead (port : Nat) (hpa : Nat) (s : State) : Host.Outcome State Fault Refusal :=
  onward s (fun s => s.cxlRead port hpa)

/-- CXL_MEM_WRITE (R348). -/
def execCxlMemWrite (port : Nat) (hpa : Nat) (data : List Byte) (s : State) : Host.Outcome State Fault Refusal :=
  onward s (fun s => s.cxlWrite port hpa data)

/-- HOST_SNOOP (R340). -/
def execHostSnoop (port : Nat) (s : State) : Host.Outcome State Fault Refusal :=
  onward s (fun s => s.hostSnoop port)

/-- CACHE_READ_RESPONSE (R349). -/
def execCacheReadResponse (port : Nat) (queue : Nat) (data : Option (List Byte)) (s : State) : Host.Outcome State Fault Refusal :=
  onward s (fun s => s.cacheResponse port queue data)

/-- HOST_INT_TIMEOUT (R355). -/
def execHostIntTimeout (port : Nat) (cache : Bool) (n : Nat) (s : State) : Host.Outcome State Fault Refusal :=
  onward s (fun s => s.hostTimeout port cache n)

/-- HOST_PORT_RESET (R356). -/
def execHostPortReset (port : Nat) (linkDown : Bool) (s : State) : Host.Outcome State Fault Refusal :=
  onward s (fun s => s.hostPortReset port linkDown)

/-- HOST_LINK_TRAINED (R341). -/
def execHostLinkTrained (port : Nat) (speed : Nat) (width : Nat) (cxl : Bool) (lopt : Bool) (cache : Bool) (s : State) : Host.Outcome State Fault Refusal :=
  onward s (fun s => s.linkTrained port speed width cxl lopt cache)

/-- HDM_DECODER_COMMIT (R346). -/
def execHdmDecoderCommit (port : Nat) (decoder : Nat) (base : Nat) (size : Nat) (skip : Nat) (ways : Nat) (s : State) : Host.Outcome State Fault Refusal :=
  onward s (fun s => s.hdmCommit port decoder base size skip ways)

/-- MSIX_IMOD_EXPIRE (R353). -/
def execMsixImodExpire (port : Nat) (eq : Nat) (s : State) : Host.Outcome State Fault Refusal :=
  onward s (fun s => s.imodExpire port eq)

/-- EQ_HEAD_WRITE (R352). -/
def execEqHeadWrite (port : Nat) (value : Nat) (s : State) : Host.Outcome State Fault Refusal :=
  onward s (fun s => s.onPage (304 + port) 0x22 0x114 (fun s => s.eqHead port value))

/-- EQ_ENABLE_WRITE (R362). -/
def execEqEnableWrite (port : Nat) (value : Bool) (s : State) : Host.Outcome State Fault Refusal :=
  onward s (fun s => s.onPage (304 + port) 0x22 0x104 (fun s => s.eqEnable port value))

/-- D3HOT (R340). -/
def execD3hot (port : Nat) (d3 : Bool) (s : State) : Host.Outcome State Fault Refusal :=
  onward s (fun s => s.setD3 port d3)

end Sys2Proof.Machine
end

