-- ==== Sys2Proof/Machine/Lane.lean ====
section
/-! DEFINITION. The lane instructions (R159 to R168), each over the shared step of Vector.lean; LDS and STS stand there. -/

namespace Sys2Proof.Machine

/-- An instruction that gives every enabled lane's register a value from the registers before it. -/
def State.laneVal (s : State) (c : CoreId) (op : Nat) (ev : LaneEvent) (g : Nat → Nat → State → Nat) : State :=
  s.laneStep c op ev (fun w s =>
    .next (each (enabled (s.core c).vx w) (fun l t => t.setVreg c l (iD w) (g w l s)) s))

/-- A value of registers A and B. -/
def State.laneAB (s : State) (c : CoreId) (op : Nat) (ev : LaneEvent) (g : Nat → Nat → Nat) : State :=
  s.laneVal c op ev (fun w l s => g (s.vreg c l (iA w)) (s.vreg c l (iB w)))

/-- A value of register A. -/
def State.laneA (s : State) (c : CoreId) (op : Nat) (ev : LaneEvent) (g : Nat → Nat → Nat) : State :=
  s.laneVal c op ev (fun w l s => g w (s.vreg c l (iA w)))

/-- A binary32 operation on registers A and B, one rounding (R161). -/
def State.laneF (s : State) (c : CoreId) (op : Nat) (ev : LaneEvent) (g : Num → Num → Num) : State :=
  s.laneAB c op ev (fun a b => toB32 (g (ofB32 a) (ofB32 b)))

/-- An instruction that sets predicate D[2:0] in every enabled lane. -/
def State.lanePred (s : State) (c : CoreId) (op : Nat) (ev : LaneEvent) (g : Nat → Nat → State → Bool) : State :=
  s.laneStep c op ev (fun w s =>
    .next ((each (enabled (s.core c).vx w) (fun l s => s.engGood c (latchAddr l (iD w % 8))) s).onCore c (fun k =>
      { k with vx := each (enabled k.vx w) (fun l v => v.setPred l (iD w % 8) (g w l s)) k.vx })))

/-- An instruction whose values may take draws, in increasing lane order (R163, R164, R167). -/
def State.laneGen (s : State) (c : CoreId) (op : Nat) (ev : LaneEvent) (g : Nat → Nat → State → Gen → Nat × Gen) : State :=
  s.laneStep c op ev (fun w s =>
    let r := (enabled (s.core c).vx w).foldl (fun (a : Gen × State) l =>
      let x := g w l s a.1
      (x.2, a.2.setVreg c l (iD w) x.1)) ((s.core c).gen, s)
    .next (r.2.onCore c (fun k => { k with gen := r.1 })))

/-- A register as a signed number (R162). -/
def s32 (v : Nat) : Int := sext v 32

/-- The relation MOD names: EQ, NE, LT, LE, signed (R159). -/
def icmp (m a b : Nat) : Bool :=
  match m with
  | 0 => decide (s32 a = s32 b) | 1 => decide (s32 a ≠ s32 b) | 2 => decide (s32 a < s32 b) | _ => decide (s32 a ≤ s32 b)

/-- The relation MOD names: EQ, LT, LE, UNORD (R161). -/
def fcmp (m a b : Nat) : Bool :=
  let x := ofB32 a
  let y := ofB32 b
  match m with
  | 0 => eqNum x y | 1 => ltNum x y | 2 => leNum x y | _ => isNan x || isNan y

/-- A branch taken over the active lanes: continue at IMM when `p` holds (R168). -/
def State.laneBranch (s : State) (c : CoreId) (op : Nat) (ev : LaneEvent) (p : Vx → Nat → Bool) : State :=
  s.laneStep c op ev (fun w s => if p (s.core c).vx w then .jump s (iImm w) else .next s)

/-- NOP (R159). -/
def State.laneNop (s : State) (c : CoreId) (ev : LaneEvent) : State := s.laneStep c 0x00 ev (fun _ s => .next s)

/-- END: the section run ends (R168). -/
def State.laneEnd (s : State) (c : CoreId) (ev : LaneEvent) : State := s.laneStep c 0x01 ev (fun _ s => .fin s)

/-- JMP (R168). -/
def State.laneJmp (s : State) (c : CoreId) (ev : LaneEvent) : State := s.laneBranch c 0x02 ev (fun _ _ => true)

/-- Is a predicate 1 in any active lane. -/
def anyActive (v : Vx) (p : Nat) : Bool := (List.range (activeLanes v)).any (fun l => v.pred l p)

/-- BANY (R168). -/
def State.laneBany (s : State) (c : CoreId) (ev : LaneEvent) : State := s.laneBranch c 0x03 ev (fun v w => anyActive v (iD w % 8))

/-- BNONE (R168). -/
def State.laneBnone (s : State) (c : CoreId) (ev : LaneEvent) : State := s.laneBranch c 0x04 ev (fun v w => !(anyActive v (iD w % 8)))

/-- MOVI (R159). -/
def State.laneMovi (s : State) (c : CoreId) (ev : LaneEvent) : State := s.laneVal c 0x05 ev (fun w _ _ => iSimm w)

/-- MOVHI (R159). -/
def State.laneMovhi (s : State) (c : CoreId) (ev : LaneEvent) : State := s.laneVal c 0x06 ev (fun w _ _ => (iImm w) <<< 16)

/-- MOVLO (R159). -/
def State.laneMovlo (s : State) (c : CoreId) (ev : LaneEvent) : State :=
  s.laneVal c 0x07 ev (fun w l s => s.vreg c l (iD w) / 65536 * 65536 + iImm w)

/-- MOV (R159). -/
def State.laneMov (s : State) (c : CoreId) (ev : LaneEvent) : State := s.laneA c 0x08 ev (fun _ a => a)

/-- The special value of MOVS (R160). -/
def special (v : Vx) (passes l n : Nat) : Nat :=
  match n with
  | 0 => l
  | 1 => if v.section_ = 0 then 0 else if v.section_ = 2 then passes - 1 else v.pass
  | 2 => v.band
  | 3 => if v.section_ = 1 then v.col else 0
  | 4 => df v.desc 48 31 0
  | 5 => df v.desc 52 31 0
  | 6 => df v.desc 56 31 0
  | 7 => df v.desc 60 31 0
  | 8 => 64 * v.band + l
  | 9 => 32 * vxNc v.desc
  | 10 => 32 * vxNr v.desc
  | _ => 0

/-- MOVS (R160). -/
def State.laneMovs (s : State) (c : CoreId) (ev : LaneEvent) : State :=
  s.laneVal c 0x09 ev (fun w l s => special (s.core c).vx (hdrPasses (s.vxHdr c)) l (iImm w))

/-- IADD (R162). -/
def State.laneIadd (s : State) (c : CoreId) (ev : LaneEvent) : State := s.laneAB c 0x0C ev (fun a b => wrap32 (s32 a + s32 b))

/-- ISUB (R162). -/
def State.laneIsub (s : State) (c : CoreId) (ev : LaneEvent) : State := s.laneAB c 0x0D ev (fun a b => wrap32 (s32 a - s32 b))

/-- IMUL (R162). -/
def State.laneImul (s : State) (c : CoreId) (ev : LaneEvent) : State := s.laneAB c 0x0E ev (fun a b => wrap32 (s32 a * s32 b))

/-- IMIN (R159). -/
def State.laneImin (s : State) (c : CoreId) (ev : LaneEvent) : State := s.laneAB c 0x0F ev (fun a b => if s32 a ≤ s32 b then a else b)

/-- IMAX (R159). -/
def State.laneImax (s : State) (c : CoreId) (ev : LaneEvent) : State := s.laneAB c 0x10 ev (fun a b => if s32 a ≤ s32 b then b else a)

/-- AND (R159). -/
def State.laneAnd (s : State) (c : CoreId) (ev : LaneEvent) : State := s.laneAB c 0x11 ev (fun a b => a &&& b)

/-- OR (R159). -/
def State.laneOr (s : State) (c : CoreId) (ev : LaneEvent) : State := s.laneAB c 0x12 ev (fun a b => a ||| b)

/-- XOR (R159). -/
def State.laneXor (s : State) (c : CoreId) (ev : LaneEvent) : State := s.laneAB c 0x13 ev (fun a b => a ^^^ b)

/-- SHL (R159). -/
def State.laneShl (s : State) (c : CoreId) (ev : LaneEvent) : State := s.laneAB c 0x14 ev (fun a b => a <<< (b % 32))

/-- SHR (R159). -/
def State.laneShr (s : State) (c : CoreId) (ev : LaneEvent) : State := s.laneAB c 0x15 ev (fun a b => a >>> (b % 32))

/-- SAR (R159). -/
def State.laneSar (s : State) (c : CoreId) (ev : LaneEvent) : State := s.laneAB c 0x16 ev (fun a b => wrap32 (s32 a / (2 ^ (b % 32) : Nat)))

/-- IADDI (R159). -/
def State.laneIaddi (s : State) (c : CoreId) (ev : LaneEvent) : State := s.laneA c 0x17 ev (fun w a => (a + iSimm w) % 2 ^ 32)

/-- ICMP (R159). -/
def State.laneIcmp (s : State) (c : CoreId) (ev : LaneEvent) : State :=
  s.lanePred c 0x18 ev (fun w l s => icmp (iMod w) (s.vreg c l (iA w)) (s.vreg c l (iB w)))

/-- ICMPI (R159). -/
def State.laneIcmpi (s : State) (c : CoreId) (ev : LaneEvent) : State :=
  s.lanePred c 0x19 ev (fun w l s => icmp (iD w / 8) (s.vreg c l (iA w)) (iSimm w))

/-- FADD (R161). -/
def State.laneFadd (s : State) (c : CoreId) (ev : LaneEvent) : State := s.laneF c 0x1A ev addNum

/-- FSUB (R161). -/
def State.laneFsub (s : State) (c : CoreId) (ev : LaneEvent) : State := s.laneF c 0x1B ev (fun a b => addNum a (negNum b))

/-- FMUL (R161). -/
def State.laneFmul (s : State) (c : CoreId) (ev : LaneEvent) : State := s.laneF c 0x1C ev mulNum

/-- Fused operation on A, B and C. -/
def State.laneAbc (s : State) (c : CoreId) (op : Nat) (ev : LaneEvent) (g : Num → Num → Num → Num) : State :=
  s.laneVal c op ev (fun w l s => toB32 (g (ofB32 (s.vreg c l (iA w))) (ofB32 (s.vreg c l (iB w))) (ofB32 (s.vreg c l (iC w)))))

/-- FMA: a × b + c with one rounding (R159, R161). -/
def State.laneFma (s : State) (c : CoreId) (ev : LaneEvent) : State := s.laneAbc c 0x1D ev (fun a b x => addNum (mulNum a b) x)

/-- FNMA: c − a × b with one rounding (R159, R161). -/
def State.laneFnma (s : State) (c : CoreId) (ev : LaneEvent) : State := s.laneAbc c 0x1E ev (fun a b x => addNum x (negNum (mulNum a b)))

/-- FMIN (R161). -/
def State.laneFmin (s : State) (c : CoreId) (ev : LaneEvent) : State := s.laneF c 0x1F ev minNum

/-- FMAX (R161). -/
def State.laneFmax (s : State) (c : CoreId) (ev : LaneEvent) : State := s.laneF c 0x20 ev maxNum

/-- FABS; a NaN result is canonical (R159, R161). -/
def State.laneFabs (s : State) (c : CoreId) (ev : LaneEvent) : State := s.laneA c 0x21 ev (fun _ a => toB32 (absNum (ofB32 a)))

/-- FNEG; a NaN result is canonical (R159, R161). -/
def State.laneFneg (s : State) (c : CoreId) (ev : LaneEvent) : State := s.laneA c 0x22 ev (fun _ a => toB32 (negNum (ofB32 a)))

/-- FCMP (R161). -/
def State.laneFcmp (s : State) (c : CoreId) (ev : LaneEvent) : State :=
  s.lanePred c 0x23 ev (fun w l s => fcmp (iMod w) (s.vreg c l (iA w)) (s.vreg c l (iB w)))

/-- SEL (R159). -/
def State.laneSel (s : State) (c : CoreId) (ev : LaneEvent) : State :=
  s.laneVal c 0x24 ev (fun w l s => if (s.core c).vx.pred l (iC w % 8) then s.vreg c l (iA w) else s.vreg c l (iB w))

/-- EXP2 (R165). -/
def State.laneExp2 (s : State) (c : CoreId) (ev : LaneEvent) : State := s.laneA c 0x25 ev (fun _ a => exp2B a)

/-- LOG2 (R165). -/
def State.laneLog2 (s : State) (c : CoreId) (ev : LaneEvent) : State := s.laneA c 0x26 ev (fun _ a => log2B a)

/-- RCP (R165). -/
def State.laneRcp (s : State) (c : CoreId) (ev : LaneEvent) : State := s.laneA c 0x27 ev (fun _ a => rcpB a)

/-- RSQ (R165). -/
def State.laneRsq (s : State) (c : CoreId) (ev : LaneEvent) : State := s.laneA c 0x28 ev (fun _ a => rsqB a)

/-- CVTIF (R159). -/
def State.laneCvtif (s : State) (c : CoreId) (ev : LaneEvent) : State :=
  s.laneA c 0x29 ev (fun _ a => toB32 (.fin (decide (s32 a < 0)) (s32 a).natAbs 0))

/-- A binary32 code as a signed integer, saturated (R162). -/
def cvtfi (rne : Bool) (a : Nat) : Nat :=
  match ofB32 a with
  | .nan => 0
  | .inf neg => if neg then 0x80000000 else 0x7FFFFFFF
  | .fin neg m e =>
    let n := if rne then roundInt .rne m e else if 0 ≤ e then m <<< e.toNat else m >>> (-e).toNat
    if neg then wrap32 (-(min n (2 ^ 31) : Nat)) else min n (2 ^ 31 - 1)

/-- CVTFI (R162). -/
def State.laneCvtfi (s : State) (c : CoreId) (ev : LaneEvent) : State := s.laneA c 0x2A ev (fun w a => cvtfi (w.testBit 0) a)

/-- An element format named by C[3:0]. -/
def iFmt (w : Nat) : Fmt := (fmtOf (iC w % 16)).getD .b32

/-- CVTQ of a value (R164). -/
def cvtq (w a : Nat) (g : Gen) : Nat × Gen :=
  let x := ofB32 a
  let r := convert (iFmt w) (w.testBit 0) (w.testBit 1) x g
  (if decide (iFmt w = .e2m1) && isNan x then fmtNan .b32 else toB32 (decodeNum (iFmt w) r.1), r.2)

/-- CVTQ (R164). -/
def State.laneCvtq (s : State) (c : CoreId) (ev : LaneEvent) : State :=
  s.laneGen c 0x2B ev (fun w l s g => cvtq w (s.vreg c l (iA w)) g)

/-- Two values rounded and packed, the low one first (R163). -/
def pack16 (w : Nat) (lo hi : Num) (g : Gen) : Nat × Gen :=
  let a := convert (iFmt w) (w.testBit 0) false lo g
  let b := convert (iFmt w) (w.testBit 0) false hi a.2
  (a.1 + b.1 <<< 16, b.2)

/-- PK16 (R163). -/
def State.lanePk16 (s : State) (c : CoreId) (ev : LaneEvent) : State :=
  s.laneGen c 0x2C ev (fun w l s g => pack16 w (ofB32 (s.vreg c l (iA w))) (ofB32 (s.vreg c l (iB w))) g)

/-- UPK16 (R163). -/
def State.laneUpk16 (s : State) (c : CoreId) (ev : LaneEvent) : State :=
  s.laneA c 0x2D ev (fun w a => toB32 (decodeNum (iFmt w) (if w.testBit 1 then a / 65536 else a % 65536)))

/-- A packed operation on A, B and D, element by element (R163). -/
def State.laneH (s : State) (c : CoreId) (op : Nat) (ev : LaneEvent) (f : Num → Num → Num → Num) : State :=
  s.laneGen c op ev (fun w l s g =>
    let x (r h : Nat) : Num := decodeNum (iFmt w) (s.vreg c l r / 65536 ^ h % 65536)
    pack16 w (f (x (iA w) 0) (x (iB w) 0) (x (iD w) 0)) (f (x (iA w) 1) (x (iB w) 1) (x (iD w) 1)) g)

/-- HADD (R163). -/
def State.laneHadd (s : State) (c : CoreId) (ev : LaneEvent) : State := s.laneH c 0x2E ev (fun a b _ => addNum a b)

/-- HSUB (R163). -/
def State.laneHsub (s : State) (c : CoreId) (ev : LaneEvent) : State := s.laneH c 0x2F ev (fun a b _ => addNum a (negNum b))

/-- HMUL (R163). -/
def State.laneHmul (s : State) (c : CoreId) (ev : LaneEvent) : State := s.laneH c 0x30 ev (fun a b _ => mulNum a b)

/-- HFMA: a × b + d with one rounding (R159, R163). -/
def State.laneHfma (s : State) (c : CoreId) (ev : LaneEvent) : State := s.laneH c 0x31 ev (fun a b d => addNum (mulNum a b) d)

/-- HMIN (R161, R163). -/
def State.laneHmin (s : State) (c : CoreId) (ev : LaneEvent) : State := s.laneH c 0x32 ev (fun a b _ => minNum a b)

/-- HMAX (R161, R163). -/
def State.laneHmax (s : State) (c : CoreId) (ev : LaneEvent) : State := s.laneH c 0x33 ev (fun a b _ => maxNum a b)

/-- SHFL (R166). -/
def State.laneShfl (s : State) (c : CoreId) (ev : LaneEvent) : State :=
  s.laneVal c 0x34 ev (fun w l s => s.vreg c (s.vreg c l (iB w) % 64) (iA w))

/-- SHFLX (R166). -/
def State.laneShflx (s : State) (c : CoreId) (ev : LaneEvent) : State :=
  s.laneVal c 0x35 ev (fun w l s => s.vreg c (l ^^^ (iImm w % 64)) (iA w))

/-- One level of a pairwise tree. -/
def pairUp (f : Num → Num → Num) : List Num → List Num
  | a :: b :: r => f a b :: pairUp f r
  | l => l

/-- The pairwise tree over the enabled lanes in increasing order (R166); its pairing where lanes are not enabled is DEDUCED, log 21. -/
def redTree (m : Nat) (l : List Num) : Num :=
  let f : Num → Num → Num := match m with
    | 0 => fun a b => rounded32 (addNum a b)
    | 1 => maxNum
    | 2 => minNum
    | _ => maxNum
  ((loopN 6 (fun _ l => pairUp f l) (if m = 3 then l.map absNum else l)).headD (.fin false 0 0))
where
  /-- A value rounded to binary32. -/
  rounded32 (x : Num) : Num := ofB32 (toB32 x)

/-- RED (R166). -/
def State.laneRed (s : State) (c : CoreId) (ev : LaneEvent) : State :=
  s.laneStep c 0x36 ev (fun w s =>
    let en := enabled (s.core c).vx w
    let r := toB32 (redTree (iMod w) (en.map (fun l => ofB32 (s.vreg c l (iA w)))))
    .next (each en (fun l s => s.setVreg c l (iD w) r) s))

/-- RAND (R167). -/
def State.laneRand (s : State) (c : CoreId) (ev : LaneEvent) : State :=
  s.laneGen c 0x37 ev (fun _ _ _ g =>
    let a := genDraw g
    let b := genDraw a.2
    (a.1 + b.1 <<< 16, b.2))

/-- SEED (R167, R69). -/
def State.laneSeed (s : State) (c : CoreId) (ev : LaneEvent) : State :=
  s.laneStep c 0x38 ev (fun w s =>
    match (enabled (s.core c).vx w).head? with
    | none => .next s
    | some l => .next (s.onCore c (fun k => { k with gen := genSeed (s.vreg c l (iA w) + (s.vreg c l (iB w)) <<< 32) })))

/-- PAND (R159). -/
def State.lanePand (s : State) (c : CoreId) (ev : LaneEvent) : State :=
  s.lanePred c 0x39 ev (fun w l s => (s.core c).vx.pred l (iA w % 8) && (s.core c).vx.pred l (iB w % 8))

/-- POR (R159). -/
def State.lanePor (s : State) (c : CoreId) (ev : LaneEvent) : State :=
  s.lanePred c 0x3A ev (fun w l s => (s.core c).vx.pred l (iA w % 8) || (s.core c).vx.pred l (iB w % 8))

/-- PNOT (R159). -/
def State.lanePnot (s : State) (c : CoreId) (ev : LaneEvent) : State :=
  s.lanePred c 0x3B ev (fun w l s => !((s.core c).vx.pred l (iA w % 8)))

end Sys2Proof.Machine
end

