-- ==== Sys2Proof/Machine/LaneCmds.lean ====
section
/-! DEFINITION. What the commands of one family do: the lane instructions. -/

namespace Sys2Proof.Machine

/-- LANE_NOP (R159). -/
def execLaneNop (c : CoreId) (ev : LaneEvent) (s : State) : Host.Outcome State Fault Refusal :=
  onward s (fun s => s.whenClocked c (fun s => s.laneNop c ev))

/-- END (R168). -/
def execLaneEnd (c : CoreId) (ev : LaneEvent) (s : State) : Host.Outcome State Fault Refusal :=
  onward s (fun s => s.whenClocked c (fun s => s.laneEnd c ev))

/-- JMP (R168). -/
def execLaneJmp (c : CoreId) (ev : LaneEvent) (s : State) : Host.Outcome State Fault Refusal :=
  onward s (fun s => s.whenClocked c (fun s => s.laneJmp c ev))

/-- BANY (R168). -/
def execLaneBany (c : CoreId) (ev : LaneEvent) (s : State) : Host.Outcome State Fault Refusal :=
  onward s (fun s => s.whenClocked c (fun s => s.laneBany c ev))

/-- BNONE (R168). -/
def execLaneBnone (c : CoreId) (ev : LaneEvent) (s : State) : Host.Outcome State Fault Refusal :=
  onward s (fun s => s.whenClocked c (fun s => s.laneBnone c ev))

/-- MOVI (R159). -/
def execLaneMovi (c : CoreId) (ev : LaneEvent) (s : State) : Host.Outcome State Fault Refusal :=
  onward s (fun s => s.whenClocked c (fun s => s.laneMovi c ev))

/-- MOVHI (R159). -/
def execLaneMovhi (c : CoreId) (ev : LaneEvent) (s : State) : Host.Outcome State Fault Refusal :=
  onward s (fun s => s.whenClocked c (fun s => s.laneMovhi c ev))

/-- MOVLO (R159). -/
def execLaneMovlo (c : CoreId) (ev : LaneEvent) (s : State) : Host.Outcome State Fault Refusal :=
  onward s (fun s => s.whenClocked c (fun s => s.laneMovlo c ev))

/-- MOV (R159). -/
def execLaneMov (c : CoreId) (ev : LaneEvent) (s : State) : Host.Outcome State Fault Refusal :=
  onward s (fun s => s.whenClocked c (fun s => s.laneMov c ev))

/-- MOVS (R160). -/
def execLaneMovs (c : CoreId) (ev : LaneEvent) (s : State) : Host.Outcome State Fault Refusal :=
  onward s (fun s => s.whenClocked c (fun s => s.laneMovs c ev))

/-- LDS (R154). -/
def execLaneLds (c : CoreId) (ev : LaneEvent) (s : State) : Host.Outcome State Fault Refusal :=
  onward s (fun s => s.whenClocked c (fun s => s.laneLds c ev))

/-- STS (R155). -/
def execLaneSts (c : CoreId) (ev : LaneEvent) (s : State) : Host.Outcome State Fault Refusal :=
  onward s (fun s => s.whenClocked c (fun s => s.laneSts c ev))

/-- IADD (R162). -/
def execLaneIadd (c : CoreId) (ev : LaneEvent) (s : State) : Host.Outcome State Fault Refusal :=
  onward s (fun s => s.whenClocked c (fun s => s.laneIadd c ev))

/-- ISUB (R162). -/
def execLaneIsub (c : CoreId) (ev : LaneEvent) (s : State) : Host.Outcome State Fault Refusal :=
  onward s (fun s => s.whenClocked c (fun s => s.laneIsub c ev))

/-- IMUL (R162). -/
def execLaneImul (c : CoreId) (ev : LaneEvent) (s : State) : Host.Outcome State Fault Refusal :=
  onward s (fun s => s.whenClocked c (fun s => s.laneImul c ev))

/-- IMIN (R159). -/
def execLaneImin (c : CoreId) (ev : LaneEvent) (s : State) : Host.Outcome State Fault Refusal :=
  onward s (fun s => s.whenClocked c (fun s => s.laneImin c ev))

/-- IMAX (R159). -/
def execLaneImax (c : CoreId) (ev : LaneEvent) (s : State) : Host.Outcome State Fault Refusal :=
  onward s (fun s => s.whenClocked c (fun s => s.laneImax c ev))

/-- AND (R159). -/
def execLaneAnd (c : CoreId) (ev : LaneEvent) (s : State) : Host.Outcome State Fault Refusal :=
  onward s (fun s => s.whenClocked c (fun s => s.laneAnd c ev))

/-- OR (R159). -/
def execLaneOr (c : CoreId) (ev : LaneEvent) (s : State) : Host.Outcome State Fault Refusal :=
  onward s (fun s => s.whenClocked c (fun s => s.laneOr c ev))

/-- XOR (R159). -/
def execLaneXor (c : CoreId) (ev : LaneEvent) (s : State) : Host.Outcome State Fault Refusal :=
  onward s (fun s => s.whenClocked c (fun s => s.laneXor c ev))

/-- SHL (R159). -/
def execLaneShl (c : CoreId) (ev : LaneEvent) (s : State) : Host.Outcome State Fault Refusal :=
  onward s (fun s => s.whenClocked c (fun s => s.laneShl c ev))

/-- SHR (R159). -/
def execLaneShr (c : CoreId) (ev : LaneEvent) (s : State) : Host.Outcome State Fault Refusal :=
  onward s (fun s => s.whenClocked c (fun s => s.laneShr c ev))

/-- SAR (R159). -/
def execLaneSar (c : CoreId) (ev : LaneEvent) (s : State) : Host.Outcome State Fault Refusal :=
  onward s (fun s => s.whenClocked c (fun s => s.laneSar c ev))

/-- IADDI (R159). -/
def execLaneIaddi (c : CoreId) (ev : LaneEvent) (s : State) : Host.Outcome State Fault Refusal :=
  onward s (fun s => s.whenClocked c (fun s => s.laneIaddi c ev))

/-- ICMP (R159). -/
def execLaneIcmp (c : CoreId) (ev : LaneEvent) (s : State) : Host.Outcome State Fault Refusal :=
  onward s (fun s => s.whenClocked c (fun s => s.laneIcmp c ev))

/-- ICMPI (R159). -/
def execLaneIcmpi (c : CoreId) (ev : LaneEvent) (s : State) : Host.Outcome State Fault Refusal :=
  onward s (fun s => s.whenClocked c (fun s => s.laneIcmpi c ev))

/-- FADD (R161). -/
def execLaneFadd (c : CoreId) (ev : LaneEvent) (s : State) : Host.Outcome State Fault Refusal :=
  onward s (fun s => s.whenClocked c (fun s => s.laneFadd c ev))

/-- FSUB (R161). -/
def execLaneFsub (c : CoreId) (ev : LaneEvent) (s : State) : Host.Outcome State Fault Refusal :=
  onward s (fun s => s.whenClocked c (fun s => s.laneFsub c ev))

/-- FMUL (R161). -/
def execLaneFmul (c : CoreId) (ev : LaneEvent) (s : State) : Host.Outcome State Fault Refusal :=
  onward s (fun s => s.whenClocked c (fun s => s.laneFmul c ev))

/-- FMA (R161). -/
def execLaneFma (c : CoreId) (ev : LaneEvent) (s : State) : Host.Outcome State Fault Refusal :=
  onward s (fun s => s.whenClocked c (fun s => s.laneFma c ev))

/-- FNMA (R161). -/
def execLaneFnma (c : CoreId) (ev : LaneEvent) (s : State) : Host.Outcome State Fault Refusal :=
  onward s (fun s => s.whenClocked c (fun s => s.laneFnma c ev))

/-- FMIN (R161). -/
def execLaneFmin (c : CoreId) (ev : LaneEvent) (s : State) : Host.Outcome State Fault Refusal :=
  onward s (fun s => s.whenClocked c (fun s => s.laneFmin c ev))

/-- FMAX (R161). -/
def execLaneFmax (c : CoreId) (ev : LaneEvent) (s : State) : Host.Outcome State Fault Refusal :=
  onward s (fun s => s.whenClocked c (fun s => s.laneFmax c ev))

/-- FABS (R159). -/
def execLaneFabs (c : CoreId) (ev : LaneEvent) (s : State) : Host.Outcome State Fault Refusal :=
  onward s (fun s => s.whenClocked c (fun s => s.laneFabs c ev))

/-- FNEG (R159). -/
def execLaneFneg (c : CoreId) (ev : LaneEvent) (s : State) : Host.Outcome State Fault Refusal :=
  onward s (fun s => s.whenClocked c (fun s => s.laneFneg c ev))

/-- FCMP (R161). -/
def execLaneFcmp (c : CoreId) (ev : LaneEvent) (s : State) : Host.Outcome State Fault Refusal :=
  onward s (fun s => s.whenClocked c (fun s => s.laneFcmp c ev))

/-- SEL (R159). -/
def execLaneSel (c : CoreId) (ev : LaneEvent) (s : State) : Host.Outcome State Fault Refusal :=
  onward s (fun s => s.whenClocked c (fun s => s.laneSel c ev))

/-- EXP2 (R165). -/
def execLaneExp2 (c : CoreId) (ev : LaneEvent) (s : State) : Host.Outcome State Fault Refusal :=
  onward s (fun s => s.whenClocked c (fun s => s.laneExp2 c ev))

/-- LOG2 (R165). -/
def execLaneLog2 (c : CoreId) (ev : LaneEvent) (s : State) : Host.Outcome State Fault Refusal :=
  onward s (fun s => s.whenClocked c (fun s => s.laneLog2 c ev))

/-- RCP (R165). -/
def execLaneRcp (c : CoreId) (ev : LaneEvent) (s : State) : Host.Outcome State Fault Refusal :=
  onward s (fun s => s.whenClocked c (fun s => s.laneRcp c ev))

/-- RSQ (R165). -/
def execLaneRsq (c : CoreId) (ev : LaneEvent) (s : State) : Host.Outcome State Fault Refusal :=
  onward s (fun s => s.whenClocked c (fun s => s.laneRsq c ev))

/-- CVTIF (R159). -/
def execLaneCvtif (c : CoreId) (ev : LaneEvent) (s : State) : Host.Outcome State Fault Refusal :=
  onward s (fun s => s.whenClocked c (fun s => s.laneCvtif c ev))

/-- CVTFI (R162). -/
def execLaneCvtfi (c : CoreId) (ev : LaneEvent) (s : State) : Host.Outcome State Fault Refusal :=
  onward s (fun s => s.whenClocked c (fun s => s.laneCvtfi c ev))

/-- CVTQ (R164). -/
def execLaneCvtq (c : CoreId) (ev : LaneEvent) (s : State) : Host.Outcome State Fault Refusal :=
  onward s (fun s => s.whenClocked c (fun s => s.laneCvtq c ev))

/-- PK16 (R163). -/
def execLanePk16 (c : CoreId) (ev : LaneEvent) (s : State) : Host.Outcome State Fault Refusal :=
  onward s (fun s => s.whenClocked c (fun s => s.lanePk16 c ev))

/-- UPK16 (R163). -/
def execLaneUpk16 (c : CoreId) (ev : LaneEvent) (s : State) : Host.Outcome State Fault Refusal :=
  onward s (fun s => s.whenClocked c (fun s => s.laneUpk16 c ev))

/-- HADD (R163). -/
def execLaneHadd (c : CoreId) (ev : LaneEvent) (s : State) : Host.Outcome State Fault Refusal :=
  onward s (fun s => s.whenClocked c (fun s => s.laneHadd c ev))

/-- HSUB (R163). -/
def execLaneHsub (c : CoreId) (ev : LaneEvent) (s : State) : Host.Outcome State Fault Refusal :=
  onward s (fun s => s.whenClocked c (fun s => s.laneHsub c ev))

/-- HMUL (R163). -/
def execLaneHmul (c : CoreId) (ev : LaneEvent) (s : State) : Host.Outcome State Fault Refusal :=
  onward s (fun s => s.whenClocked c (fun s => s.laneHmul c ev))

/-- HFMA (R163). -/
def execLaneHfma (c : CoreId) (ev : LaneEvent) (s : State) : Host.Outcome State Fault Refusal :=
  onward s (fun s => s.whenClocked c (fun s => s.laneHfma c ev))

/-- HMIN (R163). -/
def execLaneHmin (c : CoreId) (ev : LaneEvent) (s : State) : Host.Outcome State Fault Refusal :=
  onward s (fun s => s.whenClocked c (fun s => s.laneHmin c ev))

/-- HMAX (R163). -/
def execLaneHmax (c : CoreId) (ev : LaneEvent) (s : State) : Host.Outcome State Fault Refusal :=
  onward s (fun s => s.whenClocked c (fun s => s.laneHmax c ev))

/-- SHFL (R166). -/
def execLaneShfl (c : CoreId) (ev : LaneEvent) (s : State) : Host.Outcome State Fault Refusal :=
  onward s (fun s => s.whenClocked c (fun s => s.laneShfl c ev))

/-- SHFLX (R166). -/
def execLaneShflx (c : CoreId) (ev : LaneEvent) (s : State) : Host.Outcome State Fault Refusal :=
  onward s (fun s => s.whenClocked c (fun s => s.laneShflx c ev))

/-- RED (R166). -/
def execLaneRed (c : CoreId) (ev : LaneEvent) (s : State) : Host.Outcome State Fault Refusal :=
  onward s (fun s => s.whenClocked c (fun s => s.laneRed c ev))

/-- RAND (R167). -/
def execLaneRand (c : CoreId) (ev : LaneEvent) (s : State) : Host.Outcome State Fault Refusal :=
  onward s (fun s => s.whenClocked c (fun s => s.laneRand c ev))

/-- SEED (R167). -/
def execLaneSeed (c : CoreId) (ev : LaneEvent) (s : State) : Host.Outcome State Fault Refusal :=
  onward s (fun s => s.whenClocked c (fun s => s.laneSeed c ev))

/-- PAND (R159). -/
def execLanePand (c : CoreId) (ev : LaneEvent) (s : State) : Host.Outcome State Fault Refusal :=
  onward s (fun s => s.whenClocked c (fun s => s.lanePand c ev))

/-- POR (R159). -/
def execLanePor (c : CoreId) (ev : LaneEvent) (s : State) : Host.Outcome State Fault Refusal :=
  onward s (fun s => s.whenClocked c (fun s => s.lanePor c ev))

/-- PNOT (R159). -/
def execLanePnot (c : CoreId) (ev : LaneEvent) (s : State) : Host.Outcome State Fault Refusal :=
  onward s (fun s => s.whenClocked c (fun s => s.lanePnot c ev))

end Sys2Proof.Machine
end

