-- ==== Sys2Proof/Machine/LinkCmds.lean ====
section
/-! DEFINITION. What the commands of one family do: the Mesoax links and the guest ports. -/

namespace Sys2Proof.Machine

/-- MESOAX_FLIT_RECEIVE (R369). -/
def execMesoaxFlitReceive (site : Nat) (n : Nat) (bundle : Nat) (f : Flit) (flip : Nat) (s : State) : Host.Outcome State Fault Refusal :=
  onward s (fun s => s.flitReceive site n bundle f flip)

/-- CTL_ACK (R369). -/
def execCtlAck (site : Nat) (n : Nat) (bundle : Nat) (arg : Nat) (s : State) : Host.Outcome State Fault Refusal :=
  onward s (fun s => s.ctlReceive site n bundle 9 arg)

/-- CTL_NAK (R369). -/
def execCtlNak (site : Nat) (n : Nat) (bundle : Nat) (arg : Nat) (s : State) : Host.Outcome State Fault Refusal :=
  onward s (fun s => s.ctlReceive site n bundle 0xA arg)

/-- CTL_RETRAIN (R370). -/
def execCtlRetrain (site : Nat) (n : Nat) (bundle : Nat) (arg : Nat) (s : State) : Host.Outcome State Fault Refusal :=
  onward s (fun s => s.ctlReceive site n bundle 0xB arg)

/-- CTL_CREDIT (R247). -/
def execCtlCredit (site : Nat) (n : Nat) (bundle : Nat) (counter : Nat) (arg : Nat) (s : State) : Host.Outcome State Fault Refusal :=
  onward s (fun s => if counter ≤ 8 then s.ctlReceive site n bundle counter arg else s)

/-- NAK_REPEAT_TIMEOUT (R369). -/
def execNakRepeatTimeout (site : Nat) (n : Nat) (bundle : Nat) (s : State) : Host.Outcome State Fault Refusal :=
  onward s (fun s => s.nakRepeat site n bundle)

/-- ML_RETRAIN (R370). -/
def execMlRetrain (site : Nat) (n : Nat) (s : State) : Host.Outcome State Fault Refusal :=
  onward s (fun s => s.onPage site (0x10 + n) 0x104 (fun s => s.retrain site n))

/-- LINK_TRAINING_DONE (R373). -/
def execLinkTrainingDone (site : Nat) (n : Nat) (tests : List (List Nat)) (rtt : Nat) (s : State) : Host.Outcome State Fault Refusal :=
  onward s (fun s => (s.trainingDone site n tests rtt).graftLinks.followUp)

/-- BUNDLE_TRAIN_TIMEOUT (R373). -/
def execBundleTrainTimeout (site : Nat) (n : Nat) (bundle : Nat) (s : State) : Host.Outcome State Fault Refusal :=
  onward s (fun s => s.bundleTimeout site n bundle)

/-- GU_ENABLE (R382). -/
def execGuEnable (site : Nat) (value : Bool) (s : State) : Host.Outcome State Fault Refusal :=
  onward s (fun s => s.onPage site 0x20 0x100 (fun s => s.guEnable site value))

/-- GU_RETRAIN (R382). -/
def execGuRetrain (site : Nat) (s : State) : Host.Outcome State Fault Refusal :=
  onward s (fun s => s.onPage site 0x20 0x100 (fun s => s.guRetrain site))

/-- UCIE_TRAINING_DONE (R374). -/
def execUcieTrainingDone (site : Nat) (ok : Bool) (speed : Nat) (repaired : Nat) (s : State) : Host.Outcome State Fault Refusal :=
  onward s (fun s => s.ucieDone site ok speed repaired)

/-- CAP_RSP (R375). -/
def execCapRsp (site : Nat) (version : Nat) (rxbuf : Nat) (ident : Nat) (s : State) : Host.Outcome State Fault Refusal :=
  onward s (fun s => s.capRsp site version rxbuf ident)

/-- CAP_RSP_TIMEOUT (R375). -/
def execCapRspTimeout (site : Nat) (s : State) : Host.Outcome State Fault Refusal :=
  onward s (fun s => s.capTimeout site)

/-- GUEST_PACKET_RECEIVE (R377). -/
def execGuestPacketReceive (site : Nat) (p : Pkt) (retries : Nat) (s : State) : Host.Outcome State Fault Refusal :=
  onward s (fun s => s.guestPacket site p retries)

/-- GUEST_LINK_DOWN (R378). -/
def execGuestLinkDown (site : Nat) (back : Bool) (s : State) : Host.Outcome State Fault Refusal :=
  onward s (fun s => s.guestDown site back)

end Sys2Proof.Machine
end

