-- ==== Sys2Proof/Machine/NetworkCmds.lean ====
section
/-! DEFINITION. What the commands of one family do: responses and multicast on the bulk network. -/

namespace Sys2Proof.Machine

/-- MCAST_PACKET (R260). -/
def execMcastPacket (site : Nat) (p : Pkt) (room : Bool) (s : State) : Host.Outcome State Fault Refusal :=
  onward s (fun s => s.mcPacket site p room)

/-- READ_RSP (R254). -/
def execReadRsp (site : Nat) (p : Pkt) (s : State) : Host.Outcome State Fault Refusal :=
  onward s (fun s => s.readRsp site p)

/-- WRITE_ACK (R123). -/
def execWriteAck (site : Nat) (p : Pkt) (s : State) : Host.Outcome State Fault Refusal :=
  onward s (fun s => s.writeAck site p)

/-- ACCUM_ACK (R257). -/
def execAccumAck (site : Nat) (p : Pkt) (s : State) : Host.Outcome State Fault Refusal :=
  onward s (fun s => s.accumAck site p)

/-- MCAST_ACK (R262). -/
def execMcastAck (site : Nat) (p : Pkt) (s : State) : Host.Outcome State Fault Refusal :=
  onward s (fun s => s.mcastAck site p)

/-- MCAST_DROP (R262). -/
def execMcastDrop (site : Nat) (p : Pkt) (s : State) : Host.Outcome State Fault Refusal :=
  onward s (fun s => s.mcastDrop site p)

/-- RSP_TIMEOUT (R254). -/
def execRspTimeout (site : Nat) (unit : Nat) (tag : Nat) (s : State) : Host.Outcome State Fault Refusal :=
  onward s (fun s => s.rspTimeout site unit tag)

/-- MCAST_HOLD_TIMEOUT (R261). -/
def execMcastHoldTimeout (site : Nat) (s : State) : Host.Outcome State Fault Refusal :=
  onward s (fun s => s.mcTimeout site)

/-- MCAST_HOLD_EJECT (R260). -/
def execMcastHoldEject (site : Nat) (s : State) : Host.Outcome State Fault Refusal :=
  onward s (fun s => s.mcEject site)

end Sys2Proof.Machine
end

