-- ==== Sys2Proof/Machine/PinCmds.lean ====
section
/-! DEFINITION. What the commands of one family do: the connector pins, JTAG and the UART. -/

namespace Sys2Proof.Machine

/-- PWR_EN_RISE (R482). -/
def execPwrEnRise (lowUs : Nat) (inputOk : Bool) (s : State) : Host.Outcome State Fault Refusal :=
  onward s (fun s => s.pwrEnRise lowUs inputOk)

/-- STANDBY_POWER_GOOD (R482). -/
def execStandbyPowerGood (s : State) : Host.Outcome State Fault Refusal :=
  onward s (fun s => s.standbyGood)

/-- PWR_EN_FALL (R483). -/
def execPwrEnFall (s : State) : Host.Outcome State Fault Refusal :=
  onward s (fun s => s.pwrEnFall)

/-- PANEL_RST_N_RISE (R482). -/
def execPanelRstNRise (s : State) : Host.Outcome State Fault Refusal :=
  onward s (fun s => s.rstRise)

/-- PANEL_RST_N_FALL (R483). -/
def execPanelRstNFall (s : State) : Host.Outcome State Fault Refusal :=
  onward s (fun s => s.rstFall)

/-- INPUT_UNDERVOLTAGE (R475). -/
def execInputUndervoltage (s : State) : Host.Outcome State Fault Refusal :=
  onward s (fun s => s.inputLost)

/-- INPUT_OVERVOLTAGE (R475). -/
def execInputOvervoltage (s : State) : Host.Outcome State Fault Refusal :=
  onward s (fun s => s.inputLost)

/-- TRST_N_ASSERT (R487). -/
def execTrstNAssert (low : Bool) (s : State) : Host.Outcome State Fault Refusal :=
  onward s (fun s => s.trst low)

/-- BYPASS (R487). -/
def execBypass (site : Nat) (s : State) : Host.Outcome State Fault Refusal :=
  onward s (fun s => s.jtagBypass site)

/-- IDCODE (R487). -/
def execIdcode (site : Nat) (s : State) : Host.Outcome State Fault Refusal :=
  onward s (fun s => s.jtagIdcode site)

/-- SAMPLE_PRELOAD (R487). -/
def execSamplePreload (site : Nat) (levels : Nat) (preload : Nat) (s : State) : Host.Outcome State Fault Refusal :=
  onward s (fun s => s.jtagSample site levels preload)

/-- EXTEST (R487). -/
def execExtest (site : Nat) (next : Nat) (s : State) : Host.Outcome State Fault Refusal :=
  onward s (fun s => s.jtagExtest site next)

/-- UART_LINE_SENT (R486). -/
def execUartLineSent (s : State) : Host.Outcome State Fault Refusal :=
  onward s (fun s => s.uartSent)

end Sys2Proof.Machine
end

