-- ==== Sys2Proof/Machine/PowerCmds.lean ====
section
/-! DEFINITION. What the commands of one family do: power. -/

namespace Sys2Proof.Machine

/-- CORE_POWER_STAGE (R437). -/
def execCorePowerStage (c : CoreId) (s : State) : Host.Outcome State Fault Refusal :=
  onward s (fun s => s.powerStage c)

/-- CORE_POWER_UP_DONE (R437). -/
def execCorePowerUpDone (c : CoreId) (s : State) : Host.Outcome State Fault Refusal :=
  onward s (fun s => (s.powerUp c).regrown c)

/-- ADMISSION_GRANT (R441). -/
def execAdmissionGrant (site : Nat) (mA : Nat) (s : State) : Host.Outcome State Fault Refusal :=
  onward s (fun s => s.admGrant site mA)

/-- ADMISSION_WAIT_EXPIRE (R442). -/
def execAdmissionWaitExpire (site : Nat) (s : State) : Host.Outcome State Fault Refusal :=
  onward s (fun s => s.admWait site)

/-- CORE_OFF_DELAY_EXPIRE (R438). -/
def execCoreOffDelayExpire (c : CoreId) (s : State) : Host.Outcome State Fault Refusal :=
  onward s (fun s => s.coreOff c)

/-- HEADER_OVERCURRENT (R439). -/
def execHeaderOvercurrent (c : CoreId) (s : State) : Host.Outcome State Fault Refusal :=
  onward s (fun s => s.overcurrent c)

/-- RAMP_NOTICE_APPLY (R443). -/
def execRampNoticeApply (c : CoreId) (s : State) : Host.Outcome State Fault Refusal :=
  onward s (fun s => s.rampApply c)

/-- RAMP_HOLD_EXPIRE (R443). -/
def execRampHoldExpire (c : CoreId) (s : State) : Host.Outcome State Fault Refusal :=
  onward s (fun s => s.rampEnd c)

/-- CAP_WINDOW (R446). -/
def execCapWindow (site : Nat) (watts : Nat) (s : State) : Host.Outcome State Fault Refusal :=
  onward s (fun s => s.capWindow site watts)

/-- PP_IN_SAMPLE (R449). -/
def execPpInSample (readings : List Nat) (s : State) : Host.Outcome State Fault Refusal :=
  onward s (fun s => s.ppSample readings)

/-- PP_CEIL_WRITE (R445). -/
def execPpCeilWrite (value : Nat) (s : State) : Host.Outcome State Fault Refusal :=
  onward s (fun s => s.onPage s.steward 2 0x100 (fun s => s.ppCeil value))

/-- PP_APPLY (R444). -/
def execPpApply (s : State) : Host.Outcome State Fault Refusal :=
  onward s (fun s => s.onPage s.steward 2 0x128 (fun s => s.ppApply))

/-- PHASE_FAIL (R450). -/
def execPhaseFail (site : Nat) (group : Nat) (phase : Nat) (s : State) : Host.Outcome State Fault Refusal :=
  onward s (fun s => s.phaseFail site group phase)

/-- GROUP_BREAKER_OPEN (R451). -/
def execGroupBreakerOpen (site : Nat) (group : Nat) (s : State) : Host.Outcome State Fault Refusal :=
  onward s (fun s => s.groupTrip site group)

/-- PLOT_BREAKER_OPEN (R451). -/
def execPlotBreakerOpen (plot : Nat) (s : State) : Host.Outcome State Fault Refusal :=
  onward s (fun s => s.plotTrip plot)

/-- CRACK_DETECT (R452). -/
def execCrackDetect (group : Nat) (drop : Nat) (s : State) : Host.Outcome State Fault Refusal :=
  onward s (fun s => s.crack group drop)

end Sys2Proof.Machine
end

