-- ==== Sys2Proof/Machine/RegisterCmds.lean ====
section
/-! DEFINITION. What the commands of one family do: register accesses that have no row of their own, and the core controls. -/

namespace Sys2Proof.Machine

/-- REGISTER_WRITE (R10). -/
def execRegisterWrite (site : Nat) (page : Nat) (off : Nat) (value : Nat) (master : Nat) (src : Nat) (s : State) : Host.Outcome State Fault Refusal :=
  onward s (fun s => s.regWrite site page off value master src)

/-- PG_RESET (R40). -/
def execPgReset (site : Nat) (page : Nat) (s : State) : Host.Outcome State Fault Refusal :=
  onward s (fun s => s.pgReset site page)

/-- CB_DBG_DATA_ACCESS (R200). -/
def execCbDbgDataAccess (c : CoreId) (w : Option Nat) (s : State) : Host.Outcome State Fault Refusal :=
  onward s (fun s => s.onPage c.site (0x43 + 4 * c.slot) 0x10C (fun s => s.dbgAccess c w))

/-- SQ_SEED_HI_WRITE (R147). -/
def execSqSeedHiWrite (c : CoreId) (value : Nat) (s : State) : Host.Outcome State Fault Refusal :=
  onward s (fun s => s.onPage c.site (0x41 + 4 * c.slot) 0x154 (fun s => s.seedHi c value))

/-- CORE_HALT (R145). -/
def execCoreHalt (c : CoreId) (value : Bool) (s : State) : Host.Outcome State Fault Refusal :=
  onward s (fun s => s.onPage c.site (0x40 + 4 * c.slot) 0x104 (fun s => s.coreHalt c value))

/-- CORE_STEP (R145). -/
def execCoreStep (c : CoreId) (s : State) : Host.Outcome State Fault Refusal :=
  onward s (fun s => s.onPage c.site (0x40 + 4 * c.slot) 0x104 (fun s => s.coreStep c))

end Sys2Proof.Machine
end

