-- ==== Sys2Proof/Machine/ReplayCmds.lean ====
section
/-! DEFINITION. What the commands of one family do: replays and health. -/

namespace Sys2Proof.Machine

/-- REPLAY_DRAIN_END (R497). -/
def execReplayDrainEnd (part : Nat) (s : State) : Host.Outcome State Fault Refusal :=
  onward s (fun s => (s.drainEndReplay part).followUp)

/-- REPLAY_RESTART (R497). -/
def execReplayRestart (part : Nat) (s : State) : Host.Outcome State Fault Refusal :=
  onward s (fun s => s.replayRestart part)

/-- RP_RESUME (R501). -/
def execRpResume (s : State) : Host.Outcome State Fault Refusal :=
  onward s (fun s => s.onPage s.steward 0x25 0x158 (fun s => s.rpResume))

/-- RP_ABANDON (R501). -/
def execRpAbandon (s : State) : Host.Outcome State Fault Refusal :=
  onward s (fun s => s.onPage s.steward 0x25 0x158 (fun s => s.rpAbandon))

/-- LR_GO (R503). -/
def execLrGo (s : State) : Host.Outcome State Fault Refusal :=
  onward s (fun s => s.onPage s.steward 0x25 0x184 (fun s => s.lrGo))

/-- LR_COPY_DONE (R503). -/
def execLrCopyDone (s : State) : Host.Outcome State Fault Refusal :=
  onward s (fun s => s.lrDone)

/-- HEALTH_DECAY (R504). -/
def execHealthDecay (s : State) : Host.Outcome State Fault Refusal :=
  onward s (fun s => s.healthDecay)

end Sys2Proof.Machine
end

