-- ==== Sys2Proof/Machine/SecurityCmds.lean ====
section
/-! DEFINITION. What the commands of one family do: DOE, attestation and the security die. -/

namespace Sys2Proof.Machine

/-- DOE_DISCOVERY (R357). -/
def execDoeDiscovery (port : Nat) (index : Nat) (s : State) : Host.Outcome State Fault Refusal :=
  onward s (fun s => s.doeDiscovery port index)

/-- CDAT_TABLE_ACCESS (R357). -/
def execCdatTableAccess (port : Nat) (s : State) : Host.Outcome State Fault Refusal :=
  onward s (fun s => s.cdatAccess port)

/-- DOE_ABORT (R357). -/
def execDoeAbort (port : Nat) (s : State) : Host.Outcome State Fault Refusal :=
  onward s (fun s => s.doeStop port)

/-- GET_INFO (R557). -/
def execGetInfo (port : Nat) (version : Nat) (payload : List Byte) (s : State) : Host.Outcome State Fault Refusal :=
  onward s (fun s => s.getInfo port version payload)

/-- GET_CERT (R557). -/
def execGetCert (port : Nat) (version : Nat) (payload : List Byte) (s : State) : Host.Outcome State Fault Refusal :=
  onward s (fun s => s.getCert port version payload)

/-- GET_MEAS (R557). -/
def execGetMeas (port : Nat) (version : Nat) (payload : List Byte) (s : State) : Host.Outcome State Fault Refusal :=
  onward s (fun s => s.getMeas port version payload)

/-- ATTEST (R558). -/
def execAttest (port : Nat) (version : Nat) (payload : List Byte) (s : State) : Host.Outcome State Fault Refusal :=
  onward s (fun s => s.attest port version payload)

/-- DEBUG_CHALLENGE (R559). -/
def execDebugChallenge (port : Nat) (version : Nat) (payload : List Byte) (s : State) : Host.Outcome State Fault Refusal :=
  onward s (fun s => s.debugChallenge port version payload)

/-- DEBUG_AUTH (R559). -/
def execDebugAuth (port : Nat) (version : Nat) (payload : List Byte) (s : State) : Host.Outcome State Fault Refusal :=
  onward s (fun s => s.debugAuth port version payload)

/-- COMMIT_SVN (R551). -/
def execCommitSvn (fails : Nat) (s : State) : Host.Outcome State Fault Refusal :=
  onward s (fun s => s.onPage 308 0x20 0x118 (fun s => s.commitSvn fails))

/-- EXTEND (R556). -/
def execExtend (slot : Nat) (s : State) : Host.Outcome State Fault Refusal :=
  onward s (fun s => s.onPage 308 0x20 0x118 (fun s => s.secExtend slot))

/-- CLOSE_DEBUG (R559). -/
def execCloseDebug (s : State) : Host.Outcome State Fault Refusal :=
  onward s (fun s => s.onPage 308 0x20 0x118 (fun s => s.closeDebug))

end Sys2Proof.Machine
end

