-- ==== Sys2Proof/Machine/SequencerCmds.lean ====
section
/-! DEFINITION. What the commands of one family do: the descriptors the sequencer executes itself, wait sets, and their timeouts. -/

namespace Sys2Proof.Machine

/-- WAIT_SET_EVAL (R112). -/
def execWaitSetEval (c : CoreId) (s : State) : Host.Outcome State Fault Refusal :=
  onward s (fun s => s.whenClocked c (fun s => s.waitSetEval c))

/-- WAIT_SET_TIMEOUT (R113). -/
def execWaitSetTimeout (c : CoreId) (s : State) : Host.Outcome State Fault Refusal :=
  onward s (fun s => s.whenClocked c (fun s => s.waitSetTimeout c))

/-- NOP (R139). -/
def execNop (c : CoreId) (s : State) : Host.Outcome State Fault Refusal :=
  onward s (fun s => s.whenClocked c (fun s => s.seqNop c))

/-- HALT (R139). -/
def execHalt (c : CoreId) (s : State) : Host.Outcome State Fault Refusal :=
  onward s (fun s => s.whenClocked c (fun s => s.seqHalt c))

/-- STEP_END (R140). -/
def execStepEnd (c : CoreId) (s : State) : Host.Outcome State Fault Refusal :=
  onward s (fun s => s.whenClocked c (fun s => s.seqStepEnd c))

/-- HINT (R141). -/
def execHint (c : CoreId) (s : State) : Host.Outcome State Fault Refusal :=
  onward s (fun s => s.whenClocked c (fun s => s.seqHint c))

/-- JUMP (R138). -/
def execJump (c : CoreId) (s : State) : Host.Outcome State Fault Refusal :=
  onward s (fun s => s.whenClocked c (fun s => s.seqJump c))

/-- CALL (R138). -/
def execCall (c : CoreId) (s : State) : Host.Outcome State Fault Refusal :=
  onward s (fun s => s.whenClocked c (fun s => s.seqCall c))

/-- RET (R138). -/
def execRet (c : CoreId) (s : State) : Host.Outcome State Fault Refusal :=
  onward s (fun s => s.whenClocked c (fun s => s.seqRet c))

/-- LOOP (R137). -/
def execLoop (c : CoreId) (s : State) : Host.Outcome State Fault Refusal :=
  onward s (fun s => s.whenClocked c (fun s => s.seqLoop c))

/-- ENDLOOP (R137). -/
def execEndloop (c : CoreId) (s : State) : Host.Outcome State Fault Refusal :=
  onward s (fun s => s.whenClocked c (fun s => s.seqEndloop c))

/-- SIGNAL (R134). -/
def execSignal (c : CoreId) (s : State) : Host.Outcome State Fault Refusal :=
  onward s (fun s => s.whenClocked c (fun s => s.seqSignal c))

/-- WAIT (R135). -/
def execWait (c : CoreId) (s : State) : Host.Outcome State Fault Refusal :=
  onward s (fun s => s.whenClocked c (fun s => s.seqWait c))

/-- BARRIER (R136). -/
def execBarrier (c : CoreId) (s : State) : Host.Outcome State Fault Refusal :=
  onward s (fun s => s.whenClocked c (fun s => s.seqBarrier c))

/-- ENQ (R142). -/
def execEnq (c : CoreId) (s : State) : Host.Outcome State Fault Refusal :=
  onward s (fun s => s.whenClocked c (fun s => s.seqEnq c))

/-- WAIT_TIMEOUT (R288). -/
def execWaitTimeout (c : CoreId) (s : State) : Host.Outcome State Fault Refusal :=
  onward s (fun s => s.whenClocked c (fun s => s.waitTimeout c))

/-- ENQ_FULL_TIMEOUT (R142). -/
def execEnqFullTimeout (c : CoreId) (s : State) : Host.Outcome State Fault Refusal :=
  onward s (fun s => s.whenClocked c (fun s => s.enqTimeout c))

end Sys2Proof.Machine
end

