-- ==== Sys2Proof/Machine/StackCmds.lean ====
section
/-! DEFINITION. What the commands of one family do: the memory stacks and the bulk packets they take. -/

namespace Sys2Proof.Machine

/-- LINE_FILL_DONE (R211). -/
def execLineFillDone (site : Nat) (line : Nat) (bad : Nat) (s : State) : Host.Outcome State Fault Refusal :=
  onward s (fun s => s.lineFill site line bad)

/-- CRC_REREAD_DONE (R223). -/
def execCrcRereadDone (site : Nat) (good : Bool) (s : State) : Host.Outcome State Fault Refusal :=
  onward s (fun s => s.rereadDone site good)

/-- CHANNEL_CONTACT_LOST (R224). -/
def execChannelContactLost (site : Nat) (channel : Nat) (s : State) : Host.Outcome State Fault Refusal :=
  onward s (fun s => s.contactLost site channel)

/-- SC_FLUSH (R213). -/
def execScFlush (site : Nat) (s : State) : Host.Outcome State Fault Refusal :=
  onward s (fun s => s.onPage site 0x20 0x100 (fun s => s.scFlush site))

/-- SC_INVAL (R213). -/
def execScInval (site : Nat) (s : State) : Host.Outcome State Fault Refusal :=
  onward s (fun s => s.onPage site 0x20 0x100 (fun s => s.scInval site))

/-- FLUSH_DONE (R213). -/
def execFlushDone (site : Nat) (s : State) : Host.Outcome State Fault Refusal :=
  onward s (fun s => s.flushDone site)

/-- SC_SLEEP_WRITE (R228). -/
def execScSleepWrite (site : Nat) (value : Bool) (s : State) : Host.Outcome State Fault Refusal :=
  onward s (fun s => s.onPage site 0x20 0x100 (fun s => s.sleepWrite site value))

/-- SELF_REFRESH_ENTERED (R228). -/
def execSelfRefreshEntered (site : Nat) (s : State) : Host.Outcome State Fault Refusal :=
  onward s (fun s => s.refreshEntered site)

/-- WAKE_DONE (R228). -/
def execWakeDone (site : Nat) (s : State) : Host.Outcome State Fault Refusal :=
  onward s (fun s => s.wakeDone site)

/-- REFRESH_TICK (R227). -/
def execRefreshTick (site : Nat) (channel : Nat) (s : State) : Host.Outcome State Fault Refusal :=
  onward s (fun s => s.refreshTick site channel)

/-- PREFETCH_FILL_DONE (R214). -/
def execPrefetchFillDone (site : Nat) (line : Nat) (bad : Nat) (s : State) : Host.Outcome State Fault Refusal :=
  onward s (fun s => s.prefetchFill site line bad)

/-- PF_IDLE_EXPIRE (R214). -/
def execPfIdleExpire (site : Nat) (entry : Nat) (s : State) : Host.Outcome State Fault Refusal :=
  onward s (fun s => s.pfIdle site entry)

/-- ACCUM_APPLIED (R218). -/
def execAccumApplied (site : Nat) (s : State) : Host.Outcome State Fault Refusal :=
  onward s (fun s => s.accumApplied site)

/-- DG_GO (R221). -/
def execDgGo (site : Nat) (s : State) : Host.Outcome State Fault Refusal :=
  onward s (fun s => s.onPage site 0x22 0x11C (fun s => s.dgGo site))

/-- DIGEST_DONE (R221). -/
def execDigestDone (site : Nat) (s : State) : Host.Outcome State Fault Refusal :=
  onward s (fun s => s.digestDone site)

/-- MG_START (R231). -/
def execMgStart (site : Nat) (s : State) : Host.Outcome State Fault Refusal :=
  onward s (fun s => s.onPage site 0x22 0x140 (fun s => s.mgStart site))

/-- MG_ABORT (R231). -/
def execMgAbort (site : Nat) (s : State) : Host.Outcome State Fault Refusal :=
  onward s (fun s => s.onPage site 0x22 0x140 (fun s => s.mgAbort site))

/-- MG_RELEASE (R231). -/
def execMgRelease (site : Nat) (s : State) : Host.Outcome State Fault Refusal :=
  onward s (fun s => s.onPage site 0x22 0x140 (fun s => s.mgRelease site))

/-- MG_LINE_COPY_ACK (R231). -/
def execMgLineCopyAck (site : Nat) (s : State) : Host.Outcome State Fault Refusal :=
  onward s (fun s => (s.mgLineAck site).followUp)

/-- READ (R206). -/
def execRead (site : Nat) (p : Pkt) (ev : StkEvent) (s : State) : Host.Outcome State Fault Refusal :=
  onward s (fun s => s.readPacket site p ev)

/-- WRITE (R206). -/
def execWrite (site : Nat) (p : Pkt) (s : State) : Host.Outcome State Fault Refusal :=
  onward s (fun s => s.writePacket site p)

/-- WRITE_PARTIAL (R211). -/
def execWritePartial (site : Nat) (p : Pkt) (ev : StkEvent) (s : State) : Host.Outcome State Fault Refusal :=
  onward s (fun s => s.partialPacket site p ev)

/-- FETCH (R126). -/
def execFetch (site : Nat) (p : Pkt) (ev : StkEvent) (s : State) : Host.Outcome State Fault Refusal :=
  onward s (fun s => s.fetchPacket site p ev)

/-- PREFETCH (R215). -/
def execPrefetch (site : Nat) (p : Pkt) (s : State) : Host.Outcome State Fault Refusal :=
  onward s (fun s => s.prefetchPacket site p)

/-- ACCUM_PACKET (R257). -/
def execAccumPacket (site : Nat) (p : Pkt) (s : State) : Host.Outcome State Fault Refusal :=
  onward s (fun s => s.accumPacket site p)

/-- NM_SEED_HI_WRITE (R219). -/
def execNmSeedHiWrite (site : Nat) (value : Nat) (s : State) : Host.Outcome State Fault Refusal :=
  onward s (fun s => s.onPage site 0x22 0x108 (fun s => s.nmSeedHi site value))

end Sys2Proof.Machine
end

