-- ==== Sys2Proof/Machine/StoreCmds.lean ====
section
/-! DEFINITION. What the commands of one family do: core memory and die memory. -/

namespace Sys2Proof.Machine

/-- DIEMEM_SLOT_ACCESS (R185). -/
def execDiememSlotAccess (c : CoreId) (addr : Nat) (len : Nat) (data : Option (List Byte)) (fails : Bool) (id : Nat) (s : State) : Host.Outcome State Fault Refusal :=
  onward s (fun s => s.whenClocked c (fun s => s.dieMemAccess c addr len data fails id))

/-- DIEMEM_REREAD (R195). -/
def execDiememReread (c : CoreId) (good : Bool) (s : State) : Host.Outcome State Fault Refusal :=
  onward s (fun s => s.whenClocked c (fun s => s.dieReread c good))

/-- DIEMEM_REGION_WRITE (R202). -/
def execDiememRegionWrite (site : Nat) (value : Nat) (s : State) : Host.Outcome State Fault Refusal :=
  onward s (fun s => s.onPage site 9 0x104 (fun s => s.regionSet site value s.stewardMaster))

/-- DIEMEM_SCRUB (R202). -/
def execDiememScrub (site : Nat) (region : Nat) (s : State) : Host.Outcome State Fault Refusal :=
  onward s (fun s => s.onPage site 9 0x104 (fun s => s.scrubWrite site region))

/-- SCRUB_DONE (R192). -/
def execScrubDone (site : Nat) (region : Nat) (s : State) : Host.Outcome State Fault Refusal :=
  onward s (fun s => s.scrubDone site region)

/-- CORE_ZERO_FILL_DONE (R192). -/
def execCoreZeroFillDone (c : CoreId) (s : State) : Host.Outcome State Fault Refusal :=
  onward s (fun s => s.whenClocked c (fun s => s.zeroFillDone c))

/-- MEM_FILL_COPY_DONE (R193). -/
def execMemFillCopyDone (c : CoreId) (s : State) : Host.Outcome State Fault Refusal :=
  onward s (fun s => s.whenClocked c (fun s => s.fillCopyDone c))

/-- CORE_MEMORY_ACCESS (R180). -/
def execCoreMemoryAccess (c : CoreId) (addr : Nat) (len : Nat) (data : Option (List Byte)) (fails : Nat) (id : Nat) (s : State) : Host.Outcome State Fault Refusal :=
  onward s (fun s => s.whenClocked c (fun s => s.coreMemAccess c addr len data fails id))

end Sys2Proof.Machine
end

