-- ==== Sys2Proof/Machine/SyncCmds.lean ====
section
/-! DEFINITION. What the commands of one family do: the messages and commands of the sync units. -/

namespace Sys2Proof.Machine

/-- SYNC_SIGNAL (R284). -/
def execSyncSignal (m : SyncMsg) (s : State) : Host.Outcome State Fault Refusal :=
  onward s (fun s => s.whenTurn (.sync m) (fun s => s.syncSignal m))

/-- SYNC_WAIT (R287). -/
def execSyncWait (m : SyncMsg) (s : State) : Host.Outcome State Fault Refusal :=
  onward s (fun s => s.whenTurn (.sync m) (fun s => s.syncWait m))

/-- SYNC_CANCEL (R288). -/
def execSyncCancel (m : SyncMsg) (s : State) : Host.Outcome State Fault Refusal :=
  onward s (fun s => s.whenTurn (.sync m) (fun s => s.syncCancel m))

/-- SYNC_ARRIVE (R290). -/
def execSyncArrive (m : SyncMsg) (s : State) : Host.Outcome State Fault Refusal :=
  onward s (fun s => s.whenTurn (.sync m) (fun s => s.syncArrive m))

/-- SYNC_WAKE (R282). -/
def execSyncWake (m : SyncMsg) (s : State) : Host.Outcome State Fault Refusal :=
  onward s (fun s => s.whenTurn (.sync m) (fun s => s.wakeArrives m))

/-- SYNC_BROKEN (R296). -/
def execSyncBroken (m : SyncMsg) (s : State) : Host.Outcome State Fault Refusal :=
  onward s (fun s => s.whenTurn (.sync m) (fun s => s.brokenArrives m))

/-- WAIT_RESEND (R287). -/
def execWaitResend (site : Nat) (slot : Nat) (s : State) : Host.Outcome State Fault Refusal :=
  onward s (fun s => s.resendWaits site slot)

/-- SY_VALUE_WRITE (R298). -/
def execSyValueWrite (site : Nat) (value : Nat) (s : State) : Host.Outcome State Fault Refusal :=
  onward s (fun s => s.onPage site 8 0x104 (fun s => s.syValueWrite site value))

/-- SY_OWNER_WRITE (R298). -/
def execSyOwnerWrite (site : Nat) (value : Nat) (s : State) : Host.Outcome State Fault Refusal :=
  onward s (fun s => s.onPage site 8 0x108 (fun s => s.syOwnerSet site value s.stewardMaster))

/-- SY_CMD_SIGNAL (R299). -/
def execSyCmdSignal (site : Nat) (src : Nat) (s : State) : Host.Outcome State Fault Refusal :=
  onward s (fun s => s.onPage site 8 0x130 (fun s => s.syCmdSignal site src))

/-- SY_CMD_BREAK (R299). -/
def execSyCmdBreak (site : Nat) (s : State) : Host.Outcome State Fault Refusal :=
  onward s (fun s => s.onPage site 8 0x130 (fun s => s.syCmdBreak site))

/-- SY_CMD_PURGE (R299). -/
def execSyCmdPurge (site : Nat) (s : State) : Host.Outcome State Fault Refusal :=
  onward s (fun s => s.onPage site 8 0x130 (fun s => s.syCmdPurge site))

/-- SY_CMD_SNAPSHOT (R299). -/
def execSyCmdSnapshot (site : Nat) (s : State) : Host.Outcome State Fault Refusal :=
  onward s (fun s => s.onPage site 8 0x130 (fun s => s.syCmdSnapshot site))

/-- SY_CMD_RESTORE (R294). -/
def execSyCmdRestore (site : Nat) (s : State) : Host.Outcome State Fault Refusal :=
  onward s (fun s => s.onPage site 8 0x130 (fun s => s.syCmdRestore site))

/-- SY_CMD_CLEAR (R299). -/
def execSyCmdClear (site : Nat) (s : State) : Host.Outcome State Fault Refusal :=
  onward s (fun s => s.onPage site 8 0x130 (fun s => s.syCmdClear site))

/-- SY_CMD_DONE (R299). -/
def execSyCmdDone (site : Nat) (s : State) : Host.Outcome State Fault Refusal :=
  onward s (fun s => s.syCmdDone site)

/-- SY_XLT_INV (R281). -/
def execSyXltInv (site : Nat) (s : State) : Host.Outcome State Fault Refusal :=
  onward s (fun s => s.onPage site 8 0x13C (fun s => s.xltInv site))

end Sys2Proof.Machine
end

