-- ==== Sys2Proof/Machine/ThermalCmds.lean ====
section
/-! DEFINITION. What the commands of one family do: temperature and cooling. -/

namespace Sys2Proof.Machine

/-- SENSOR_READ (R464). -/
def execSensorRead (site : Nat) (temps : List Nat) (s : State) : Host.Outcome State Fault Refusal :=
  onward s (fun s => s.sensorRead site temps)

/-- TRAY_SENSOR_READ (R462). -/
def execTraySensorRead (inlet : Option Nat) (outlet : Option Nat) (flow : Option Nat) (s : State) : Host.Outcome State Fault Refusal :=
  onward s (fun s => s.trayRead inlet outlet flow)

/-- TH_SHED_WRITE (R467). -/
def execThShedWrite (site : Nat) (value : Bool) (s : State) : Host.Outcome State Fault Refusal :=
  onward s (fun s => s.onPage site 3 0x114 (fun s => s.thShed site value))

/-- SHED_COMPUTE_OFF (R467). -/
def execShedComputeOff (s : State) : Host.Outcome State Fault Refusal :=
  onward s (fun s => s.shedComputeOff)

/-- SHED_PANEL_OFF (R467). -/
def execShedPanelOff (s : State) : Host.Outcome State Fault Refusal :=
  onward s (fun s => s.shedPanelOff)

/-- RAMP_WINDOW (R465). -/
def execRampWindow (site : Nat) (avg : Nat) (s : State) : Host.Outcome State Fault Refusal :=
  onward s (fun s => s.rampWindow site avg)

end Sys2Proof.Machine
end

