-- ==== Sys2Proof/Machine/Dispatch.lean ====
section
/-! DEFINITION. exec: one arm per command, each a call of its meaning. -/

namespace Sys2Proof.Machine

/-- What a command does to everything but the queue. -/
def exec (i : Instr) (s : State) : Host.Outcome State Fault Refusal :=
  match i with
  | .registerWrite site page off value master src => Sys2Proof.Machine.execRegisterWrite site page off value master src s
  | .pgReset site page => Sys2Proof.Machine.execPgReset site page s
  | .cbDbgDataAccess c w => Sys2Proof.Machine.execCbDbgDataAccess c w s
  | .sqSeedHiWrite c value => Sys2Proof.Machine.execSqSeedHiWrite c value s
  | .coreHalt c value => Sys2Proof.Machine.execCoreHalt c value s
  | .coreStep c => Sys2Proof.Machine.execCoreStep c s
  | .waitSetEval c => Sys2Proof.Machine.execWaitSetEval c s
  | .waitSetTimeout c => Sys2Proof.Machine.execWaitSetTimeout c s
  | .nop c => Sys2Proof.Machine.execNop c s
  | .halt c => Sys2Proof.Machine.execHalt c s
  | .stepEnd c => Sys2Proof.Machine.execStepEnd c s
  | .hint c => Sys2Proof.Machine.execHint c s
  | .jump c => Sys2Proof.Machine.execJump c s
  | .call c => Sys2Proof.Machine.execCall c s
  | .ret c => Sys2Proof.Machine.execRet c s
  | .loop c => Sys2Proof.Machine.execLoop c s
  | .endloop c => Sys2Proof.Machine.execEndloop c s
  | .signal c => Sys2Proof.Machine.execSignal c s
  | .wait c => Sys2Proof.Machine.execWait c s
  | .barrier c => Sys2Proof.Machine.execBarrier c s
  | .enq c => Sys2Proof.Machine.execEnq c s
  | .load c => Sys2Proof.Machine.execLoad c s
  | .store c => Sys2Proof.Machine.execStore c s
  | .copy c => Sys2Proof.Machine.execCopy c s
  | .fill c => Sys2Proof.Machine.execFill c s
  | .accum c => Sys2Proof.Machine.execAccum c s
  | .mcast c => Sys2Proof.Machine.execMcast c s
  | .gather c => Sys2Proof.Machine.execGather c s
  | .scatter c => Sys2Proof.Machine.execScatter c s
  | .vrun c => Sys2Proof.Machine.execVrun c s
  | .vreduce c => Sys2Proof.Machine.execVreduce c s
  | .mm c => Sys2Proof.Machine.execMm c s
  | .mmAcc c => Sys2Proof.Machine.execMmAcc c s
  | .pbp c => Sys2Proof.Machine.execPbp c s
  | .descComplete c => Sys2Proof.Machine.execDescComplete c s
  | .descFail c => Sys2Proof.Machine.execDescFail c s
  | .tileSegmentEnd c flips parity => Sys2Proof.Machine.execTileSegmentEnd c flips parity s
  | .tileConvertDone c parity => Sys2Proof.Machine.execTileConvertDone c parity s
  | .streamWritebackDone c ev => Sys2Proof.Machine.execStreamWritebackDone c ev s
  | .laneNop c ev => Sys2Proof.Machine.execLaneNop c ev s
  | .laneEnd c ev => Sys2Proof.Machine.execLaneEnd c ev s
  | .laneJmp c ev => Sys2Proof.Machine.execLaneJmp c ev s
  | .laneBany c ev => Sys2Proof.Machine.execLaneBany c ev s
  | .laneBnone c ev => Sys2Proof.Machine.execLaneBnone c ev s
  | .laneMovi c ev => Sys2Proof.Machine.execLaneMovi c ev s
  | .laneMovhi c ev => Sys2Proof.Machine.execLaneMovhi c ev s
  | .laneMovlo c ev => Sys2Proof.Machine.execLaneMovlo c ev s
  | .laneMov c ev => Sys2Proof.Machine.execLaneMov c ev s
  | .laneMovs c ev => Sys2Proof.Machine.execLaneMovs c ev s
  | .laneLds c ev => Sys2Proof.Machine.execLaneLds c ev s
  | .laneSts c ev => Sys2Proof.Machine.execLaneSts c ev s
  | .laneIadd c ev => Sys2Proof.Machine.execLaneIadd c ev s
  | .laneIsub c ev => Sys2Proof.Machine.execLaneIsub c ev s
  | .laneImul c ev => Sys2Proof.Machine.execLaneImul c ev s
  | .laneImin c ev => Sys2Proof.Machine.execLaneImin c ev s
  | .laneImax c ev => Sys2Proof.Machine.execLaneImax c ev s
  | .laneAnd c ev => Sys2Proof.Machine.execLaneAnd c ev s
  | .laneOr c ev => Sys2Proof.Machine.execLaneOr c ev s
  | .laneXor c ev => Sys2Proof.Machine.execLaneXor c ev s
  | .laneShl c ev => Sys2Proof.Machine.execLaneShl c ev s
  | .laneShr c ev => Sys2Proof.Machine.execLaneShr c ev s
  | .laneSar c ev => Sys2Proof.Machine.execLaneSar c ev s
  | .laneIaddi c ev => Sys2Proof.Machine.execLaneIaddi c ev s
  | .laneIcmp c ev => Sys2Proof.Machine.execLaneIcmp c ev s
  | .laneIcmpi c ev => Sys2Proof.Machine.execLaneIcmpi c ev s
  | .laneFadd c ev => Sys2Proof.Machine.execLaneFadd c ev s
  | .laneFsub c ev => Sys2Proof.Machine.execLaneFsub c ev s
  | .laneFmul c ev => Sys2Proof.Machine.execLaneFmul c ev s
  | .laneFma c ev => Sys2Proof.Machine.execLaneFma c ev s
  | .laneFnma c ev => Sys2Proof.Machine.execLaneFnma c ev s
  | .laneFmin c ev => Sys2Proof.Machine.execLaneFmin c ev s
  | .laneFmax c ev => Sys2Proof.Machine.execLaneFmax c ev s
  | .laneFabs c ev => Sys2Proof.Machine.execLaneFabs c ev s
  | .laneFneg c ev => Sys2Proof.Machine.execLaneFneg c ev s
  | .laneFcmp c ev => Sys2Proof.Machine.execLaneFcmp c ev s
  | .laneSel c ev => Sys2Proof.Machine.execLaneSel c ev s
  | .laneExp2 c ev => Sys2Proof.Machine.execLaneExp2 c ev s
  | .laneLog2 c ev => Sys2Proof.Machine.execLaneLog2 c ev s
  | .laneRcp c ev => Sys2Proof.Machine.execLaneRcp c ev s
  | .laneRsq c ev => Sys2Proof.Machine.execLaneRsq c ev s
  | .laneCvtif c ev => Sys2Proof.Machine.execLaneCvtif c ev s
  | .laneCvtfi c ev => Sys2Proof.Machine.execLaneCvtfi c ev s
  | .laneCvtq c ev => Sys2Proof.Machine.execLaneCvtq c ev s
  | .lanePk16 c ev => Sys2Proof.Machine.execLanePk16 c ev s
  | .laneUpk16 c ev => Sys2Proof.Machine.execLaneUpk16 c ev s
  | .laneHadd c ev => Sys2Proof.Machine.execLaneHadd c ev s
  | .laneHsub c ev => Sys2Proof.Machine.execLaneHsub c ev s
  | .laneHmul c ev => Sys2Proof.Machine.execLaneHmul c ev s
  | .laneHfma c ev => Sys2Proof.Machine.execLaneHfma c ev s
  | .laneHmin c ev => Sys2Proof.Machine.execLaneHmin c ev s
  | .laneHmax c ev => Sys2Proof.Machine.execLaneHmax c ev s
  | .laneShfl c ev => Sys2Proof.Machine.execLaneShfl c ev s
  | .laneShflx c ev => Sys2Proof.Machine.execLaneShflx c ev s
  | .laneRed c ev => Sys2Proof.Machine.execLaneRed c ev s
  | .laneRand c ev => Sys2Proof.Machine.execLaneRand c ev s
  | .laneSeed c ev => Sys2Proof.Machine.execLaneSeed c ev s
  | .lanePand c ev => Sys2Proof.Machine.execLanePand c ev s
  | .lanePor c ev => Sys2Proof.Machine.execLanePor c ev s
  | .lanePnot c ev => Sys2Proof.Machine.execLanePnot c ev s
  | .diememSlotAccess c addr len data fails id => Sys2Proof.Machine.execDiememSlotAccess c addr len data fails id s
  | .diememReread c good => Sys2Proof.Machine.execDiememReread c good s
  | .diememRegionWrite site value => Sys2Proof.Machine.execDiememRegionWrite site value s
  | .diememScrub site region => Sys2Proof.Machine.execDiememScrub site region s
  | .scrubDone site region => Sys2Proof.Machine.execScrubDone site region s
  | .coreZeroFillDone c => Sys2Proof.Machine.execCoreZeroFillDone c s
  | .memFillCopyDone c => Sys2Proof.Machine.execMemFillCopyDone c s
  | .lineFillDone site line bad => Sys2Proof.Machine.execLineFillDone site line bad s
  | .crcRereadDone site good => Sys2Proof.Machine.execCrcRereadDone site good s
  | .channelContactLost site channel => Sys2Proof.Machine.execChannelContactLost site channel s
  | .scFlush site => Sys2Proof.Machine.execScFlush site s
  | .scInval site => Sys2Proof.Machine.execScInval site s
  | .flushDone site => Sys2Proof.Machine.execFlushDone site s
  | .scSleepWrite site value => Sys2Proof.Machine.execScSleepWrite site value s
  | .selfRefreshEntered site => Sys2Proof.Machine.execSelfRefreshEntered site s
  | .wakeDone site => Sys2Proof.Machine.execWakeDone site s
  | .refreshTick site channel => Sys2Proof.Machine.execRefreshTick site channel s
  | .prefetchFillDone site line bad => Sys2Proof.Machine.execPrefetchFillDone site line bad s
  | .pfIdleExpire site entry => Sys2Proof.Machine.execPfIdleExpire site entry s
  | .accumApplied site => Sys2Proof.Machine.execAccumApplied site s
  | .dgGo site => Sys2Proof.Machine.execDgGo site s
  | .digestDone site => Sys2Proof.Machine.execDigestDone site s
  | .mgStart site => Sys2Proof.Machine.execMgStart site s
  | .mgAbort site => Sys2Proof.Machine.execMgAbort site s
  | .mgRelease site => Sys2Proof.Machine.execMgRelease site s
  | .mgLineCopyAck site => Sys2Proof.Machine.execMgLineCopyAck site s
  | .read site p ev => Sys2Proof.Machine.execRead site p ev s
  | .write site p => Sys2Proof.Machine.execWrite site p s
  | .writePartial site p ev => Sys2Proof.Machine.execWritePartial site p ev s
  | .fetch site p ev => Sys2Proof.Machine.execFetch site p ev s
  | .prefetch site p => Sys2Proof.Machine.execPrefetch site p s
  | .accumPacket site p => Sys2Proof.Machine.execAccumPacket site p s
  | .mcastPacket site p room => Sys2Proof.Machine.execMcastPacket site p room s
  | .readRsp site p => Sys2Proof.Machine.execReadRsp site p s
  | .writeAck site p => Sys2Proof.Machine.execWriteAck site p s
  | .accumAck site p => Sys2Proof.Machine.execAccumAck site p s
  | .mcastAck site p => Sys2Proof.Machine.execMcastAck site p s
  | .mcastDrop site p => Sys2Proof.Machine.execMcastDrop site p s
  | .rspTimeout site unit tag => Sys2Proof.Machine.execRspTimeout site unit tag s
  | .mcastHoldTimeout site => Sys2Proof.Machine.execMcastHoldTimeout site s
  | .mcastHoldEject site => Sys2Proof.Machine.execMcastHoldEject site s
  | .rd m => Sys2Proof.Machine.execRd m s
  | .wr m => Sys2Proof.Machine.execWr m s
  | .rdRsp m => Sys2Proof.Machine.execRdRsp m s
  | .wrAck m => Sys2Proof.Machine.execWrAck m s
  | .doorbellTail m => Sys2Proof.Machine.execDoorbellTail m s
  | .doorbellReserve m => Sys2Proof.Machine.execDoorbellReserve m s
  | .doorbellPublish m => Sys2Proof.Machine.execDoorbellPublish m s
  | .errec r => Sys2Proof.Machine.execErrec r s
  | .noticeBind m => Sys2Proof.Machine.execNoticeBind m s
  | .noticeDispatch m => Sys2Proof.Machine.execNoticeDispatch m s
  | .noticePreempt m => Sys2Proof.Machine.execNoticePreempt m s
  | .noticeSaved m => Sys2Proof.Machine.execNoticeSaved m s
  | .noticeBound m => Sys2Proof.Machine.execNoticeBound m s
  | .noticeHalted m => Sys2Proof.Machine.execNoticeHalted m s
  | .noticeGrant m => Sys2Proof.Machine.execNoticeGrant m s
  | .noticeFull m => Sys2Proof.Machine.execNoticeFull m s
  | .noticeDbAck m => Sys2Proof.Machine.execNoticeDbAck m s
  | .noticeStop m => Sys2Proof.Machine.execNoticeStop m s
  | .stepArrival m => Sys2Proof.Machine.execStepArrival m s
  | .stepRelease part => Sys2Proof.Machine.execStepRelease part s
  | .stepReleaseReceive m => Sys2Proof.Machine.execStepReleaseReceive m s
  | .mrd m => Sys2Proof.Machine.execMrd m s
  | .mwr m => Sys2Proof.Machine.execMwr m s
  | .mrsp m => Sys2Proof.Machine.execMrsp m s
  | .syncSignal m => Sys2Proof.Machine.execSyncSignal m s
  | .syncWait m => Sys2Proof.Machine.execSyncWait m s
  | .syncCancel m => Sys2Proof.Machine.execSyncCancel m s
  | .syncArrive m => Sys2Proof.Machine.execSyncArrive m s
  | .syncWake m => Sys2Proof.Machine.execSyncWake m s
  | .syncBroken m => Sys2Proof.Machine.execSyncBroken m s
  | .waitResend site slot => Sys2Proof.Machine.execWaitResend site slot s
  | .syValueWrite site value => Sys2Proof.Machine.execSyValueWrite site value s
  | .syOwnerWrite site value => Sys2Proof.Machine.execSyOwnerWrite site value s
  | .syCmdSignal site src => Sys2Proof.Machine.execSyCmdSignal site src s
  | .syCmdBreak site => Sys2Proof.Machine.execSyCmdBreak site s
  | .syCmdPurge site => Sys2Proof.Machine.execSyCmdPurge site s
  | .syCmdSnapshot site => Sys2Proof.Machine.execSyCmdSnapshot site s
  | .syCmdRestore site => Sys2Proof.Machine.execSyCmdRestore site s
  | .syCmdClear site => Sys2Proof.Machine.execSyCmdClear site s
  | .syCmdDone site => Sys2Proof.Machine.execSyCmdDone site s
  | .syXltInv site => Sys2Proof.Machine.execSyXltInv site s
  | .cxCreate => Sys2Proof.Machine.execCxCreate s
  | .cxPreempt => Sys2Proof.Machine.execCxPreempt s
  | .cxRemap => Sys2Proof.Machine.execCxRemap s
  | .cxReset => Sys2Proof.Machine.execCxReset s
  | .cxTeardown => Sys2Proof.Machine.execCxTeardown s
  | .cxPartSet => Sys2Proof.Machine.execCxPartSet s
  | .cxPartClear => Sys2Proof.Machine.execCxPartClear s
  | .cxFenceOn => Sys2Proof.Machine.execCxFenceOn s
  | .cxFenceOff => Sys2Proof.Machine.execCxFenceOff s
  | .cxAclSet => Sys2Proof.Machine.execCxAclSet s
  | .cxWinSet => Sys2Proof.Machine.execCxWinSet s
  | .preemptDecision queue => Sys2Proof.Machine.execPreemptDecision queue s
  | .preTmoExpire ctx => Sys2Proof.Machine.execPreTmoExpire ctx s
  | .coreSaveDone c => Sys2Proof.Machine.execCoreSaveDone c s
  | .coreRestoreDone c => Sys2Proof.Machine.execCoreRestoreDone c s
  | .entryStart queue => Sys2Proof.Machine.execEntryStart queue s
  | .quEnableWrite queue value => Sys2Proof.Machine.execQuEnableWrite queue value s
  | .quRestart queue => Sys2Proof.Machine.execQuRestart queue s
  | .quFlush queue => Sys2Proof.Machine.execQuFlush queue s
  | .acRdHiWrite site value => Sys2Proof.Machine.execAcRdHiWrite site value s
  | .acWrHiWrite site value => Sys2Proof.Machine.execAcWrHiWrite site value s
  | .acFenceHiWrite site value => Sys2Proof.Machine.execAcFenceHiWrite site value s
  | .acWlimitWrite site value => Sys2Proof.Machine.execAcWlimitWrite site value s
  | .bar0Access port pasid off len w => Sys2Proof.Machine.execBar0Access port pasid off len w s
  | .bar2DoorbellWrite port pasid off w => Sys2Proof.Machine.execBar2DoorbellWrite port pasid off w s
  | .bar4ApertureAccess port pasid off len w => Sys2Proof.Machine.execBar4ApertureAccess port pasid off len w s
  | .cxlMemRead port hpa => Sys2Proof.Machine.execCxlMemRead port hpa s
  | .cxlMemWrite port hpa data => Sys2Proof.Machine.execCxlMemWrite port hpa data s
  | .hostSnoop port => Sys2Proof.Machine.execHostSnoop port s
  | .cacheReadResponse port queue data => Sys2Proof.Machine.execCacheReadResponse port queue data s
  | .hostIntTimeout port cache n => Sys2Proof.Machine.execHostIntTimeout port cache n s
  | .hostPortReset port linkDown => Sys2Proof.Machine.execHostPortReset port linkDown s
  | .hostLinkTrained port speed width cxl lopt cache => Sys2Proof.Machine.execHostLinkTrained port speed width cxl lopt cache s
  | .hdmDecoderCommit port decoder base size skip ways => Sys2Proof.Machine.execHdmDecoderCommit port decoder base size skip ways s
  | .msixImodExpire port eq => Sys2Proof.Machine.execMsixImodExpire port eq s
  | .eqHeadWrite port value => Sys2Proof.Machine.execEqHeadWrite port value s
  | .eqEnableWrite port value => Sys2Proof.Machine.execEqEnableWrite port value s
  | .doeDiscovery port index => Sys2Proof.Machine.execDoeDiscovery port index s
  | .cdatTableAccess port => Sys2Proof.Machine.execCdatTableAccess port s
  | .doeAbort port => Sys2Proof.Machine.execDoeAbort port s
  | .getInfo port version payload => Sys2Proof.Machine.execGetInfo port version payload s
  | .getCert port version payload => Sys2Proof.Machine.execGetCert port version payload s
  | .getMeas port version payload => Sys2Proof.Machine.execGetMeas port version payload s
  | .attest port version payload => Sys2Proof.Machine.execAttest port version payload s
  | .debugChallenge port version payload => Sys2Proof.Machine.execDebugChallenge port version payload s
  | .debugAuth port version payload => Sys2Proof.Machine.execDebugAuth port version payload s
  | .mesoaxFlitReceive site n bundle f flip => Sys2Proof.Machine.execMesoaxFlitReceive site n bundle f flip s
  | .ctlAck site n bundle arg => Sys2Proof.Machine.execCtlAck site n bundle arg s
  | .ctlNak site n bundle arg => Sys2Proof.Machine.execCtlNak site n bundle arg s
  | .ctlRetrain site n bundle arg => Sys2Proof.Machine.execCtlRetrain site n bundle arg s
  | .ctlCredit site n bundle counter arg => Sys2Proof.Machine.execCtlCredit site n bundle counter arg s
  | .nakRepeatTimeout site n bundle => Sys2Proof.Machine.execNakRepeatTimeout site n bundle s
  | .mlRetrain site n => Sys2Proof.Machine.execMlRetrain site n s
  | .linkTrainingDone site n tests rtt => Sys2Proof.Machine.execLinkTrainingDone site n tests rtt s
  | .bundleTrainTimeout site n bundle => Sys2Proof.Machine.execBundleTrainTimeout site n bundle s
  | .guEnable site value => Sys2Proof.Machine.execGuEnable site value s
  | .guRetrain site => Sys2Proof.Machine.execGuRetrain site s
  | .ucieTrainingDone site ok speed repaired => Sys2Proof.Machine.execUcieTrainingDone site ok speed repaired s
  | .capRsp site version rxbuf ident => Sys2Proof.Machine.execCapRsp site version rxbuf ident s
  | .capRspTimeout site => Sys2Proof.Machine.execCapRspTimeout site s
  | .guestPacketReceive site p retries => Sys2Proof.Machine.execGuestPacketReceive site p retries s
  | .guestLinkDown site back => Sys2Proof.Machine.execGuestLinkDown site back s
  | .ethFrameReceive site port frame => Sys2Proof.Machine.execEthFrameReceive site port frame s
  | .ptpEventMessage site port m => Sys2Proof.Machine.execPtpEventMessage site port m s
  | .groveData site port ce p => Sys2Proof.Machine.execGroveData site port ce p s
  | .groveSignal site port ce p => Sys2Proof.Machine.execGroveSignal site port ce p s
  | .groveAck site port ce p => Sys2Proof.Machine.execGroveAck site port ce p s
  | .groveNack site port ce p => Sys2Proof.Machine.execGroveNack site port ce p s
  | .groveArrive site port ce p epoch => Sys2Proof.Machine.execGroveArrive site port ce p epoch s
  | .groveRelease site port ce p epoch => Sys2Proof.Machine.execGroveRelease site port ce p epoch s
  | .groveAbort site port ce p epoch => Sys2Proof.Machine.execGroveAbort site port ce p epoch s
  | .groveHeartbeat site port ce p => Sys2Proof.Machine.execGroveHeartbeat site port ce p s
  | .groveDigest site port ce p => Sys2Proof.Machine.execGroveDigest site port ce p s
  | .groveAckTimer site conn => Sys2Proof.Machine.execGroveAckTimer site conn s
  | .groveRtoExpire site conn => Sys2Proof.Machine.execGroveRtoExpire site conn s
  | .ccTincExpire site conn => Sys2Proof.Machine.execCcTincExpire site conn s
  | .connRecordFetched site conn => Sys2Proof.Machine.execConnRecordFetched site conn s
  | .put site chan => Sys2Proof.Machine.execPut site chan s
  | .putAccum site chan => Sys2Proof.Machine.execPutAccum site chan s
  | .putEc site chan => Sys2Proof.Machine.execPutEc site chan s
  | .signalOnly site chan => Sys2Proof.Machine.execSignalOnly site chan s
  | .xferEntryComplete site chan => Sys2Proof.Machine.execXferEntryComplete site chan s
  | .xcEnableWrite site chan value => Sys2Proof.Machine.execXcEnableWrite site chan value s
  | .heartbeatTimer => Sys2Proof.Machine.execHeartbeatTimer s
  | .memberLostTimeout member => Sys2Proof.Machine.execMemberLostTimeout member s
  | .managerLostTimeout => Sys2Proof.Machine.execManagerLostTimeout s
  | .grRoleWrite value => Sys2Proof.Machine.execGrRoleWrite value s
  | .etEnableWrite site port value => Sys2Proof.Machine.execEtEnableWrite site port value s
  | .portUp site port => Sys2Proof.Machine.execPortUp site port s
  | .portDown site port fault => Sys2Proof.Machine.execPortDown site port fault s
  | .refInputLost input => Sys2Proof.Machine.execRefInputLost input s
  | .rcSelWrite value => Sys2Proof.Machine.execRcSelWrite value s
  | .refParentLost site tdly => Sys2Proof.Machine.execRefParentLost site tdly s
  | .pllLockLost site => Sys2Proof.Machine.execPllLockLost site s
  | .pllRelock site => Sys2Proof.Machine.execPllRelock site s
  | .pllRelockTimeout site => Sys2Proof.Machine.execPllRelockTimeout site s
  | .droopGate c => Sys2Proof.Machine.execDroopGate c s
  | .droopResume c => Sys2Proof.Machine.execDroopResume c s
  | .monCeilingRestore site => Sys2Proof.Machine.execMonCeilingRestore site s
  | .ladderChange site => Sys2Proof.Machine.execLadderChange site s
  | .ladderChangeDone site => Sys2Proof.Machine.execLadderChangeDone site s
  | .dwellExpire site => Sys2Proof.Machine.execDwellExpire site s
  | .voltageReady site => Sys2Proof.Machine.execVoltageReady site s
  | .timeLoad value => Sys2Proof.Machine.execTimeLoad value s
  | .timeSlew sign interval => Sys2Proof.Machine.execTimeSlew sign interval s
  | .rcStepCmd => Sys2Proof.Machine.execRcStepCmd s
  | .ppsEdge => Sys2Proof.Machine.execPpsEdge s
  | .timeSourceSilent => Sys2Proof.Machine.execTimeSourceSilent s
  | .epCommit => Sys2Proof.Machine.execEpCommit s
  | .epCancel => Sys2Proof.Machine.execEpCancel s
  | .ckEpArm site mask => Sys2Proof.Machine.execCkEpArm site mask s
  | .ckEpCancel site => Sys2Proof.Machine.execCkEpCancel site s
  | .ckEpCatchup site => Sys2Proof.Machine.execCkEpCatchup site s
  | .ckEpRollback site => Sys2Proof.Machine.execCkEpRollback site s
  | .epochSwitchTime site => Sys2Proof.Machine.execEpochSwitchTime site s
  | .epTmoExpire => Sys2Proof.Machine.execEpTmoExpire s
  | .corePowerStage c => Sys2Proof.Machine.execCorePowerStage c s
  | .corePowerUpDone c => Sys2Proof.Machine.execCorePowerUpDone c s
  | .admissionGrant site mA => Sys2Proof.Machine.execAdmissionGrant site mA s
  | .admissionWaitExpire site => Sys2Proof.Machine.execAdmissionWaitExpire site s
  | .coreOffDelayExpire c => Sys2Proof.Machine.execCoreOffDelayExpire c s
  | .headerOvercurrent c => Sys2Proof.Machine.execHeaderOvercurrent c s
  | .rampNoticeApply c => Sys2Proof.Machine.execRampNoticeApply c s
  | .rampHoldExpire c => Sys2Proof.Machine.execRampHoldExpire c s
  | .capWindow site watts => Sys2Proof.Machine.execCapWindow site watts s
  | .ppInSample readings => Sys2Proof.Machine.execPpInSample readings s
  | .ppCeilWrite value => Sys2Proof.Machine.execPpCeilWrite value s
  | .ppApply => Sys2Proof.Machine.execPpApply s
  | .phaseFail site group phase => Sys2Proof.Machine.execPhaseFail site group phase s
  | .groupBreakerOpen site group => Sys2Proof.Machine.execGroupBreakerOpen site group s
  | .plotBreakerOpen plot => Sys2Proof.Machine.execPlotBreakerOpen plot s
  | .crackDetect group drop => Sys2Proof.Machine.execCrackDetect group drop s
  | .sensorRead site temps => Sys2Proof.Machine.execSensorRead site temps s
  | .traySensorRead inlet outlet flow => Sys2Proof.Machine.execTraySensorRead inlet outlet flow s
  | .thShedWrite site value => Sys2Proof.Machine.execThShedWrite site value s
  | .shedComputeOff => Sys2Proof.Machine.execShedComputeOff s
  | .shedPanelOff => Sys2Proof.Machine.execShedPanelOff s
  | .rampWindow site avg => Sys2Proof.Machine.execRampWindow site avg s
  | .pwrEnRise lowUs inputOk => Sys2Proof.Machine.execPwrEnRise lowUs inputOk s
  | .standbyPowerGood => Sys2Proof.Machine.execStandbyPowerGood s
  | .pwrEnFall => Sys2Proof.Machine.execPwrEnFall s
  | .panelRstNRise => Sys2Proof.Machine.execPanelRstNRise s
  | .panelRstNFall => Sys2Proof.Machine.execPanelRstNFall s
  | .inputUndervoltage => Sys2Proof.Machine.execInputUndervoltage s
  | .inputOvervoltage => Sys2Proof.Machine.execInputOvervoltage s
  | .trstNAssert low => Sys2Proof.Machine.execTrstNAssert low s
  | .bypass site => Sys2Proof.Machine.execBypass site s
  | .idcode site => Sys2Proof.Machine.execIdcode site s
  | .samplePreload site levels preload => Sys2Proof.Machine.execSamplePreload site levels preload s
  | .extest site next => Sys2Proof.Machine.execExtest site next s
  | .uartLineSent => Sys2Proof.Machine.execUartLineSent s
  | .replayDrainEnd part => Sys2Proof.Machine.execReplayDrainEnd part s
  | .replayRestart part => Sys2Proof.Machine.execReplayRestart part s
  | .rpResume => Sys2Proof.Machine.execRpResume s
  | .rpAbandon => Sys2Proof.Machine.execRpAbandon s
  | .lrGo => Sys2Proof.Machine.execLrGo s
  | .lrCopyDone => Sys2Proof.Machine.execLrCopyDone s
  | .healthDecay => Sys2Proof.Machine.execHealthDecay s
  | .gfPlot src dest => Sys2Proof.Machine.execGfPlot src dest s
  | .gfStack src dest => Sys2Proof.Machine.execGfStack src dest s
  | .gfAbort => Sys2Proof.Machine.execGfAbort s
  | .graftPowerDone bad => Sys2Proof.Machine.execGraftPowerDone bad s
  | .graftTestDone bad => Sys2Proof.Machine.execGraftTestDone bad s
  | .shadowCompare reference cores => Sys2Proof.Machine.execShadowCompare reference cores s
  | .graftSoakEnd => Sys2Proof.Machine.execGraftSoakEnd s
  | .brStep site step => Sys2Proof.Machine.execBrStep site step s
  | .brAuto site => Sys2Proof.Machine.execBrAuto site s
  | .brPanelReset site => Sys2Proof.Machine.execBrPanelReset site s
  | .brAbort site => Sys2Proof.Machine.execBrAbort site s
  | .bringupStepDone res => Sys2Proof.Machine.execBringupStepDone res s
  | .brFwDataWrite site value => Sys2Proof.Machine.execBrFwDataWrite site value s
  | .brRstGo => Sys2Proof.Machine.execBrRstGo s
  | .resetDrainEnd index => Sys2Proof.Machine.execResetDrainEnd index s
  | .orchardCommitTimer => Sys2Proof.Machine.execOrchardCommitTimer s
  | .orchardCommitDone => Sys2Proof.Machine.execOrchardCommitDone s
  | .orCommit => Sys2Proof.Machine.execOrCommit s
  | .orCompact => Sys2Proof.Machine.execOrCompact s
  | .orRdataRead => Sys2Proof.Machine.execOrRdataRead s
  | .stewardLostTimeout => Sys2Proof.Machine.execStewardLostTimeout s
  | .commitSvn fails => Sys2Proof.Machine.execCommitSvn fails s
  | .extend slot => Sys2Proof.Machine.execExtend slot s
  | .closeDebug => Sys2Proof.Machine.execCloseDebug s
  | .waitTimeout c => Sys2Proof.Machine.execWaitTimeout c s
  | .enqFullTimeout c => Sys2Proof.Machine.execEnqFullTimeout c s
  | .coreMemoryAccess c addr len data fails id => Sys2Proof.Machine.execCoreMemoryAccess c addr len data fails id s
  | .nmSeedHiWrite site value => Sys2Proof.Machine.execNmSeedHiWrite site value s
  | .clockStretch c => Sys2Proof.Machine.execClockStretch c s
  | .refInputReturn input => Sys2Proof.Machine.execRefInputReturn input s
  | .imageSwitchDone => Sys2Proof.Machine.execImageSwitchDone s
  | .d3hot port d3 => Sys2Proof.Machine.execD3hot port d3 s

end Sys2Proof.Machine
end

