-- ==== Sys2Proof/WellFormed.lean ====
section
/-! DEFINITION. Well-formed commands: every operand within the range the spec gives it. -/

namespace Sys2Proof

open Sys2Proof.Machine

/-- A site that has a part, fitted or not (R24, R25). -/
def wfSite (n : Nat) : Bool := decide (n < 318 ∨ (320 ≤ n ∧ n < 324))

/-- A core (R22). -/
def wfCore (c : CoreId) : Bool := isDie c.site && decide (c.slot < 18)

/-- A site's Mesoax port that has a link (R364, R365). -/
def wfEnd (n p : Nat) : Bool := decide (n < 324 ∧ p < 16)

/-- A register word. -/
def wfWord (v : Nat) : Bool := decide (v < 2 ^ 32)

/-- A register of a page (R34). -/
def wfReg (page off : Nat) : Bool := decide (page < 256 ∧ off < 4096)

/-- A host port (R340). -/
def wfPort (p : Nat) : Bool := decide (p < 2)

/-- A scale-out die (R25). -/
def wfIo (n : Nat) : Bool := decide (288 ≤ n ∧ n < 304)

/-- A guest site (R23). -/
def wfGuest (n : Nat) : Bool := decide (320 ≤ n ∧ n < 324)

/-- A steward (R25). -/
def wfSteward (n : Nat) : Bool := decide (n = 306 ∨ n = 307)

/-- Something below a bound. -/
def wfBelow (v b : Nat) : Bool := decide (v < b)

/-- A bulk packet: site numbers, at most 64 data flits, as many as LEN says where it carries data, within 4 KiB of its address space (R240, R241). -/
def wfPkt (p : Pkt) : Bool :=
  decide (p.dest < 512 ∧ p.src < 512 ∧ p.len ≤ 64 ∧ p.inl.length ≤ 24 ∧ (p.data = [] ∨ (p.data.length + 63) / 64 = p.len) ∧ p.addr % 4096 + p.data.length ≤ 4096)

/-- A control message: sites, and at most 8 words of 32 bits after the header (R266). -/
def wfCtl (m : CtlMsg) : Bool := decide (m.dest < 512 ∧ m.src < 512 ∧ m.words.length ≤ 8) && m.words.all wfWord

/-- A sync message (R278, R283). -/
def wfSync (m : SyncMsg) : Bool := decide (m.dest < 512 ∧ m.src < 512 ∧ m.cell < 2048 ∧ m.value < 2 ^ 24 ∧ m.slot < 32)

/-- An error record (R491). -/
def wfRec (r : Rec) : Bool := decide (r.code < 65536 ∧ r.site < 512 ∧ r.unit < 256 ∧ r.sev < 4)

/-- A Grove packet (R386). -/
def wfGPkt (p : GPkt) : Bool := decide (1 ≤ p.type ∧ p.type ≤ 5 ∧ p.member < 512 ∧ p.toMember < 512 ∧ p.die < 16 ∧ p.toDie < 16)

/-- A DOE exchange of the attestation protocol (R357): whole dwords. -/
def wfDoe (port version : Nat) (payload : List Byte) : Bool := wfPort port && decide (version < 256 ∧ payload.length % 4 = 0)

/-- Is every operand of a command in range? -/
def Instr.wf : Instr → Bool
  | .registerWrite site page off value master src => wfSite site && wfReg page off && wfWord value && wfBelow master 4096 && wfBelow src 512
  | .pgReset site page => wfSite site && wfReg page 0
  | .cbDbgDataAccess c w => wfCore c && (w.getD 0 |> wfWord)
  | .sqSeedHiWrite c value => wfCore c && wfWord value
  | .coreHalt c _ => wfCore c
  | .coreStep c => wfCore c
  | .waitSetEval c => wfCore c
  | .waitSetTimeout c => wfCore c
  | .nop c => wfCore c
  | .halt c => wfCore c
  | .stepEnd c => wfCore c
  | .hint c => wfCore c
  | .jump c => wfCore c
  | .call c => wfCore c
  | .ret c => wfCore c
  | .loop c => wfCore c
  | .endloop c => wfCore c
  | .signal c => wfCore c
  | .wait c => wfCore c
  | .barrier c => wfCore c
  | .enq c => wfCore c
  | .load c => wfCore c
  | .store c => wfCore c
  | .copy c => wfCore c
  | .fill c => wfCore c
  | .accum c => wfCore c
  | .mcast c => wfCore c
  | .gather c => wfCore c
  | .scatter c => wfCore c
  | .vrun c => wfCore c
  | .vreduce c => wfCore c
  | .mm c => wfCore c
  | .mmAcc c => wfCore c
  | .pbp c => wfCore c
  | .descComplete c => wfCore c
  | .descFail c => wfCore c
  | .tileSegmentEnd c flips parity => wfCore c && flips.all (fun e => wfBelow e.1 256) && wfWord (parity.getD 0)
  | .tileConvertDone c parity => wfCore c && wfWord (parity.getD 0)
  | .streamWritebackDone c _ => wfCore c
  | .laneNop c _ => wfCore c
  | .laneEnd c _ => wfCore c
  | .laneJmp c _ => wfCore c
  | .laneBany c _ => wfCore c
  | .laneBnone c _ => wfCore c
  | .laneMovi c _ => wfCore c
  | .laneMovhi c _ => wfCore c
  | .laneMovlo c _ => wfCore c
  | .laneMov c _ => wfCore c
  | .laneMovs c _ => wfCore c
  | .laneLds c _ => wfCore c
  | .laneSts c _ => wfCore c
  | .laneIadd c _ => wfCore c
  | .laneIsub c _ => wfCore c
  | .laneImul c _ => wfCore c
  | .laneImin c _ => wfCore c
  | .laneImax c _ => wfCore c
  | .laneAnd c _ => wfCore c
  | .laneOr c _ => wfCore c
  | .laneXor c _ => wfCore c
  | .laneShl c _ => wfCore c
  | .laneShr c _ => wfCore c
  | .laneSar c _ => wfCore c
  | .laneIaddi c _ => wfCore c
  | .laneIcmp c _ => wfCore c
  | .laneIcmpi c _ => wfCore c
  | .laneFadd c _ => wfCore c
  | .laneFsub c _ => wfCore c
  | .laneFmul c _ => wfCore c
  | .laneFma c _ => wfCore c
  | .laneFnma c _ => wfCore c
  | .laneFmin c _ => wfCore c
  | .laneFmax c _ => wfCore c
  | .laneFabs c _ => wfCore c
  | .laneFneg c _ => wfCore c
  | .laneFcmp c _ => wfCore c
  | .laneSel c _ => wfCore c
  | .laneExp2 c _ => wfCore c
  | .laneLog2 c _ => wfCore c
  | .laneRcp c _ => wfCore c
  | .laneRsq c _ => wfCore c
  | .laneCvtif c _ => wfCore c
  | .laneCvtfi c _ => wfCore c
  | .laneCvtq c _ => wfCore c
  | .lanePk16 c _ => wfCore c
  | .laneUpk16 c _ => wfCore c
  | .laneHadd c _ => wfCore c
  | .laneHsub c _ => wfCore c
  | .laneHmul c _ => wfCore c
  | .laneHfma c _ => wfCore c
  | .laneHmin c _ => wfCore c
  | .laneHmax c _ => wfCore c
  | .laneShfl c _ => wfCore c
  | .laneShflx c _ => wfCore c
  | .laneRed c _ => wfCore c
  | .laneRand c _ => wfCore c
  | .laneSeed c _ => wfCore c
  | .lanePand c _ => wfCore c
  | .lanePor c _ => wfCore c
  | .lanePnot c _ => wfCore c
  | .diememSlotAccess c addr len data _ id => wfCore c && wfBelow addr (2 ^ 48) && wfBelow len 4097 && wfBelow (data.getD []).length 4097 && wfBelow id (2 ^ 32)
  | .diememReread c _ => wfCore c
  | .diememRegionWrite site value => isDie site && wfWord value
  | .diememScrub site region => isDie site && wfBelow region 49
  | .scrubDone site region => isDie site && wfBelow region 49
  | .coreZeroFillDone c => wfCore c
  | .memFillCopyDone c => wfCore c
  | .lineFillDone site line bad => isStack site && wfBelow line (2 ^ 28) && wfBelow bad 16
  | .crcRereadDone site _ => isStack site
  | .channelContactLost site channel => isStack site && wfBelow channel 32
  | .scFlush site => isStack site
  | .scInval site => isStack site
  | .flushDone site => isStack site
  | .scSleepWrite site _ => isStack site
  | .selfRefreshEntered site => isStack site
  | .wakeDone site => isStack site
  | .refreshTick site channel => isStack site && wfBelow channel 32
  | .prefetchFillDone site line bad => isStack site && wfBelow line (2 ^ 28) && wfBelow bad 16
  | .pfIdleExpire site entry => isStack site && wfBelow entry 64
  | .accumApplied site => isStack site
  | .dgGo site => isStack site
  | .digestDone site => isStack site
  | .mgStart site => isStack site
  | .mgAbort site => isStack site
  | .mgRelease site => isStack site
  | .mgLineCopyAck site => isStack site
  | .read site p _ => isStack site && wfPkt p
  | .write site p => isStack site && wfPkt p
  | .writePartial site p _ => isStack site && wfPkt p
  | .fetch site p _ => isStack site && wfPkt p
  | .prefetch site p => isStack site && wfPkt p
  | .accumPacket site p => isStack site && wfPkt p
  | .mcastPacket site p _ => wfSite site && wfPkt p
  | .readRsp site p => wfSite site && wfPkt p
  | .writeAck site p => wfSite site && wfPkt p
  | .accumAck site p => wfSite site && wfPkt p
  | .mcastAck site p => wfSite site && wfPkt p
  | .mcastDrop site p => wfSite site && wfPkt p
  | .rspTimeout site unit tag => wfSite site && wfBelow unit 32 && wfBelow tag (2 ^ 16)
  | .mcastHoldTimeout site => wfSite site
  | .mcastHoldEject site => wfSite site
  | .rd m => wfCtl m
  | .wr m => wfCtl m
  | .rdRsp m => wfCtl m
  | .wrAck m => wfCtl m
  | .doorbellTail m => wfCtl m
  | .doorbellReserve m => wfCtl m
  | .doorbellPublish m => wfCtl m
  | .errec r => wfRec r
  | .noticeBind m => wfCtl m
  | .noticeDispatch m => wfCtl m
  | .noticePreempt m => wfCtl m
  | .noticeSaved m => wfCtl m
  | .noticeBound m => wfCtl m
  | .noticeHalted m => wfCtl m
  | .noticeGrant m => wfCtl m
  | .noticeFull m => wfCtl m
  | .noticeDbAck m => wfCtl m
  | .noticeStop m => wfCtl m
  | .stepArrival m => wfCtl m
  | .stepRelease part => wfBelow part 64
  | .stepReleaseReceive m => wfCtl m
  | .mrd m => wfCtl m
  | .mwr m => wfCtl m
  | .mrsp m => wfCtl m
  | .syncSignal m => wfSync m
  | .syncWait m => wfSync m
  | .syncCancel m => wfSync m
  | .syncArrive m => wfSync m
  | .syncWake m => wfSync m
  | .syncBroken m => wfSync m
  | .waitResend site slot => wfSite site && wfBelow slot 32
  | .syValueWrite site value => isDie site && wfWord value
  | .syOwnerWrite site value => isDie site && wfWord value
  | .syCmdSignal site src => isDie site && wfBelow src 512
  | .syCmdBreak site => isDie site
  | .syCmdPurge site => isDie site
  | .syCmdSnapshot site => isDie site
  | .syCmdRestore site => isDie site
  | .syCmdClear site => isDie site
  | .syCmdDone site => isDie site
  | .syXltInv site => isDie site
  | .cxCreate => true
  | .cxPreempt => true
  | .cxRemap => true
  | .cxReset => true
  | .cxTeardown => true
  | .cxPartSet => true
  | .cxPartClear => true
  | .cxFenceOn => true
  | .cxFenceOff => true
  | .cxAclSet => true
  | .cxWinSet => true
  | .preemptDecision queue => wfBelow queue 4096
  | .preTmoExpire ctx => wfBelow ctx 1024
  | .coreSaveDone c => wfCore c
  | .coreRestoreDone c => wfCore c
  | .entryStart queue => wfBelow queue 4096
  | .quEnableWrite queue _ => wfBelow queue 4096
  | .quRestart queue => wfBelow queue 4096
  | .quFlush queue => wfBelow queue 4096
  | .acRdHiWrite site value => wfSite site && wfWord value
  | .acWrHiWrite site value => wfSite site && wfWord value
  | .acFenceHiWrite site value => wfSite site && wfWord value
  | .acWlimitWrite site value => wfSite site && wfWord value
  | .bar0Access port pasid off len w => wfPort port && wfBelow (pasid.getD 0) 1048576 && wfBelow off (2 ^ 48) && wfBelow len 4097 && (w.getD 0 |> wfWord)
  | .bar2DoorbellWrite port pasid off w => wfPort port && wfBelow (pasid.getD 0) 1048576 && wfBelow off (2 ^ 48) && (w.getD 0 |> wfWord)
  | .bar4ApertureAccess port pasid off len w => wfPort port && wfBelow (pasid.getD 0) 1048576 && wfBelow off (2 ^ 48) && wfBelow len 4097 && wfBelow (w.getD []).length 65
  | .cxlMemRead port hpa => wfPort port && wfBelow hpa (2 ^ 52)
  | .cxlMemWrite port hpa data => wfPort port && wfBelow hpa (2 ^ 52) && decide ((0 < data.length ∧ hpa % 64 + data.length ≤ 64) ∨ data.length = 72)
  | .hostSnoop port => wfPort port
  | .cacheReadResponse port queue data => wfPort port && wfBelow queue 4096 && wfBelow (data.getD []).length 65
  | .hostIntTimeout port _ n => wfPort port && wfBelow n 4096
  | .hostPortReset port _ => wfPort port
  | .hostLinkTrained port speed width _ _ _ => wfPort port && wfBelow speed 65536 && wfBelow width 17
  | .hdmDecoderCommit port decoder base size skip ways => wfPort port && wfBelow decoder 2 && wfBelow base (2 ^ 52) && wfBelow size (2 ^ 52) && wfBelow skip (2 ^ 52) && wfBelow ways 17
  | .msixImodExpire port eq => wfPort port && wfBelow eq 512
  | .eqHeadWrite port value => wfPort port && wfWord value
  | .eqEnableWrite port _ => wfPort port
  | .doeDiscovery port index => wfPort port && wfBelow index 256
  | .cdatTableAccess port => wfPort port
  | .doeAbort port => wfPort port
  | .getInfo port version payload => wfDoe port version payload
  | .getCert port version payload => wfDoe port version payload
  | .getMeas port version payload => wfDoe port version payload
  | .attest port version payload => wfDoe port version payload
  | .debugChallenge port version payload => wfDoe port version payload
  | .debugAuth port version payload => wfDoe port version payload
  | .mesoaxFlitReceive site n bundle f flip => wfEnd site n && wfBelow bundle 32 && wfBelow f.data.length 257 && wfBelow flip (2 ^ 16)
  | .ctlAck site n bundle arg => wfEnd site n && wfBelow bundle 32 && wfBelow arg 256
  | .ctlNak site n bundle arg => wfEnd site n && wfBelow bundle 32 && wfBelow arg 256
  | .ctlRetrain site n bundle arg => wfEnd site n && wfBelow bundle 32 && wfBelow arg 256
  | .ctlCredit site n bundle counter arg => wfEnd site n && wfBelow bundle 32 && wfBelow counter 9 && wfBelow arg 256
  | .nakRepeatTimeout site n bundle => wfEnd site n && wfBelow bundle 32
  | .mlRetrain site n => wfEnd site n
  | .linkTrainingDone site n tests rtt => wfEnd site n && tests.all (fun l => l.all wfWord) && wfBelow rtt (2 ^ 16)
  | .bundleTrainTimeout site n bundle => wfEnd site n && wfBelow bundle 32
  | .guEnable site _ => wfGuest site
  | .guRetrain site => wfGuest site
  | .ucieTrainingDone site _ speed repaired => wfGuest site && wfBelow speed 65536 && wfBelow repaired 65
  | .capRsp site version rxbuf ident => wfGuest site && wfBelow version 256 && wfBelow rxbuf 65536 && wfBelow ident (2 ^ 32)
  | .capRspTimeout site => wfGuest site
  | .guestPacketReceive site p retries => wfGuest site && wfPkt p && wfBelow retries 65536
  | .guestLinkDown site _ => wfGuest site
  | .ethFrameReceive site port frame => wfIo site && wfBelow port 8 && wfBelow frame.length 16384
  | .ptpEventMessage site port _ => wfIo site && wfBelow port 8
  | .groveData site port _ p => wfIo site && wfBelow port 8 && wfGPkt p
  | .groveSignal site port _ p => wfIo site && wfBelow port 8 && wfGPkt p
  | .groveAck site port _ p => wfIo site && wfBelow port 8 && wfGPkt p
  | .groveNack site port _ p => wfIo site && wfBelow port 8 && wfGPkt p
  | .groveArrive site port _ p epoch => wfIo site && wfBelow port 8 && wfGPkt p && wfBelow epoch (2 ^ 32)
  | .groveRelease site port _ p epoch => wfIo site && wfBelow port 8 && wfGPkt p && wfBelow epoch (2 ^ 32)
  | .groveAbort site port _ p epoch => wfIo site && wfBelow port 8 && wfGPkt p && wfBelow epoch (2 ^ 32)
  | .groveHeartbeat site port _ p => wfIo site && wfBelow port 8 && wfGPkt p
  | .groveDigest site port _ p => wfIo site && wfBelow port 8 && wfGPkt p
  | .groveAckTimer site conn => wfIo site && wfBelow conn 8192
  | .groveRtoExpire site conn => wfIo site && wfBelow conn 8192
  | .ccTincExpire site conn => wfIo site && wfBelow conn 8192
  | .connRecordFetched site conn => wfIo site && wfBelow conn 8192
  | .put site chan => wfIo site && wfBelow chan 64
  | .putAccum site chan => wfIo site && wfBelow chan 64
  | .putEc site chan => wfIo site && wfBelow chan 64
  | .signalOnly site chan => wfIo site && wfBelow chan 64
  | .xferEntryComplete site chan => wfIo site && wfBelow chan 64
  | .xcEnableWrite site chan _ => wfIo site && wfBelow chan 64
  | .heartbeatTimer => true
  | .memberLostTimeout member => wfBelow member 512
  | .managerLostTimeout => true
  | .grRoleWrite value => wfWord value
  | .etEnableWrite site port _ => wfIo site && wfBelow port 8
  | .portUp site port => wfIo site && wfBelow port 8
  | .portDown site port _ => wfIo site && wfBelow port 8
  | .refInputLost input => wfBelow input 2
  | .rcSelWrite value => wfWord value
  | .refParentLost site tdly => wfSite site && wfBelow tdly 65536
  | .pllLockLost site => wfSite site
  | .pllRelock site => wfSite site
  | .pllRelockTimeout site => wfSite site
  | .droopGate c => wfCore c
  | .droopResume c => wfCore c
  | .monCeilingRestore site => isDie site
  | .ladderChange site => isDie site
  | .ladderChangeDone site => isDie site
  | .dwellExpire site => isDie site
  | .voltageReady site => isDie site
  | .timeLoad value => wfWord value
  | .timeSlew _ interval => wfBelow interval 65
  | .rcStepCmd => true
  | .ppsEdge => true
  | .timeSourceSilent => true
  | .epCommit => true
  | .epCancel => true
  | .ckEpArm site mask => wfSite site && wfBelow mask 32
  | .ckEpCancel site => wfSite site
  | .ckEpCatchup site => wfSite site
  | .ckEpRollback site => wfSite site
  | .epochSwitchTime site => wfSite site
  | .epTmoExpire => true
  | .corePowerStage c => wfCore c
  | .corePowerUpDone c => wfCore c
  | .admissionGrant site mA => isDie site && wfBelow mA (2 ^ 20)
  | .admissionWaitExpire site => isDie site
  | .coreOffDelayExpire c => wfCore c
  | .headerOvercurrent c => wfCore c
  | .rampNoticeApply c => wfCore c
  | .rampHoldExpire c => wfCore c
  | .capWindow site watts => wfSite site && wfBelow watts (2 ^ 20)
  | .ppInSample readings => readings.all wfWord
  | .ppCeilWrite value => wfWord value
  | .ppApply => true
  | .phaseFail site group phase => wfSite site && wfBelow group (2 ^ 12) && wfBelow phase 64
  | .groupBreakerOpen site group => wfSite site && wfBelow group (2 ^ 12)
  | .plotBreakerOpen plot => wfBelow plot 72
  | .crackDetect group drop => wfBelow group (2 ^ 12) && wfBelow drop (2 ^ 16)
  | .sensorRead site temps => wfSite site && temps.all wfWord
  | .traySensorRead inlet outlet flow => wfWord (inlet.getD 0) && wfWord (outlet.getD 0) && wfWord (flow.getD 0)
  | .thShedWrite site _ => wfSite site
  | .shedComputeOff => true
  | .shedPanelOff => true
  | .rampWindow site avg => wfSite site && wfBelow avg (2 ^ 20)
  | .pwrEnRise lowUs _ => wfBelow lowUs (2 ^ 32)
  | .standbyPowerGood => true
  | .pwrEnFall => true
  | .panelRstNRise => true
  | .panelRstNFall => true
  | .inputUndervoltage => true
  | .inputOvervoltage => true
  | .trstNAssert _ => true
  | .bypass site => wfSite site
  | .idcode site => wfSite site
  | .samplePreload site levels preload => wfSite site && wfBelow levels (2 ^ 1024) && wfBelow preload (2 ^ 1024)
  | .extest site next => wfSite site && wfBelow next (2 ^ 1024)
  | .uartLineSent => true
  | .replayDrainEnd part => wfBelow part 64
  | .replayRestart part => wfBelow part 64
  | .rpResume => true
  | .rpAbandon => true
  | .lrGo => true
  | .lrCopyDone => true
  | .healthDecay => true
  | .gfPlot src dest => wfBelow src 128 && wfBelow dest 128
  | .gfStack src dest => wfBelow src 128 && wfBelow dest 128
  | .gfAbort => true
  | .graftPowerDone bad => bad.all wfSite
  | .graftTestDone bad => bad.all wfSite
  | .shadowCompare _ cores => cores.all (fun e => wfCore e.1)
  | .graftSoakEnd => true
  | .brStep site step => wfSteward site && wfBelow step 16
  | .brAuto site => wfSteward site
  | .brPanelReset site => wfSteward site
  | .brAbort site => wfSteward site
  | .bringupStepDone res => res.badSites.all wfSite && res.badCores.all wfCore
  | .brFwDataWrite site value => wfSteward site && wfWord value
  | .brRstGo => true
  | .resetDrainEnd index => wfBelow index 256
  | .orchardCommitTimer => true
  | .orchardCommitDone => true
  | .orCommit => true
  | .orCompact => true
  | .orRdataRead => true
  | .stewardLostTimeout => true
  | .commitSvn fails => wfBelow fails 3
  | .extend slot => wfBelow slot 32
  | .closeDebug => true
  | .waitTimeout c => wfCore c
  | .enqFullTimeout c => wfCore c
  | .coreMemoryAccess c addr len data fails id => wfCore c && wfBelow addr (2 ^ 48) && wfBelow len 4097 && wfBelow (data.getD []).length 4097 && wfBelow fails 3 && wfBelow id (2 ^ 32)
  | .nmSeedHiWrite site value => isStack site && wfWord value
  | .clockStretch c => wfCore c
  | .refInputReturn input => wfBelow input 2
  | .imageSwitchDone => true
  | .d3hot port _ => wfPort port

end Sys2Proof
end

