-- ==== Sys2Proof/Safety.lean ====
section
/-! DEFINITION. What counts as a sound state of the panel, and the terms the statements are made in: what a command leaves alone, and where an engine stands. -/

namespace Sys2Proof.Machine

/-- A sound state: every byte memory in its canonical form, so that equal memories are equal data, panel time a 64-bit count (R421), and every waiting command well formed. -/
structure State.Sound (s : State) : Prop where
  mem : Memory.wf s.mem = true
  cmem : Memory.wf s.cmem = true
  dmem : Memory.wf s.dmem = true
  store : Memory.wf s.store = true
  msixTab : Memory.wf s.msixTab = true
  fwbuf : Memory.wf s.fwbuf = true
  time : s.time < 2 ^ 64
  waiting : ∀ i ∈ s.pending, i.wf = true

/-- Every byte of panel, core and die memory reads in `t` as in `s`. -/
def State.SameMem (s t : State) : Prop :=
  ∀ a, mget t.mem a = mget s.mem a ∧ mget t.cmem a = mget s.cmem a ∧ mget t.dmem a = mget s.dmem a

/-- A bulk packet is in flight, on the lane its route gave it (R244). -/
def State.Sent (s : State) (p : Pkt) : Prop := ∃ lane, Msg.bulk { p with lane := lane } ∈ s.msgs

/-- Every register field reads in `t` as in `s`, but for those at some places. -/
def State.SameRegs (s t : State) (but : List Loc) : Prop := ∀ l : Loc, (∀ b ∈ but, l.key ≠ b.key) → t.rd l = s.rd l

/-- Every core's record is in `t` what it is in `s`, but for one core's. -/
def State.SameCores (s t : State) (c : CoreId) : Prop := ∀ d, d ≠ c → t.core d = s.core d

/-- The vector engine of a core stands at an instruction word of an opcode, not the last of its section: its clock runs, it is in a section of a program whose words' parity is good, and has run fewer than 65,536 instructions of it (R168). -/
structure State.AtLane (s : State) (c : CoreId) (op w : Nat) : Prop where
  clocked : s.clocked c = true
  active : (s.core c).vx.active = true
  running : (s.core c).vx.section_ ≠ 3
  word : s.progWord c (s.core c).vx.slot (s.core c).vx.pc = w
  opcode : iOp w = op
  sound : s.badProg c (s.core c).vx.slot (s.core c).vx.pc = none
  few : (s.core c).vx.icount < 65536
  inside : (s.core c).vx.pc + 1 < (s.bounds c).2

/-- Is a lane of the band one the instruction executes in. -/
def State.lit (s : State) (c : CoreId) (w l : Nat) : Bool := (enabled (s.core c).vx w).contains l

/-- What every lane instruction that goes on leaves: the core's record `k` with the engine one instruction further, the busy count advanced, and every memory, message, other register field, other core and other part of the panel as before but for the words of the engine's stores, whose parity can only become good (R194). -/
structure EngineWent (s t : State) (c : CoreId) (k : CoreSt) (busy : Nat) : Prop where
  core : t.core c = { k with vx := { k.vx with pc := (s.core c).vx.pc + 1, icount := (s.core c).vx.icount + 1 } }
  busy : t.rd (F.VX_BUSY.core c) = (s.rd (F.VX_BUSY.core c) + busy) % 2 ^ 64
  regs : s.SameRegs t [F.VX_BUSY.core c]
  cores : s.SameCores t c
  cured : ∀ e ∈ t.parBad, e ∈ s.parBad
  rest : t = ({ s with fld := t.fld, cores := t.cores, ework := t.ework, parBad := t.parBad } : State).settle s.pending

/-- What a lane instruction that stores nothing leaves: only lane registers and predicate latches may change, so that parity becomes good only of them. -/
structure LaneWent (s t : State) (c : CoreId) (k : CoreSt) (busy : Nat) : Prop extends EngineWent s t c k busy where
  marks : ∀ e ∈ s.parBad, (∀ l < 64, ∀ r < 32, e ≠ (2, coreAddr c (laneAddr l r))) →
    (∀ l < 64, ∀ p < 8, e ≠ (2, coreAddr c (latchAddr l p))) → e ∈ t.parBad

/-- The lane registers of a core after an instruction: `v l` in register D of the enabled lanes, every other register of every lane as before. -/
def LaneRegs (s t : State) (c : CoreId) (w : Nat) (v : Nat → Nat) : Prop :=
  ∀ l r, l < 64 → r < 32 → t.vreg c l r = if r = iD w ∧ s.lit c w l then v l else s.vreg c l r

/-- A lane register as 32 bits. -/
def State.v32 (s : State) (c : CoreId) (l r : Nat) : BitVec 32 := BitVec.ofNat 32 (s.vreg c l r)

/-- A lane register as a binary32 value. -/
def State.vnum (s : State) (c : CoreId) (l r : Nat) : Num := ofB32 (s.vreg c l r)

/-- Values made one after another, each taking the generator as the one before left it: the values, and the generator at the end (R163, R164, R167). -/
def drawAlong (f : Nat → Gen → Nat × Gen) : List Nat → Gen → List Nat × Gen
  | [], g => ([], g)
  | l :: r, g => ((f l g).1 :: (drawAlong f r (f l g).2).1, (drawAlong f r (f l g).2).2)

/-- A packed operation on registers A, B and D of a lane, half by half, rounded with the generator where MOD[0] is set (R163). -/
def halves (f : Num → Num → Num → Num) (s : State) (c : CoreId) (w l : Nat) (g : Gen) : Nat × Gen :=
  let x (r h : Nat) : Num := decodeNum (iFmt w) (s.vreg c l r / 65536 ^ h % 65536)
  pack16 w (f (x (iA w) 0) (x (iB w) 0) (x (iD w) 0)) (f (x (iA w) 1) (x (iB w) 1) (x (iD w) 1)) g

end Sys2Proof.Machine
end

