-- ==== Sys2Proof/Certificates/Slice0/Obligations.lean ====
section
/-! DEFINITION. The statements about the panel, for the provers. -/

open Sys2Proof Sys2Proof.Machine


/-- The state after reset is sound. -/
def Obligations.ResetSound : Prop := State.reset.Sound

/-- Every step keeps soundness: the memories' canonical form, the 64-bit panel time (R421), and waiting commands well formed. -/
def Obligations.StepKeepsSound : Prop := ∀ s t : State, s.Sound → step s = .next t → t.Sound

/-- A step carries out the command at the front of the queue, on the state with the queue's rest. -/
def Obligations.StepTakesFront : Prop :=
  ∀ (s : State) (i : Instr) (rest : List Instr), s.pending = i :: rest → step s = exec i { s with pending := rest }

/-- With no command waiting a step is one tick of the reference and nothing else (the model's choice, log 9). -/
def Obligations.IdleStepTicks : Prop := ∀ s : State, s.pending = [] → step s = .next (s.tick.settle [])

/-- Every command from every state answers a next state and leaves the other waiting commands as they were. -/
def Obligations.EveryCommandAnswers : Prop := ∀ (i : Instr) (s : State), ∃ t, exec i s = .next t ∧ t.pending = s.pending

/-- A queue of commands is carried out in order, one a step, to its end: after n steps the first n are gone. -/
def Obligations.QueueIsCarriedOut : Prop :=
  ∀ (s : State) (n : Nat), n ≤ s.pending.length → ∃ t, Host.Core.run core n s = .next t ∧ t.pending = s.pending.drop n

/-- Bytes written to a memory read back in place, every other byte reads as before, and the canonical form is kept. A register field reads the low bits of what was written last, as many as it is wide; a field at another place reads as before. -/
def Obligations.ReadsBack : Prop :=
  (∀ (m : Memory) (a x : Nat) (l : List Byte),
    mget (msetN m a l) x = (if a ≤ x ∧ x < a + l.length then l.getD (x - a) 0 else mget m x) ∧
    (Memory.wf m = true → Memory.wf (msetN m a l) = true)) ∧
  (∀ (s : State) (l k : Loc) (v : Nat), (s.wr l v).rd l = v % 2 ^ l.width ∧ (k.key ≠ l.key → (s.wr l v).rd k = s.rd k))

/-- After reset every register field reads its reset value, every byte of panel, core and die memory reads 0 and no message is in flight; the ports' configuration space presents the vendor, device 0x4C01, class 0x12_0000 and revision 1 (R342). -/
def Obligations.ResetValues : Prop :=
  (∀ l : Loc, State.reset.rd l = l.rst) ∧ (∀ a, mget State.reset.mem a = 0 ∧ mget State.reset.cmem a = 0 ∧ mget State.reset.dmem a = 0) ∧
    State.reset.msgs = [] ∧ State.reset.pending = [] ∧
    (∀ port < 2, State.reset.cfgHead port 0 = Config.vendorId.toNat + 0x4C01 * 2 ^ 16 ∧ State.reset.cfgHead port 8 = 0x12000001)

/-- SITE_ID.TYPE of every site that a part or a guest site has reads the code of its part: compute dies, stacks and regulators in the plots, and the rind's parts by their site numbers (R29). -/
def Obligations.SiteTypes : Prop :=
  ∀ n, n < 324 → n ≠ 318 → n ≠ 319 → State.reset.rd (F.SITE_ID_SITE.at n) = n ∧ State.reset.rd (F.SITE_ID_TYPE.at n) =
    (if n < 288 then [0x0, 0x0, 0x1, 0x2].getD (n % 4) 0 else if n < 304 then 0x3 else if n < 306 then 0x4 else if n < 308 then 0x5 else if n = 308 then 0x6
     else if n = 309 then 0x7 else if n < 318 then 0x8 else if Config.guestFitted (n - 320) then 0x9 else 0xA)

/-- The integer, logic and move instructions of the lanes: in every enabled lane D takes the value of the instruction's operation on 32-bit words, in every other lane it keeps its own, and the engine goes on (R158, R159, R162). -/
def Obligations.LaneIntegers : Prop :=
  ∀ row ∈ ([
    (Instr.laneMovi, 0x05, fun imm _ _ _ => imm.signExtend 32),
    (Instr.laneMovhi, 0x06, fun imm _ _ _ => imm.zeroExtend 32 <<< 16),
    (Instr.laneMovlo, 0x07, fun imm d _ _ => (d &&& 0xFFFF0000#32) ||| imm.zeroExtend 32),
    (Instr.laneMov, 0x08, fun _ _ a _ => a),
    (Instr.laneIadd, 0x0C, fun _ _ a b => a + b),
    (Instr.laneIsub, 0x0D, fun _ _ a b => a - b),
    (Instr.laneImul, 0x0E, fun _ _ a b => a * b),
    (Instr.laneImin, 0x0F, fun _ _ a b => if a.sle b then a else b),
    (Instr.laneImax, 0x10, fun _ _ a b => if a.sle b then b else a),
    (Instr.laneAnd, 0x11, fun _ _ a b => a &&& b),
    (Instr.laneOr, 0x12, fun _ _ a b => a ||| b),
    (Instr.laneXor, 0x13, fun _ _ a b => a ^^^ b),
    (Instr.laneShl, 0x14, fun _ _ a b => a <<< (b.toNat % 32)),
    (Instr.laneShr, 0x15, fun _ _ a b => a >>> (b.toNat % 32)),
    (Instr.laneSar, 0x16, fun _ _ a b => a.sshiftRight (b.toNat % 32)),
    (Instr.laneIaddi, 0x17, fun imm _ a _ => a + imm.signExtend 32)] :
      List ((CoreId → LaneEvent → Instr) × Nat × (BitVec 16 → BitVec 32 → BitVec 32 → BitVec 32 → BitVec 32))),
    ∀ (s : State) (c : CoreId) (w : Nat), s.AtLane c row.2.1 w →
      ∃ t, exec (row.1 c .clean) s = .next t ∧ LaneWent s t c (s.core c) 1 ∧
        LaneRegs s t c w (fun l => (row.2.2 (BitVec.ofNat 16 (iImm w)) (s.v32 c l (iD w)) (s.v32 c l (iA w)) (s.v32 c l (iB w))).toNat)

/-- The binary32 arithmetic of the lanes: each operation exact, rounded once to nearest even, NaN results canonical (R158, R159, R161). -/
def Obligations.LaneFloats : Prop :=
  ∀ row ∈ ([
    (Instr.laneFadd, 0x1A, fun a b _ => addNum a b),
    (Instr.laneFsub, 0x1B, fun a b _ => addNum a (negNum b)),
    (Instr.laneFmul, 0x1C, fun a b _ => mulNum a b),
    (Instr.laneFma, 0x1D, fun a b x => addNum (mulNum a b) x),
    (Instr.laneFnma, 0x1E, fun a b x => addNum x (negNum (mulNum a b))),
    (Instr.laneFmin, 0x1F, fun a b _ => minNum a b),
    (Instr.laneFmax, 0x20, fun a b _ => maxNum a b),
    (Instr.laneFabs, 0x21, fun a _ _ => absNum a),
    (Instr.laneFneg, 0x22, fun a _ _ => negNum a)] :
      List ((CoreId → LaneEvent → Instr) × Nat × (Sys2Proof.Machine.Num → Sys2Proof.Machine.Num → Sys2Proof.Machine.Num → Sys2Proof.Machine.Num))),
    ∀ (s : State) (c : CoreId) (w : Nat), s.AtLane c row.2.1 w →
      ∃ t, exec (row.1 c .clean) s = .next t ∧ LaneWent s t c (s.core c) 1 ∧
        LaneRegs s t c w (fun l => toB32 (row.2.2 (s.vnum c l (iA w)) (s.vnum c l (iB w)) (s.vnum c l (iC w))) % 2 ^ 32)

/-- The conversions and approximations of the lanes (R159, R162, R163, R165). The special values of the approximations, and CVTFI saturating (R162, R165). -/
def Obligations.LaneConversions : Prop :=
  (∀ row ∈ ([
    (Instr.laneExp2, 0x25, fun _ a => exp2B a),
    (Instr.laneLog2, 0x26, fun _ a => log2B a),
    (Instr.laneRcp, 0x27, fun _ a => rcpB a),
    (Instr.laneRsq, 0x28, fun _ a => rsqB a),
    (Instr.laneCvtif, 0x29, fun _ a => toB32 (.fin (BitVec.ofNat 32 a).msb (BitVec.ofNat 32 a).toInt.natAbs 0)),
    (Instr.laneCvtfi, 0x2A, fun w a => cvtfi (w.testBit 0) a),
    (Instr.laneUpk16, 0x2D, fun w a => toB32 (decodeNum (iFmt w) (if w.testBit 1 then a / 65536 else a % 65536)))] :
      List ((CoreId → LaneEvent → Instr) × Nat × (Nat → Nat → Nat))),
    ∀ (s : State) (c : CoreId) (w : Nat), s.AtLane c row.2.1 w →
      ∃ t, exec (row.1 c .clean) s = .next t ∧ LaneWent s t c (s.core c) 1 ∧
        LaneRegs s t c w (fun l => row.2.2 w (s.vreg c l (iA w)) % 2 ^ 32)) ∧
  (rcpB 0x00000000 = 0x7F800000 ∧ rcpB 0x80000000 = 0xFF800000 ∧ rcpB 0x7F800000 = 0 ∧ rcpB 0xFF800000 = 0x80000000 ∧
  rsqB 0x00000000 = 0x7F800000 ∧ rsqB 0x80000000 = 0xFF800000 ∧ rsqB 0xBF800000 = fmtNan .b32 ∧ rsqB 0x7F800000 = 0 ∧
  log2B 0x00000000 = 0xFF800000 ∧ log2B 0xBF800000 = fmtNan .b32 ∧ exp2B 0xFF800000 = 0 ∧ exp2B 0x43000000 = 0x7F800000 ∧
  cvtfi true 0x4F000000 = 0x7FFFFFFF ∧ cvtfi false 0xCF000001 = 0x80000000 ∧ cvtfi true 0x7FC00000 = 0)

/-- The instructions that take a lane's value from elsewhere: MOVS a special value, SEL one of two by a predicate, SHFL and SHFLX another lane's register, RED one value over the enabled lanes (R159, R160, R166). The instructions that set a predicate: in every enabled lane the predicate D[2:0] takes the comparison's or the operation's value, p0 always reads 1, and no register changes (R149, R158, R159, R161). -/
def Obligations.LaneExchanges : Prop :=
  (∀ row ∈ ([
    (Instr.laneMovs, 0x09, fun s c w l => special (s.core c).vx (hdrPasses (s.vxHdr c)) l (iImm w)),
    (Instr.laneSel, 0x24, fun s c w l => if (s.core c).vx.pred l (iC w % 8) then s.vreg c l (iA w) else s.vreg c l (iB w)),
    (Instr.laneShfl, 0x34, fun s c w l => s.vreg c (s.vreg c l (iB w) % 64) (iA w)),
    (Instr.laneShflx, 0x35, fun s c w l => s.vreg c (l ^^^ (iImm w % 64)) (iA w)),
    (Instr.laneRed, 0x36, fun s c w _ => toB32 (redTree (iMod w) ((enabled (s.core c).vx w).map (fun l => s.vnum c l (iA w)))))] :
      List ((CoreId → LaneEvent → Instr) × Nat × (State → CoreId → Nat → Nat → Nat))),
    ∀ (s : State) (c : CoreId) (w : Nat), s.AtLane c row.2.1 w →
      ∃ t, exec (row.1 c .clean) s = .next t ∧ LaneWent s t c (s.core c) 1 ∧ LaneRegs s t c w (fun l => row.2.2 s c w l % 2 ^ 32)) ∧
  (∀ row ∈ ([
    (Instr.laneIcmp, 0x18, fun s c w l => match iMod w with
      | 0 => s.v32 c l (iA w) == s.v32 c l (iB w) | 1 => s.v32 c l (iA w) != s.v32 c l (iB w)
      | 2 => (s.v32 c l (iA w)).slt (s.v32 c l (iB w)) | _ => (s.v32 c l (iA w)).sle (s.v32 c l (iB w))),
    (Instr.laneIcmpi, 0x19, fun s c w l => match iD w / 8 with
      | 0 => s.v32 c l (iA w) == (BitVec.ofNat 16 (iImm w)).signExtend 32 | 1 => s.v32 c l (iA w) != (BitVec.ofNat 16 (iImm w)).signExtend 32
      | 2 => (s.v32 c l (iA w)).slt ((BitVec.ofNat 16 (iImm w)).signExtend 32) | _ => (s.v32 c l (iA w)).sle ((BitVec.ofNat 16 (iImm w)).signExtend 32)),
    (Instr.laneFcmp, 0x23, fun s c w l => match iMod w with
      | 0 => eqNum (s.vnum c l (iA w)) (s.vnum c l (iB w)) | 1 => ltNum (s.vnum c l (iA w)) (s.vnum c l (iB w))
      | 2 => leNum (s.vnum c l (iA w)) (s.vnum c l (iB w)) | _ => isNan (s.vnum c l (iA w)) || isNan (s.vnum c l (iB w))),
    (Instr.lanePand, 0x39, fun s c w l => (s.core c).vx.pred l (iA w % 8) && (s.core c).vx.pred l (iB w % 8)),
    (Instr.lanePor, 0x3A, fun s c w l => (s.core c).vx.pred l (iA w % 8) || (s.core c).vx.pred l (iB w % 8)),
    (Instr.lanePnot, 0x3B, fun s c w l => !((s.core c).vx.pred l (iA w % 8)))] :
      List ((CoreId → LaneEvent → Instr) × Nat × (State → CoreId → Nat → Nat → Bool))),
    ∀ (s : State) (c : CoreId) (w : Nat), s.AtLane c row.2.1 w →
      ∃ (t : State) (q : Tab Nat), exec (row.1 c .clean) s = .next t ∧
        LaneWent s t c { s.core c with vx := { (s.core c).vx with preds := q } } 1 ∧ t.ework = s.ework ∧
        ∀ l p, (t.core c).vx.pred l p = if p = 0 then true else if p = iD w % 8 ∧ s.lit c w l then row.2.2 s c w l else (s.core c).vx.pred l p)

/-- The instructions that may draw from the generator: the enabled lanes in rising order each take their draws, D takes the result, and the generator is left where the last lane left it (R69, R163, R164, R167). SEED reseeds the core generator from the lowest enabled lane (R69, R167). -/
def Obligations.LaneDraws : Prop :=
  (∀ row ∈ ([
    (Instr.laneCvtq, 0x2B, fun s c w l g => cvtq w (s.vreg c l (iA w)) g),
    (Instr.lanePk16, 0x2C, fun s c w l g => pack16 w (s.vnum c l (iA w)) (s.vnum c l (iB w)) g),
    (Instr.laneHadd, 0x2E, halves (fun a b _ => addNum a b)),
    (Instr.laneHsub, 0x2F, halves (fun a b _ => addNum a (negNum b))),
    (Instr.laneHmul, 0x30, halves (fun a b _ => mulNum a b)),
    (Instr.laneHfma, 0x31, halves (fun a b d => addNum (mulNum a b) d)),
    (Instr.laneHmin, 0x32, halves (fun a b _ => minNum a b)),
    (Instr.laneHmax, 0x33, halves (fun a b _ => maxNum a b)),
    (Instr.laneRand, 0x37, fun _ _ _ _ g => ((genDraw g).1 + (genDraw (genDraw g).2).1 <<< 16, (genDraw (genDraw g).2).2))] :
      List ((CoreId → LaneEvent → Instr) × Nat × (State → CoreId → Nat → Nat → Gen → Nat × Gen))),
    ∀ (s : State) (c : CoreId) (w : Nat), s.AtLane c row.2.1 w →
      ∃ t, exec (row.1 c .clean) s = .next t ∧
        LaneWent s t c { s.core c with gen := (drawAlong (row.2.2 s c w) (enabled (s.core c).vx w) (s.core c).gen).2 } (issueCycles w) ∧
        (∀ i l, (enabled (s.core c).vx w)[i]? = some l →
          t.vreg c l (iD w) = (drawAlong (row.2.2 s c w) (enabled (s.core c).vx w) (s.core c).gen).1.getD i 0 % 2 ^ 32) ∧
        (∀ l r, l < 64 → r < 32 → ¬ (r = iD w ∧ s.lit c w l) → t.vreg c l r = s.vreg c l r)) ∧
  (∀ (s : State) (c : CoreId) (w l : Nat), s.AtLane c 0x38 w → (enabled (s.core c).vx w).head? = some l →
    ∃ t, exec (.laneSeed c .clean) s = .next t ∧
      LaneWent s t c { s.core c with gen := genSeed (s.vreg c l (iA w) + (s.vreg c l (iB w)) <<< 32) } 1 ∧ t.ework = s.ework)

/-- NOP goes on; JMP, BANY and BNONE continue at IMM where they are taken, at one more cycle, and go on where not; at the section's end, and with END, the run ends (R159, R168). -/
def Obligations.LaneFlow : Prop :=
  ∀ (s : State) (c : CoreId) (w : Nat), s.clocked c = true → (s.core c).vx.active = true → (s.core c).vx.section_ ≠ 3 →
    s.progWord c (s.core c).vx.slot (s.core c).vx.pc = w → s.badProg c (s.core c).vx.slot (s.core c).vx.pc = none → (s.core c).vx.icount < 65536 →
    let ran (n : Nat) : State := (s.add (F.VX_BUSY.core c) n).onCore c (fun k => { k with vx := { k.vx with icount := k.vx.icount + 1 } })
    let go (taken : Bool) : State := if taken then (ran 2).goTo c (iImm w) else (ran 1).goTo c ((s.core c).vx.pc + 1)
    (iOp w = 0x00 → exec (.laneNop c .clean) s = .next ((go false).settle s.pending)) ∧
    (iOp w = 0x01 → exec (.laneEnd c .clean) s = .next (((ran 1).endRun c).settle s.pending)) ∧
    (iOp w = 0x02 → exec (.laneJmp c .clean) s = .next ((go true).settle s.pending)) ∧
    (iOp w = 0x03 → exec (.laneBany c .clean) s = .next ((go ((List.range (activeLanes (s.core c).vx)).any (fun l => (s.core c).vx.pred l (iD w % 8)))).settle s.pending)) ∧
    (iOp w = 0x04 → exec (.laneBnone c .clean) s = .next ((go ((List.range (activeLanes (s.core c).vx)).all (fun l => !(s.core c).vx.pred l (iD w % 8)))).settle s.pending)) ∧
    (∀ i, (ran 1).goTo c i = if (s.bounds c).2 ≤ i then (ran 1).endRun c else (ran 1).onCore c (fun k => { k with vx := { k.vx with pc := i } }))

/-- The descriptors that the sequencer executes at once: NOP, HINT, JUMP, CALL, RET, LOOP and ENDLOOP have their effect on the loop stack, the call stack and an index register, the sequencer stands at the address that follows from it, and the descriptor completes (R137, R138, R139, R141). -/
def Obligations.SequencerAtOnce : Prop :=
  ∀ (s : State) (c : CoreId) (e : Issued), s.clocked c = true → (s.core c).ready = some e →
    let k := s.core c
    let d := e.desc
    let after (u : State) (r : CoreSt) (a : Nat) : Host.Outcome State Fault Refusal :=
      .next (((((u.setCore c { r with ready := none }).wr (F.SQ_PC.core c) (a >>> 6)).finishDesc c e.addr d e.sigSite e.sigCell 0 0 0).tryStop c).settle s.pending)
    let target := if d.testBit 128 then df d 24 47 0 else (((e.addr : Int) + 64 * sext (df d 20 31 0) 32) % 2 ^ 48).toNat
    (dOp d = 0x01 → exec (.nop c) s = after s k (e.addr + 64)) ∧
    (dOp d = 0x04 → exec (.hint c) s = after (s.rampNotice c (decide (df d 16 1 0 = 1)) (df d 17 3 0) (df d 18 15 0)) k (e.addr + 64)) ∧
    (dOp d = 0x05 → exec (.jump c) s =
      after s { k with loops := k.loops.filter (fun l => decide (l.first ≤ target ∧ target < l.first + 64 * l.body)), fetched := [] } target) ∧
    (dOp d = 0x06 → exec (.call c) s = after s { k with calls := k.calls ++ [e.addr + 64], fetched := [] } target) ∧
    (∀ a, dOp d = 0x07 → k.calls.getLast? = some a → exec (.ret c) s =
      after s { k with calls := k.calls.dropLast, loops := k.loops.filter (fun l => decide (l.depth < k.calls.length)), fetched := [] } a) ∧
    (dOp d = 0x08 → df d 16 23 0 = 0 → exec (.loop c) s = after (s.setIx c (df d 20 7 0) (df d 24 31 0)) k (e.addr + 64 * (df d 22 11 0 + 2))) ∧
    (dOp d = 0x08 → df d 16 23 0 ≠ 0 → exec (.loop c) s = after (s.setIx c (df d 20 7 0) (df d 24 31 0))
      { k with loops := k.loops ++ [{ first := e.addr + 64, body := df d 22 11 0, ix := df d 20 7 0, left := df d 16 23 0, depth := k.calls.length, stride := df d 28 31 0 }] } (e.addr + 64)) ∧
    (∀ l, dOp d = 0x09 → k.loops.getLast? = some l → exec (.endloop c) s =
      (let u := s.setIx c l.ix ((s.ixRegs c).getD (l.ix - 1) 0 + l.stride)
       if l.left ≤ 1 then after u { k with loops := k.loops.dropLast } (e.addr + 64)
       else after u { k with loops := k.loops.dropLast ++ [{ l with left := l.left - 1 }] } l.first))

/-- The frame of the four that move the sequencer, where no completion record, signal or event copy is asked for and no stop: SQ_PC and CORE_DONE take their new values, no other register field, no memory, no message and no other core changes (R115, R123, R137, R138, R139). -/
def Obligations.SequencerFrame : Prop :=
  ∀ (s : State) (c : CoreId) (e : Issued), s.clocked c = true → (s.core c).ready = some e → dCrec e.desc = 0xFFFF → dSigEn e.desc = false →
    dFlag e.desc 6 = false → (s.core c).stopReq = .none → s.on (F.CORE_CTL_HALT.core c) = false → e.addr + 64 < 2 ^ 48 →
    ∀ (i : Instr) (a : Nat),
      (i = .nop c ∧ dOp e.desc = 0x01 ∧ a = e.addr + 64) ∨ (i = .jump c ∧ dOp e.desc = 0x05 ∧ a = jumpTarget e.addr e.desc) ∨
      (i = .call c ∧ dOp e.desc = 0x06 ∧ a = jumpTarget e.addr e.desc) ∨ (i = .ret c ∧ dOp e.desc = 0x07 ∧ (s.core c).calls.getLast? = some a) →
      ∃ t, exec i s = .next t ∧ t.rd (F.SQ_PC.core c) = a >>> 6 % 2 ^ 42 ∧ t.rd (F.CORE_DONE.core c) = (s.rd (F.CORE_DONE.core c) + 1) % 2 ^ 64 ∧
        s.SameRegs t [F.SQ_PC.core c, F.CORE_DONE.core c] ∧ s.SameCores t c ∧ (t.core c).window = (s.core c).window ∧ (t.core c).ready = none ∧
        t = ({ s with fld := t.fld, cores := t.cores } : State).settle s.pending

/-- What a descriptor leaves when it completes: its 32-byte record at the context's record CREC, one more in CORE_DONE, its header signal sent and awaited, its copy to the event queue; a record that cannot be written stops the core with the write's code and nothing more (R114, R115, R116, R123, R124). -/
def Obligations.CompletionRecord : Prop :=
  ∀ (s : State) (c : CoreId) (addr d site cell status n0 n1 : Nat),
    let bytes := natLe status 2 ++ natLe (dOp d) 1 ++ natLe (1 + 2 * bnat (dSigEn d)) 1 ++ natLe c.site 2 ++ natLe c.slot 1 ++ natLe 0 1 ++
      natLe (s.now c.site) 8 ++ natLe n0 4 ++ natLe n1 4 ++ natLe addr 6 ++ natLe 0 2
    let named : Bool := decide (dCrec d ≠ 0xFFFF ∧ dCrec d < s.rd (F.SQ_CREC_LIM_LIMIT.core c))
    let w := s.panelWrite { master := s.ctxOf c, site := c.site, slot := c.slot, type := 2, op := 1 } ((s.rd (F.SQ_CREC.core c)) <<< 5 + 32 * dCrec d) bytes
    bytes.length = 32 ∧
    (∀ code, named = true → w.1 = .error code → s.finishDesc c addr d site cell status n0 n1 = w.2.stopCore c code) ∧
    (named = false ∨ w.1 = .ok () →
      let u := (if named then w.2 else s).add (F.CORE_DONE.core c) 1
      let v := if dSigEn d then u.sendSignal c (dSigVid d) site cell (dSigInc d) addr else u
      s.finishDesc c addr d site cell status n0 n1 = if dFlag d 6 then v.evqPut (v.rd (F.QU_EVQ_EVQ.at stw 0 (v.core c).queue)) 3 bytes else v)

/-- SIGNAL, WAIT and BARRIER, at the cells their virtual IDs were translated to when they reached issue: SIGNAL sends its increments in order and completes; WAIT sends a WAIT for every entry not consumed already and holds; BARRIER sends its arrival and holds, the core in WAIT unless a failed descriptor has stopped it (R124, R134, R135, R136, R281, R286, R290). -/
def Obligations.SequencerSyncs : Prop :=
  ∀ (s : State) (c : CoreId) (e : Issued), s.clocked c = true → (s.core c).ready = some e →
    let d := e.desc
    let m := e.cells
    let going (u : State) : State := if u.coreState c = 4 then u else u.setCoreState c 3
    let held (u : State) (l : List WEntry) : State := going (u.setCore c { u.core c with ready := none, held := some { id := e.id, op := dOp d, addr := e.addr, desc := d, ents := l, sigSite := e.sigSite, sigCell := e.sigCell, since := u.now c.site, slot := 0, stage := 0, expired := false, withdrawn := false, bad := 0 } })
    let message (type site cell value : Nat) (cons : Bool) : Msg := .sync { type := type, dest := site, cell := cell, value := value, src := c.site, slot := c.slot, cons := cons }
    (dOp d = 0x10 →
      exec (.signal c) s = .next (((each (dEntries d) (fun x v => v.sendSignal c x.2.1 (cellOf m x.2.1).1 (cellOf m x.2.1).2 x.2.2 e.addr) s).seqDone c e (e.addr + 64)).settle s.pending)) ∧
    (dOp d = 0x11 →
      let left := (dEntries d).filter (fun x => !(((s.core c).consumed / 16).testBit x.1))
      let ents := left.map (fun x => ({ ix := x.1, vid := x.2.1, thresh := x.2.2, cons := (df d 17 3 0).testBit x.1, site := (cellOf m x.2.1).1, cell := (cellOf m x.2.1).2, st := .sent } : WEntry))
      exec (.wait c) s = .next (((held { s with msgs := s.msgs ++ ents.map (fun w => message 2 w.site w.cell w.thresh w.cons) } ents).afterAnswer c).settle s.pending)) ∧
    (dOp d = 0x12 →
      let p := cellOf m (df d 16 11 0)
      exec (.barrier c) s = .next ((held (s.send (message 4 p.1 p.2 (df d 20 23 0) false))
        [{ ix := 0, vid := df d 16 11 0, thresh := df d 20 23 0, cons := false, site := p.1, cell := p.2, st := .sent }]).settle s.pending))

/-- STEP_END leaves the restart record, SQ_STEP_NUM and an arrival at the steward and holds; HALT ends the dispatch with the index registers, the loop and call stacks cleared, the working part of core memory zeroed and the core IDLE; ENQ reserves a slot and holds (R139, R140, R142, R192). -/
def Obligations.SequencerHolds : Prop :=
  ∀ (s : State) (c : CoreId) (e : Issued), s.clocked c = true → (s.core c).ready = some e →
    let d := e.desc
    let k := s.core c
    let held (u : State) (stage : Nat) : State := u.onCore c (fun k => { k with ready := none, held := some { id := e.id, op := dOp d, addr := e.addr, desc := d, ents := [], sigSite := e.sigSite, sigCell := e.sigCell, since := u.now c.site, slot := 0, stage := stage, expired := false, withdrawn := false, bad := 0 } })
    (∀ u : State, dOp d = 0x03 →
      s.restartPoint c { pc := e.addr + 64, ix := s.ixRegs c, loops := k.loops, calls := k.calls, step := df d 16 31 0 } = (.ok (), u) →
      ∃ v : State, exec (.stepEnd c) s = .next (v.settle s.pending) ∧ v.rd (F.SQ_STEP_NUM_STEP.core c) = df d 16 31 0 ∧
        v.msgs = u.msgs ++ [.ctl { type := 8, dest := u.steward, src := c.site, tag := c.slot, words := [u.ctxOf c <<< 8 + (u.rd (F.CORE_BIND_VCORE.core c)) <<< 18, df d 16 31 0] }] ∧
        (v.core c).held.isSome = true ∧ (v.core c).fetched = []) ∧
    (dOp d = 0x18 → k.held = none → exec (.enq c) s =
      .next ((held (s.send (.ctl (doorbellMsg (df d 16 11 0) 1 (s.ctxOf c) s.steward c.site c.slot 0))) 1).settle s.pending)) ∧
    (dOp d = 0x02 →
      let u := ((s.setCore c { k with ready := none }).wr (F.SQ_PC.core c) ((e.addr + 64) >>> 6)).finishDesc c e.addr d e.sigSite e.sigCell 0 0 0
      u.coreState c ≠ 4 → (u.core c).stopReq = .none →
      ∃ v : State, exec (.halt c) s = .next (v.settle s.pending) ∧ v.coreState c = 1 ∧ v.ixRegs c = [0, 0, 0, 0, 0, 0, 0] ∧
        (v.core c).loops = [] ∧ (v.core c).calls = [] ∧ (v.core c).ready = none ∧ v.on (F.CB_STAT_ZEROING.core c) = true ∧
        (∀ a, (v.rd (F.CB_RES_RES.core c)) * 65536 ≤ a → a < 0x400000 → mget v.cmem (coreAddr c a) = 0))

/-- The sequencer at a descriptor whose wait set holds: an engine descriptor that passes its checks takes a place in the issue window and the sequencer goes on behind it; any other is made ready; while entries are unsatisfied the core stands in WAIT, while only an order condition is open in RUN; with nothing fetched it asks for the aligned group of four (R112, R121, R126, R128, R144). A timeout of a wait cancels: each entry sent and not answered gets a CANCEL at its cell, one registered nowhere is dropped, and the wait is marked expired; the timeout of an ENQ that found no room fails it with 0x510D (R113, R142, R288). -/
def Obligations.WaitSets : Prop :=
  (∀ (s : State) (c : CoreId), s.clocked c = true → s.bound c = true → (s.coreState c = 2 ∨ s.coreState c = 3) →
    (s.core c).ready = none → (s.core c).held = none → (s.core c).stopReq = .none → s.on (F.CORE_CTL_HALT.core c) = false →
    let k := s.core c
    let left (cd : Cand) (k : CoreSt) : CoreSt :=
      { k with cand := none, prevId := k.nextId, nextId := k.nextId + 1, consumed := if dOp cd.desc = 0x11 then k.consumed / 16 * 16 else 0 }
    let issued (cd : Cand) (l : List (Option TRef)) : Issued := { id := k.nextId, addr := cd.addr, desc := cd.desc, agent := agentOf cd.desc, phase := .waiting, ix := s.ixRegs c, trefs := l, sigSite := cd.sigSite, sigCell := cd.sigCell, acks := 0, bad := 0, cur := 0, cnt0 := 0, cnt1 := 0, cells := cd.cells }
    (∀ cd, k.cand = some cd → cd.withdrawn = false → cd.expired = false →
      (cd.ents.all (fun e => decide (e.st = .satisfied)) = false → exec (.waitSetEval c) s = .next ((s.setCoreState c 3).settle s.pending)) ∧
      (cd.ents.all (fun e => decide (e.st = .satisfied)) = true → mayIssue k cd.desc = false → exec (.waitSetEval c) s = .next ((s.setCoreState c 2).settle s.pending)) ∧
      (cd.ents.all (fun e => decide (e.st = .satisfied)) = true → mayIssue k cd.desc = true → isEngine (dOp cd.desc) = false →
        exec (.waitSetEval c) s = .next (((s.setCore c { left cd k with ready := some (issued cd []) }).setCoreState c 2).settle s.pending)) ∧
      (∀ (l : List (Option TRef)) (u : State), cd.ents.all (fun e => decide (e.st = .satisfied)) = true → mayIssue k cd.desc = true → isEngine (dOp cd.desc) = true →
        s.startCheck c cd.desc (s.ixRegs c) = (.ok l, u) → (u.core c).stopReq = .none →
        exec (.waitSetEval c) s = .next ((((u.setCore c { left cd (u.core c) with window := (u.core c).window ++ [issued cd l] }).wr (F.SQ_PC.core c) ((cd.addr + 64) >>> 6)).setCoreState c 2).settle s.pending))) ∧
    (∀ p off, k.cand = none → k.fetched = [] → s.outst.any (fun r => r.site == c.site && r.unit == c.slot && r.why == 1) = false →
      s.findStack c.site (s.pc c - s.pc c % 256) = .ok (p, off) →
      exec (.waitSetEval c) s = .next ((s.request { type := 4, dest := 4 * p + 2, src := c.site, sunit := c.slot, master := s.ctxOf c, addr := stkAddr p off } 1 (s.pc c - s.pc c % 256) 0).settle s.pending))) ∧
  (∀ (s : State) (c : CoreId), s.clocked c = true →
    let dropped (l : List WEntry) : List WEntry := l.map (fun e => if e.st = .noroom ∨ e.st = .unsent then { e with st := .cancelled } else e)
    let cancels (l : List WEntry) : List Msg := (l.filter (fun e => decide (e.st = .sent))).map (fun e =>
      .sync { type := 3, dest := e.site, cell := e.cell, value := 0, src := c.site, slot := c.slot, cons := false })
    (∀ cd, (s.core c).cand = some cd → cd.expired = false → cd.withdrawn = false → cd.ents.all (fun e => decide (e.st = .satisfied)) = false →
      s.rd (F.SQ_HDR_TMO_TMO.core c) ≠ 0 →
      exec (.waitSetTimeout c) s = .next (((({ s with msgs := s.msgs ++ cancels cd.ents } : State).setCore c
        { s.core c with cand := some { cd with ents := dropped cd.ents, expired := true } }).afterAnswer c).settle s.pending)) ∧
    (∀ h, (s.core c).held = some h → h.expired = false → h.withdrawn = false → h.op = 0x11 ∨ h.op = 0x12 → heldTmo h.desc ≠ 0 →
      exec (.waitTimeout c) s = .next (((({ s with msgs := s.msgs ++ cancels h.ents } : State).setCore c
        { s.core c with held := some { h with ents := dropped h.ents, expired := true } }).afterAnswer c).settle s.pending)) ∧
    (∀ h, (s.core c).held = some h → h.op = 0x18 → h.stage = 2 → h.desc.testBit 144 = false → df h.desc 20 23 0 ≠ 0 →
      exec (.enqFullTimeout c) s = .next ((s.seqFail c h.addr h.desc (dErr 0x510D 0 16 0 0x18)).settle s.pending)))

/-- LDS and STS: STS puts register A of every enabled lane into the stream's buffer at the lane's row and the column, and no other word of the engine's stores changes; LDS takes it from there, or the value fetched from an input block; nothing else changes (R154, R155, R156, R170). -/
def Obligations.LaneStreams : Prop :=
  (∀ (s : State) (c : CoreId) (w : Nat), s.AtLane c 0x0B w →
    let v := (s.core c).vx
    let col := if (iB w).testBit 2 then iC w else v.col
    v.wb.any (fun e => e.1 == iB w % 4) = false → s.lastPass c = true →
    ∃ (t : State) (b : Tab Nat), exec (.laneSts c .clean) s = .next t ∧ EngineWent s t c { s.core c with vx := { v with buf := b } } 1 ∧
      (∀ l, s.lit c w l = true → t.eng c (outAddr (iB w % 4) (col / 32) l (col % 32)) = s.vreg c l (iA w) % 2 ^ 32) ∧
      (∀ a, (∀ l, s.lit c w l = true → a ≠ outAddr (iB w % 4) (col / 32) l (col % 32)) → t.eng c a = s.eng c a ∧
        ((2, coreAddr c a) ∈ s.parBad → a < 0x800000 → (2, coreAddr c a) ∈ t.parBad)) ∧
      ∀ st band x l, tget 0 b (bufKey st band (x / 32) l (x % 32)) =
        if st = iB w % 4 ∧ band = v.band ∧ x = col ∧ s.lit c w l then 2 * s.vreg c l (iA w) + 1 else tget 0 v.buf (bufKey st band (x / 32) l (x % 32))) ∧
  (∀ (s : State) (c : CoreId) (w : Nat), s.AtLane c 0x0A w →
    let v := (s.core c).vx
    let st := iB w % 4
    let col := if (iB w).testBit 2 then iC w else v.col
    (2 ≤ st → s.lastPass c = true ∨ (isRed v.desc = true ∧ st = 2) →
      ∃ t, exec (.laneLds c .clean) s = .next t ∧ LaneWent s t c (s.core c) 1 ∧
        LaneRegs s t c w (fun l => tget 0 v.buf (bufKey st v.band (col / 32) l (col % 32)) / 2 % 2 ^ 32)) ∧
    (st < 2 → (∀ l, s.lit c w l = true → v.ins.any (fun e => e.1 == [st, col / 32, l / 32]) = true ∧
        s.overlapped c v st (32 * (vxOrg v.desc v.ix).1 + 64 * v.band + l) (32 * (vxOrg v.desc v.ix).2 + col) = false) →
      ∃ t, exec (.laneLds c .clean) s = .next t ∧ LaneWent s t c (s.core c) 1 ∧
        LaneRegs s t c w (fun l => (tget [] v.ins [st, col / 32, l / 32]).getD (elemIndex (l % 32) (col % 32)) 0 % 2 ^ 32)))

/-- The data descriptors, once their agent may run them and their memory is not being filled: LOAD and STORE move their region, COPY and FILL write panel memory or are handed to core or die memory, ACCUM, GATHER and SCATTER go as far as there is room, MCAST sends every packet to every target die of its group; each then stands done with its count of 64-byte units, or holds the code that failed it, with which the core stops (R115, R120, R124, R130, R131, R132, R193, R216, R220, R257, R258, R262). -/
def Obligations.DataDescriptors : Prop :=
  (∀ (s u : State) (c : CoreId) (e : Issued) (b : TRef), s.clocked c = true → runnable (s.core c) 0x23 = some e → s.dataBusy c e = false →
    e.trefs.getD 1 none = some b →
    (b.space = 0 → s.fillRegion c e b = (.ok (), u) → exec (.fill c) s = .next ((u.onIssued c e.id (fun x =>
      { x with phase := .done, cnt0 := df e.desc 28 15 0 * df e.desc 30 15 0 * (zOf b.fmt / 64) % 2 ^ 32 })).settle s.pending)) ∧
    (b.space ≠ 0 → e.phase = .waiting → s.on (F.CB_STAT_FILLING.core c) = false →
      exec (.fill c) s = .next ((((s.wr (F.CB_STAT_FILLING.core c) 1).onIssued c e.id (fun x => { x with phase := .running })).onCore c
        (fun k => { k with fillFor := e.id })).settle s.pending))) ∧
  ∀ (s u : State) (c : CoreId) (e : Issued) (a b : TRef), s.clocked c = true → runnable (s.core c) (dOp e.desc) = some e → s.dataBusy c e = false →
    e.trefs.getD 0 none = some a → e.trefs.getD 1 none = some b →
    let d := e.desc
    let ends (v : State) (n : Nat) : Host.Outcome State Fault Refusal :=
      .next ((v.onIssued c e.id (fun x => { x with phase := .done, cnt0 := n % 2 ^ 32 })).settle s.pending)
    let fails (v : State) (code : Nat) : Host.Outcome State Fault Refusal :=
      .next (((v.onIssued c e.id (fun x => { x with phase := .done, bad := if x.bad = 0 then code else x.bad })).stopCore c code).settle s.pending)
    let units := df d 28 15 0 * df d 30 15 0 * (zOf b.fmt / 64)
    let streamed := each (dataTouch d e.ix (some a) none) (fun r v => v.prefetchRegion c r) s
    let handed : Host.Outcome State Fault Refusal := .next ((((s.wr (F.CB_STAT_FILLING.core c) 1).onIssued c e.id (fun x => { x with phase := .running })).onCore c
      (fun k => { k with fillFor := e.id })).settle s.pending)
    (dOp d = 0x20 → (streamed.moveRegion c e a b = (.ok (), u) → exec (.load c) s = ends u units) ∧
      (∀ code, streamed.moveRegion c e a b = (.error code, u) → exec (.load c) s = fails u code)) ∧
    (dOp d = 0x21 → (s.moveRegion c e a b = (.ok (), u) → exec (.store c) s = ends u units) ∧
      (∀ code, s.moveRegion c e a b = (.error code, u) → exec (.store c) s = fails u code)) ∧
    (dOp d = 0x22 → (b.space = 0 → s.copyPanel c e a b = (.ok (), u) → exec (.copy c) s = ends u units) ∧
      (b.space ≠ 0 → e.phase = .waiting → s.on (F.CB_STAT_FILLING.core c) = false → exec (.copy c) s = handed)) ∧
    (∀ n full, dOp d = 0x24 → s.accumRun c e a b = (.ok (), n, full, u) →
      let v := u.onIssued c e.id (fun x => { x with cur := n, phase := .running })
      exec (.accum c) s = if df d 28 15 0 * df d 30 15 0 ≤ n then ends v units else .next (v.settle s.pending)) ∧
    (∀ l n full v, dOp d = 0x26 ∨ dOp d = 0x27 → s.readList c e = (.ok l, v) → (∀ r ∈ l, r < 32 * (if dOp d = 0x26 then a.brows else b.brows)) →
      v.listRun c e (dOp d) a b l = (.ok (), n, full, u) →
      let z := u.onIssued c e.id (fun x => { x with cur := n, phase := .running })
      exec (if dOp d = 0x26 then .gather c else .scatter c) s =
        if l.length ≤ n then ends z (l.length * ((df d 30 15 0 * rowLen b + 63) / 64)) else .next (z.settle s.pending)) ∧
    (∀ l, dOp d = 0x25 → e.phase = .waiting → streamed.mcastData c e a b = (.ok l, u) →
      let g := df d 38 11 0
      let gi := 4096 * u.activeCopy c.site 2 + g
      let root := u.rd (F.BK_MC_ENTRY_ROOTSITE.at c.site 0 gi)
      u.routed c.site root = true →
      ∃ (v : State) (pkt : Nat × List Byte → Pkt), exec (.mcast c) s = .next (v.settle s.pending) ∧
        v.msgs = u.msgs ++ l.flatMap (fun p => (u.mcTargets root g).map (fun t => .mcast t (pkt p))) ∧
        (∀ p, (pkt p).dest = root ∧ (pkt p).addr = p.1 ∧ (pkt p).data = p.2 ∧ (pkt p).group = g ∧ (pkt p).count = l.length % 65536 ∧ (pkt p).xfer = (u.core c).mcTransfer) ∧
        v.cores = (({ u with msgs := v.msgs } : State).onCore c (fun k => { k with mcTransfer := (k.mcTransfer + 1) % 65536, window := k.window.map (fun y => if y.id = e.id then { y with phase := .done, cnt0 := units % 2 ^ 32, acks := u.rd (F.BK_MC_NDIES_NDIES.at c.site 0 gi) } else y) })).cores)

/-- A block that keeps its format and its scale plane is moved unaltered: the bytes written at the destination are those read at the source (R131). Transposing a block twice gives the block, and the element codes of a block survive being written as bytes and read back (R55, R59, R81). -/
def Obligations.TiledBlocks : Prop :=
  (∀ (s u v : State) (c : CoreId) (w : Who) (a b : TRef) (i j x y : Nat) (rnd ovf : Bool) (bs sc : List Byte),
    a.fmt = b.fmt → a.scaled = b.scaled → s.readBlock c w a i j = (.ok (bs, sc), u) → u.writeBlock c w b x y bs sc = (.ok (), v) →
    s.moveBlock c w a b i j x y false rnd ovf = (.ok (), v)) ∧
  ((∀ l : List Nat, l.length = 1024 → transpose 0 (transpose 0 l) = l ∧ ∀ r c, r < 32 → c < 32 → (transpose 0 l).getD (elemIndex r c) 0 = l.getD (elemIndex c r) 0) ∧
  (∀ l : List Byte, l.length = 16 → transposeScales (transposeScales l) = l) ∧
  (∀ (f : Fmt) (l : List Nat), l.length = 1024 → (∀ x ∈ l, x < 2 ^ fmtBits f) → (bytesOf f l).length = blockBytes f ∧ blockCodes f (bytesOf f l) = l))

/-- The matrix descriptors and the vector descriptors begin once their agent may run them, their engine is idle and their memory is not being filled: MM, MM_ACC and PBP with their accumulator tiles at their starting values and every tile-segment to run, VRUN and VREDUCE with their program, cleared lane registers and the first band (R86, R87, R97, R106, R149, R151, R152, R156, R173). -/
def Obligations.EnginesBegin : Prop :=
  (∀ row ∈ ([(Instr.mm, 0x40), (Instr.mmAcc, 0x41), (Instr.pbp, 0x42)] : List ((CoreId → Instr) × Nat)),
    ∀ (s u v : State) (c : CoreId) (e : Issued) (frozen : List (Nat × Nat × Nat)), s.clocked c = true → dOp e.desc = row.2 →
      runnable (s.core c) row.2 = some e → e.phase = .waiting → (s.core c).mx.active = false → s.mxBusy c e = false →
      (∀ g ∈ tilesOf e.desc, accIn e.desc g.kind = 1 → s.tileValid c g.tile = true) →
      (each (mxTouch e) (fun r t => t.prefetchStart c r) s).readFreeze c e = (.ok frozen, u) → u.initTiles c e = (.ok (), v) →
      ∃ t, exec (row.1 c) s = .next t ∧ t.on (F.MX_STAT_ACTIVE.core c) = true ∧ t.msgs = v.msgs ∧ (∀ a, mget t.mem a = mget v.mem a) ∧
        t.core c = { v.core c with bufGen := 1, window := (v.core c).window.map (fun x => if x.id = e.id then { x with phase := .running } else x), mx := { mxReset with active := true, id := e.id, addr := e.addr, desc := e.desc, ix := e.ix, trefs := e.trefs, frozen := frozen, tol := v.rd (F.MX_CFG_TOL_EXP.core c), check := v.on (F.MX_CFG_CHECK_EN.core c), segs := segsOf e.desc } }) ∧
  (∀ row ∈ ([(Instr.vrun, 0x30), (Instr.vreduce, 0x31)] : List ((CoreId → Instr) × Nat)),
    ∀ (s u v : State) (c : CoreId) (e : Issued) (snap : Tab (List Byte × List Byte)), s.clocked c = true → dOp e.desc = row.2 →
      runnable (s.core c) row.2 = some e → e.phase = .waiting → (s.core c).vx.active = false → s.vxBusy c e = false →
      s.loadProg c e = (.ok (), u) →
      (let len := u.rd (slotLenLoc c (df e.desc 16 1 0))
       streamCause (isRed e.desc) (u.progWord c (df e.desc 16 1 0) 0) len e.trefs (u.progInstrs c (df e.desc 16 1 0) len) = none) →
      u.snapshot c e = (.ok snap, v) →
      let o := vxOrg e.desc e.ix
      let begun := (v.onIssued c e.id (fun x => { x with phase := .running })).onCore c (fun k => { k with bufGen := 1 })
      let streamed := each [0, 1] (fun p z => match e.trefs.getD p none with | some r => z.prefetchStart c ⟨r, o.1, o.2, vxNr e.desc, vxNc e.desc⟩ | none => z) begun
      let cleared := (streamed.engZero c (laneAddr 0 0) 0x2000).engZero c (latchAddr 0 0) 0x800
      exec (row.1 c) s = .next (((cleared.setVx c { vxReset with active := true, id := e.id, addr := e.addr, desc := e.desc, ix := e.ix, trefs := e.trefs, shadow := cleared.on (F.VX_CFG_SHADOW_EN.core c), section_ := 0, snap := snap, outs := cleared.outPieces c e.desc e.ix e.trefs }).enterBand c 0).settle s.pending) ∧
      ∀ l r, l < 64 → r < 32 → cleared.vreg c l r = 0)

/-- A tile-segment drains, once no request that reached a stack before its reads is still to be performed: without the check, or with no row that mismatches, its partials are folded into the accumulators; a mismatch puts it back to run again after the one on the array, a second one fails the descriptor with 0x1101 and stops the core; an exempt row counts once; the free words the sums took are used up (R72, R77, R80, R86, R99, R100, R101, R206). A row of the array mismatches when the sum of its partials and its check cell differ by more than 2^(−TOL_EXP) times the absolute sum plus the smallest normal number; a row whose absolute sum is no finite number is exempt (R100; the two sides are compared in units of 2^(−149 − TOL_EXP)). -/
def Obligations.TileSegments : Prop :=
  (∀ (s u : State) (c : CoreId) (flips : List (Nat × Nat)) (g : Seg) (rest : List Seg) (m : Mx), s.clocked c = true → (s.core c).mx.segs = g :: rest →
    s.blocksBusy c (segFetches (s.core c).mx g) = false → s.loadOperands c (s.core c).mx g = (.ok (), m, u) →
    let f := segFmts m g
    let v := (u.prefetchOn c m g).add (F.MX_BUSY.core c) (32 * (if g.kind = 0 then g.kn else 2) * rate2 f.1 f.2 / 2)
    let d := v.drain c m g v.nonce flips
    let z : State := { v with nonce := v.nonce + drainNonces }
    let rows := (List.range 64).map (fun i => rowCheck m.tol (d.sums.getD i 0) (d.p.getD i 0) (d.q.getD i 0))
    let free := (List.range 64).filter (fun i => (rows.getD i none).isNone && !(g.exempt.contains i))
    let counted := z.bump (F.MX_EXEMPT_COUNT.core c) free.length
    let bad := (List.range 64).filter (fun i => rows.getD i none == some true)
    (m.check = false → exec (.tileSegmentEnd c flips none) s = .next ((z.segPass c m g rest d.cells).settle s.pending)) ∧
    (m.check = true → bad = [] → exec (.tileSegmentEnd c flips none) s = .next ((counted.segPass c m g rest d.cells).settle s.pending)) ∧
    (∀ i is, m.check = true → bad = i :: is → g.rerun = false → exec (.tileSegmentEnd c flips none) s = .next ((counted.mxGoOn c
      { m with segs := rest.take 1 ++ { g with rerun := true, row := i, rows := is.length + 1, exempt := free } :: rest.drop 1 }).settle s.pending)) ∧
    (∀ i is, m.check = true → bad = i :: is → g.rerun = true → ∃ t, exec (.tileSegmentEnd c flips none) s = .next t ∧
      t.rd (F.MX_STAT_TILE_VALID.core c) = 0 ∧ t.on (F.MX_STAT_ACTIVE.core c) = false ∧ (t.core c).mx = mxReset ∧ t.coreState c = 4)) ∧
  ((∀ tol sum p q, isFin (ofB32 q) = false → rowCheck tol sum p q = none) ∧
  (∀ tol sum p q, isFin (ofB32 q) = true → (isFin (ofB32 sum) = false ∨ isFin (ofB32 p) = false) → rowCheck tol sum p q = some true) ∧
  (∀ (tol sum p q : Nat), isFin (ofB32 q) = true → isFin (ofB32 sum) = true → isFin (ofB32 p) = true →
    let units (x : Sys2Proof.Machine.Num) (u : Int) : Int := match x with | .fin neg m e => inUnits neg m e u | _ => 0
    rowCheck tol sum p q = some (decide (units (ofB32 q) (-149) + 2 ^ (23 + tol) < ((units (ofB32 sum) (-149 - tol) - units (ofB32 p) (-149 - tol)).natAbs : Int)))))

/-- The other ends of work: a tile whose place in memory no earlier request, fill or migration holds is converted and written back, its VALID bit cleared; a block column of a stream is written or combined, and after the last the vector descriptor is done; the oldest descriptor done and acknowledged completes, one with a reported error fails (R88, R89, R98, R114, R123, R124, R155, R170). -/
def Obligations.WorkEnds : Prop :=
  ∀ (s : State) (c : CoreId), s.clocked c = true →
    (∀ (g : Seg) (rest : List Seg) (t : TRef) (u : State), (s.core c).mx.convs = g :: rest → (s.core c).mx.trefs.getD (destPos g.kind) none = some t →
      accOutMode (s.core c).mx.desc g.kind ≠ 2 →
      let m := (s.core c).mx
      let blocks := tileBlocks.filterMap (fun (ib, jb) => (destBlock m.desc m.ix m.trefs g ib jb).map (fun (i, j) => (ib, jb, i, j)))
      s.blocksBusy c (blocks.map (fun x => (t, x.2.2.1, x.2.2.2))) = false → s.copyHeld c (blocks.map (fun x => ⟨t, x.2.2.1, x.2.2.2, 1, 1⟩)) = false →
      loopE blocks.length (fun n s => let x := blocks.getD n (0, 0, 0, 0); s.writeBack c m g t x.1 x.2.1 x.2.2.1 x.2.2.2) s = (.ok (), u) →
      exec (.tileConvertDone c none) s = .next (((u.setTileValid c g.tile false).mxGoOn c { m with convs := rest }).settle s.pending)) ∧
    (∀ (st band bc : Nat) (rest : List (Nat × Nat × Nat)) (u : State), (s.core c).vx.wb = (st, band, bc) :: rest → s.columnBusy c st band bc = false →
      (if isRed (s.core c).vx.desc then s.combine c band bc else s.writeColumn c st band bc) = (.ok (), u) →
      let v := u.onCore c (fun k => { k with vx := { k.vx with wb := rest } })
      exec (.streamWritebackDone c .clean) s = .next ((if rest.isEmpty ∧ (v.core c).vx.section_ = 3 then v.vxFinish c else v).settle s.pending)) ∧
    (∀ e, (s.core c).window.find? (fun e => decide (e.phase = .done ∧ e.acks = 0 ∧ e.bad = 0)) = some e →
      exec (.descComplete c) s = .next ((((s.onCore c (fun k => { k with window := k.window.filter (fun x => decide (x.id ≠ e.id)) })).finishDesc
        c e.addr e.desc e.sigSite e.sigCell 0 e.cnt0 e.cnt1).tryStop c).settle s.pending)) ∧
    (∀ e, (s.core c).window.find? (fun e => decide (e.phase = .done ∧ e.acks = 0 ∧ e.bad ≠ 0)) = some e →
      exec (.descFail c) s = .next (((s.onCore c (fun k => { k with window := k.window.filter (fun x =>
        decide (x.id ≠ e.id ∧ ¬ (x.agent = e.agent ∧ e.id < x.id ∧ x.phase = .waiting))) })).failDesc c e.addr e.desc e.bad e.cnt0 e.cnt1).settle s.pending))

/-- The codes of the element formats decode as their tables say: a sign, an exponent field and a fraction field; the top exponent is an ordinary one in E2M1, holds one NaN in E4M3, and Inf and NaN in the others (R46, R48, R49, R50). -/
def Obligations.FormatCodes : Prop :=
  ∀ row ∈ ([(.e2m1, 2, 1, 1), (.e4m3, 4, 3, 7), (.e5m2, 5, 2, 15), (.e8m7, 8, 7, 127), (.e9m6, 9, 6, 255), (.b32, 8, 23, 127)] : List (Fmt × Nat × Nat × Int)),
    ∀ code, code < 2 ^ (row.2.1 + row.2.2.1 + 1) →
      let e := row.2.1; let f := row.2.2.1; let b := row.2.2.2
      let s := code.testBit (e + f); let ex : Nat := code / 2 ^ f % 2 ^ e; let fr : Nat := code % 2 ^ f
      let holds (m : Nat) (x : Int) : Prop := ∃ n y, decodeNum row.1 code = .fin s n y ∧ eqNum (.fin s n y) (.fin s m x) = true
      (ex = 0 → holds fr (1 - b - (f : Int))) ∧
      (0 < ex → ex < 2 ^ e - 1 ∨ row.1 = .e2m1 ∨ (row.1 = .e4m3 ∧ fr ≠ 7) → holds (2 ^ f + fr) ((ex : Int) - b - (f : Int))) ∧
      (row.1 = .e4m3 → ex = 15 → fr = 7 → decodeNum row.1 code = .nan) ∧
      (row.1 ≠ .e2m1 → row.1 ≠ .e4m3 → ex = 2 ^ e - 1 → decodeNum row.1 code = if fr = 0 then .inf s else .nan)

/-- In every element format, a value that a code names converts back to that code, under either overflow option (R46, R47, R62, R66). Every finite binary32 value converts to a finite E9M6 value and every nonzero one to a nonzero normal number, in either rounding mode: the conversion never overflows, underflows or produces a subnormal (R65). -/
def Obligations.FormatsRoundTrip : Prop :=
  (∀ (f : Fmt) (code : Nat) (ovf : Bool) (g : Gen), code < 2 ^ fmtBits f → isNan (decodeNum f code) = false → convert f false ovf (decodeNum f code) g = (code, g)) ∧
  (∀ (code : Nat) (sr ovf : Bool) (g : Gen), code < 2 ^ 32 → isFin (ofB32 code) = true →
    let r := (convert .e9m6 sr ovf (ofB32 code) g).1
    isFin (decodeNum .e9m6 r) = true ∧ (code % 2 ^ 31 ≠ 0 → 1 ≤ r / 64 % 512 ∧ r / 64 % 512 < 511) ∧ (code % 2 ^ 31 = 0 → r % 2 ^ 15 = 0))

/-- A word stored over the fields it holds: RO and SC fields keep their value, W1C bits clear and W1S bits set where the word has a 1, RW and WO fields take the word's bits unless their register table keeps the value out; no field outside the word changes, and nothing but registers (R7, R10). -/
def Obligations.RegisterWords : Prop :=
  ∀ (s : State) (n page : Nat) (b : Blk) (off w master : Nat), off % 4 = 0 → off < 4096 →
    let t := s.storeWord n page b off w master
    let at_ (f : Fld) : Loc := s.fieldLoc n page b off f
    (∀ f ∈ wordFlds b off, t.rd (at_ f) = match f.acc with
      | .ro | .sc => s.rd (at_ f)
      | .w1c => (s.rd (at_ f) - (s.rd (at_ f) &&& wordInto off f 0 w)) % 2 ^ f.width
      | .w1s => (s.rd (at_ f) ||| wordInto off f 0 w) % 2 ^ f.width
      | .rw | .wo =>
        if fieldThere n f = true ∧ s.keeps n page (if off < 0x100 then .hdr else b) off f (wordInto off f (s.rd (at_ f)) w) w master = false
        then wordInto off f (s.rd (at_ f)) w % 2 ^ f.width else s.rd (at_ f)) ∧
    (∀ k : Loc, (∀ f ∈ wordFlds b off, k.key ≠ (at_ f).key) → t.rd k = s.rd k) ∧ t = { s with fld := t.fld }

/-- REGISTER_WRITE and PG_RESET: a write that nothing answers, or that a page takes without effect, changes nothing; one admitted to a site's tables is done; a refused one changes no register but the refusal's count and its latch; PG_CTL.RESET returns every field of the page that it covers to its reset value and leaves every other field and all memory alone (R36, R39, R40, R328, R335). -/
def Obligations.RegisterWrites : Prop :=
  ∀ (s : State) (n page off w master src : Nat), off % 4 = 0 →
    (s.answerer n page off = .nothing ∨ s.answerer n page off = .dark → exec (.registerWrite n page off w master src) s = .next (s.settle s.pending)) ∧
    (s.answerer n page off = .zero ∨ s.answerer n page off = .status → s.regShut n page off master true = none →
      exec (.registerWrite n page off w master src) s = .next (s.settle s.pending)) ∧
    (∀ b, s.answerer n page off = .page b → hasAcl n = true → s.regRefusal n page off master true = none →
      exec (.registerWrite n page off w master src) s = .next ((s.pageWrite n page b off (w % 2 ^ 32) master src).settle s.pending)) ∧
    (∀ table code cause window a, s.answerer n page off ≠ .nothing → s.answerer n page off ≠ .dark → hasAcl n = true → s.regRefusal n page off master true = some (table, (code, cause, window), a) →
      ∃ t, exec (.registerWrite n page off w master src) s = .next t ∧ s.SameMem t ∧ t.cores = s.cores ∧
        t.rd (F.AC_DENY_COUNT.at n) = satInc (s.rd (F.AC_DENY_COUNT.at n)) (F.AC_DENY_COUNT.at n).width 1 % 2 ^ (F.AC_DENY_COUNT.at n).width ∧
        t.rd (F.AC_LAST_MASTER.at n) = master % 2 ^ (F.AC_LAST_MASTER.at n).width ∧ t.on (F.AC_LAST_WRITE.at n) = true ∧
        s.SameRegs t [F.AC_DENY_COUNT.at n, F.AC_LAST_MASTER.at n, F.AC_LAST_WINDOW.at n, F.AC_LAST_TABLE.at n, F.AC_LAST_WRITE.at n, F.AC_LAST_FENCED.at n]) ∧
    (∀ b, s.answerer n page 8 = .page b → hasAcl n = true → s.regRefusal n page 8 s.stewardMaster true = none → bareP2 n page = false →
      b ≠ .coreCtl → b ≠ .guest → b ≠ .ethport → b ≠ .grove → b ≠ .therm →
      ∃ t, exec (.pgReset n page) s = .next t ∧ s.SameMem t ∧ t.cores = s.cores ∧ t.msgs = s.msgs ∧
        ∀ site p bit idx width rst, t.rd { key := [site, p, bit, idx], width := width, rst := rst } =
          if (site = n ∨ site = homeOf n page 0x100) ∧ p = page ∧ pageResets b bit = true then rst
          else s.rd { key := [site, p, bit, idx], width := width, rst := rst })

/-- The controls of a core, where its page takes the write: HALT asks a running core to stop at its next boundary, is kept by one that does not run, and lets a halted one go on; STEP lets a halted core execute one descriptor; the seed's high half reseeds a halted core's generator; the debug window reads and writes core memory, and refuses a write while the core is not IDLE or HALTED (R69, R144, R145, R147, R199, R200). -/
def Obligations.CoreControls : Prop :=
  ∀ (s : State) (c : CoreId),
    (s.takes c.site (0x40 + 4 * c.slot) 0x104 = true →
      ((s.coreState c = 2 ∨ s.coreState c = 3) → exec (.coreHalt c true) s = .next (((s.wr (F.CORE_CTL_HALT.core c) 1).tryStop c).settle s.pending)) ∧
      (¬ (s.coreState c = 2 ∨ s.coreState c = 3) → exec (.coreHalt c true) s = .next ((s.wr (F.CORE_CTL_HALT.core c) 1).settle s.pending)) ∧
      (s.coreState c = 5 → exec (.coreHalt c false) s =
        .next ((((s.wr (F.CORE_CTL_HALT.core c) 0).wr (F.CORE_STATE_STATE.core c) 2).wr (F.CORE_STOP_CODE.core c) 0).settle s.pending)) ∧
      (s.coreState c = 5 → exec (.coreStep c) s =
        .next ((((s.onCore c (fun k => { k with stopReq := .one })).wr (F.CORE_STATE_STATE.core c) 2).wr (F.CORE_STOP_CODE.core c) 0).settle s.pending)) ∧
      (s.coreState c ≠ 5 → exec (.coreStep c) s = .next (s.settle s.pending))) ∧
    (∀ v, s.takes c.site (0x41 + 4 * c.slot) 0x154 = true → s.coreState c = 5 →
      exec (.sqSeedHiWrite c v) s = .next ((s.onCore c (fun k => { k with gen := genSeed (k.seedLo + (v % 2 ^ 32) <<< 32) })).settle s.pending)) ∧
    (s.takes c.site (0x43 + 4 * c.slot) 0x10C = true → s.on (F.CB_DBG_ADDR_INC.core c) = false →
      let a := (s.rd (F.CB_DBG_ADDR_ADDR.core c)) <<< 2
      let shown (u : State) (par denied : Nat) : State := (u.wr (F.CB_DBG_STAT_PAR.core c) par).wr (F.CB_DBG_STAT_DENIED.core c) denied
      (a < 0x400000 → s.badWord 0 (coreAddr c a) 4 = none → exec (.cbDbgDataAccess c none) s =
        .next (((shown s 0 0).send (.regValue c.site (0x43 + 4 * c.slot) 0x10C (mnat s.cmem (coreAddr c a) 4))).settle s.pending)) ∧
      (∀ v, a < 0x400000 → (s.coreState c = 1 ∨ s.coreState c = 5) → ∃ t, exec (.cbDbgDataAccess c (some v)) s = .next t ∧
        (∀ x, mget t.cmem x = if coreAddr c a ≤ x ∧ x < coreAddr c a + 4 then (natLe v 4).getD (x - coreAddr c a) 0 else mget s.cmem x) ∧
        t.on (F.CB_DBG_STAT_DENIED.core c) = false) ∧
      (∀ v, ¬ (s.coreState c = 1 ∨ s.coreState c = 5) → ∃ t, exec (.cbDbgDataAccess c (some v)) s = .next t ∧ s.SameMem t ∧
        t.on (F.CB_DBG_STAT_DENIED.core c) = true ∧ s.SameRegs t [F.CB_DBG_STAT_PAR.core c, F.CB_DBG_STAT_DENIED.core c] ∧ t.cores = s.cores))

/-- Core memory and die memory: a write stores its bytes and no other byte changes, a read delivers the bytes that stand there; a die word that fails parity waits for its re-read, which recovers or loses it; a region's new assignment is made only while no context of the die's partition runs, RESIDENT and SCRUB acting meanwhile, and waits for its scrub, which leaves it zero; fills end (R180, R185, R192, R193, R194, R195, R201, R202, R306). -/
def Obligations.StoreCommands : Prop :=
  (∀ (s : State) (c : CoreId) (addr id : Nat) (bs : List Byte), s.clocked c = true → addr + bs.length ≤ 0x400000 → s.on (F.CB_STAT_ZEROING.core c) = false →
    ∃ t, exec (.coreMemoryAccess c addr bs.length (some bs) 0 id) s = .next t ∧
      (∀ x, mget t.cmem x = if coreAddr c addr ≤ x ∧ x < coreAddr c addr + bs.length then bs.getD (x - coreAddr c addr) 0 else mget s.cmem x) ∧
      (∀ x, mget t.mem x = mget s.mem x ∧ mget t.dmem x = mget s.dmem x) ∧ s.SameRegs t [F.CB_STAT_HWM.core c] ∧ t.cores = s.cores ∧ t.msgs = s.msgs) ∧
  (∀ (s : State) (c : CoreId) (addr len id : Nat), s.clocked c = true → addr + len ≤ 0x400000 → s.on (F.CB_STAT_ZEROING.core c) = false →
    s.badWord 0 (coreAddr c addr) len = none → exec (.coreMemoryAccess c addr len none 0 id) s =
      .next ((s.send (.localData c.site c.slot 0 addr (mgetN s.cmem (coreAddr c addr) len))).settle s.pending)) ∧
  (∀ (s : State) (c : CoreId) (addr id : Nat) (bs : List Byte), s.clocked c = true → addr + bs.length ≤ 0x3000000 → s.dieBusy c.site addr = false →
    ∃ t, exec (.diememSlotAccess c addr bs.length (some bs) false id) s = .next t ∧
      (∀ x, mget t.dmem x = if dieAddr c.site addr ≤ x ∧ x < dieAddr c.site addr + bs.length then bs.getD (x - dieAddr c.site addr) 0 else mget s.dmem x) ∧
      (∀ x, mget t.mem x = mget s.mem x ∧ mget t.cmem x = mget s.cmem x) ∧ s.SameRegs t [] ∧ t.cores = s.cores ∧ t.msgs = s.msgs) ∧
  (∀ (s : State) (c : CoreId) (addr len id : Nat), s.clocked c = true → addr + len ≤ 0x3000000 → s.dieBusy c.site addr = false →
    s.badWord 1 (dieAddr c.site addr) len = none →
    exec (.diememSlotAccess c addr len none false id) s =
      .next ((s.send (.localData c.site c.slot 1 addr (mgetN s.dmem (dieAddr c.site addr) len))).settle s.pending) ∧
    exec (.diememSlotAccess c addr len none true id) s = .next (({ s with dmReread := s.dmReread ++ [⟨c.site, c.slot, addr, id, addr, len⟩] } : State).settle s.pending)) ∧
  (∀ (s : State) (c : CoreId) (e : Reread), s.clocked c = true → s.dmReread.find? (fun e => decide (e.site = c.site ∧ e.slot = c.slot)) = some e →
    s.badWord 1 (dieAddr c.site e.bad) 4 = none →
    (∃ t, exec (.diememReread c true) s = .next t ∧ t.dmReread = s.dmReread.erase e ∧
      t.rd (F.DIEMEM_RECOV_COUNT.at c.site) = satInc (s.rd (F.DIEMEM_RECOV_COUNT.at c.site)) 32 1 % 2 ^ 32 ∧
      .localData c.site c.slot 1 e.addr (mgetN s.dmem (dieAddr c.site e.addr) e.len) ∈ t.msgs) ∧
    (∃ t, exec (.diememReread c false) s = .next t ∧ t.dmReread = s.dmReread.erase e ∧
      t.rd (F.DIEMEM_LOST_COUNT.at c.site) = satInc (s.rd (F.DIEMEM_LOST_COUNT.at c.site)) 32 1 % 2 ^ 32 ∧ (1, dieAddr c.site e.bad) ∈ t.parBad)) ∧
  (∀ (s : State) (site v : Nat), s.takes site 9 0x104 = true →
    let g := s.rd (F.DIEMEM_SEL_REGION.at site)
    let scrubbing (u : State) : State := (u.wr (F.DIEMEM_REGION_SCRUB.at site 0 g) 1).wr (F.DIEMEM_STAT_SCRUBBING.at site) 1
    g < 48 → s.on (F.DIEMEM_REGION_SCRUB.at site 0 g) = false → v.testBit 19 = false →
    (s.siteBusy site = true → s.rd (F.DIEMEM_REGION_OWNER.at site 0 g) < 1024 → s.rd (F.DIEMEM_REGION_VALID.at site 0 g) < 2 →
      let kept := s.wr (F.DIEMEM_REGION_RESIDENT.at site 0 g) (bits v 17 17)
      exec (.diememRegionWrite site v) s = .next ((if v.testBit 18 then scrubbing kept else kept).settle s.pending)) ∧
    (s.siteBusy site = false → (bits v 9 0 ≠ s.rd (F.DIEMEM_REGION_OWNER.at site 0 g) ∨ bits v 16 16 ≠ s.rd (F.DIEMEM_REGION_VALID.at site 0 g)) →
      exec (.diememRegionWrite site v) s =
        .next (({ scrubbing s with regionPend := tset 0 s.regionPend [site, g] (regionPack (bits v 9 0) (bits v 16 16) (bits v 17 17)) } : State).settle s.pending)) ∧
    exec (.diememScrub site g) s = .next ((scrubbing s).settle s.pending)) ∧
  (∀ (s : State) (site g : Nat), g < 48 → s.on (F.DIEMEM_REGION_SCRUB.at site 0 g) = true →
    ∃ t, exec (.scrubDone site g) s = .next t ∧ t.on (F.DIEMEM_REGION_SCRUB.at site 0 g) = false ∧ tget 0 t.regionPend [site, g] = 0 ∧
      (∀ x, mget t.dmem x = if dieAddr site (g * 0x100000) ≤ x ∧ x < dieAddr site (g * 0x100000) + 0x100000 then 0 else mget s.dmem x) ∧
      (∀ o v r, o < 1024 → v < 2 → r < 2 → tget 0 s.regionPend [site, g] = regionPack o v r →
        t.rd (F.DIEMEM_REGION_OWNER.at site 0 g) = o ∧ t.rd (F.DIEMEM_REGION_VALID.at site 0 g) = v ∧ t.rd (F.DIEMEM_REGION_RESIDENT.at site 0 g) = r)) ∧
  (∀ (s : State) (c : CoreId), s.clocked c = true →
    exec (.coreZeroFillDone c) s = .next ((s.wr (F.CB_STAT_ZEROING.core c) 0).settle s.pending)) ∧
  (∀ (s u : State) (c : CoreId) (e : Issued) (a b : TRef), s.clocked c = true → s.on (F.CB_STAT_FILLING.core c) = true →
    (s.core c).window.find? (fun e => decide (e.id = (s.core c).fillFor ∧ e.phase = .running)) = some e → e.trefs.getD 1 none = some b → e.trefs.getD 0 none = some a →
    dOp e.desc = 0x22 → (s.wr (F.CB_STAT_FILLING.core c) 0).copyRegion c e a b = (.ok (), u) →
    exec (.memFillCopyDone c) s = .next ((u.onIssued c e.id (fun x => { x with phase := .done, cnt0 := regionUnits e.desc b % 2 ^ 32 })).settle s.pending))

/-- Requests at a stack that is ACTIVE and lets them through, each in its turn and with no earlier request for a sector of its own: a READ or FETCH whose sectors are all in the cache is answered with the bytes that stand in memory, one with a sector still to be read waits for its line; a WRITE of a whole sector puts its bytes there and nowhere else, a WRITE_PARTIAL those its byte mask names; a contribution enters the inbound queue while its 256 KiB have room; a stream program whose runs its master may read takes a free entry (R206, R208, R211, R214, R215, R253, R257). What a stack does with what its DRAM answers: a line fill makes the sectors that passed their CRC valid and re-reads the bad ones that are wanted; a re-read cures its sector or is made once more, then loses it; a prefetch fill and a queued contribution are taken in their turn, one of a reserved format is refused and reported with 0x1001 (R45, R76, R211, R214, R218, R223, R226, R257). -/
def Obligations.StackRequests : Prop :=
  (∀ (s : State) (p : Nat) (k : Pkt), p < 72 → k.crc = pktCrc k → k.dest = 4 * p + 2 →
    let u := s.takeBulk k
    let site := 4 * p + 2
    let off := k.addr % 2 ^ 37
    s.inTurn (.bulk k) = true → u.rd (F.SC_STAT_PSTATE.at site) = 0 → u.stands p k = false →
    (∀ row ∈ ([(Instr.read, 1), (Instr.fetch, 4)] : List ((Nat → Pkt → StkEvent → Instr) × Nat)), k.type = row.2 → k.vc = 0 →
      u.stkRefuse p (askerOf k 0) false off (readLen k) = (none, u) →
      ((∀ x ∈ secsOf off (readLen k), u.cached p x = true ∧ u.lostCause p x = none) →
        ∃ t, exec (row.1 site k {}) s = .next t ∧ s.SameMem t ∧ t.Sent (respond k 8 0 (mgetN s.mem (stkAddr p off) (readLen k))) ∧
          t.rd (F.SC_HIT.at site) = (u.rd (F.SC_HIT.at site) + (secsOf off (readLen k)).length) % 2 ^ 64) ∧
      ((∃ x ∈ secsOf off (readLen k), u.cached p x = false ∧ u.lostCause p x = none) →
        ∃ t, exec (row.1 site k {}) s = .next t ∧ s.SameMem t ∧ t.msgs = u.msgs ∧ (t.stk p).waitFill = (u.stk p).waitFill ++ [k])) ∧
    (k.type = 2 → k.vc = 0 → k.data.length = 64 → off % 64 = 0 → u.stkRefuse p (askerOf k 1) true off 64 = (none, u) → u.siteState site = 1 →
      u.mgHolds p off = false → u.mgTarget p off = none → (u.stk p).failed.contains (chanOf off) = false →
      ∃ t, exec (.write site k) s = .next t ∧ t.Sent (respond k 9 0 []) ∧
        ∀ x, mget t.mem x = if stkAddr p off ≤ x ∧ x < stkAddr p off + 64 then k.data.getD (x - stkAddr p off) 0 else mget s.mem x) ∧
    (k.type = 3 → k.vc = 0 → k.data.length = 64 → off % 64 = 0 → u.stkRefuse p (askerOf k 9) true off 64 = (none, u) → u.mgHolds p off = false → u.mgTarget p off = none →
      u.cached p (off >>> 6) = true → u.lostCause p (off >>> 6) = none →
      ∃ t, exec (.writePartial site k {}) s = .next t ∧ t.Sent (respond k 9 0 []) ∧
        ∀ x, mget t.mem x = if stkAddr p off ≤ x ∧ x < stkAddr p off + 64 ∧ k.bmask.testBit (x - stkAddr p off) = true
          then k.data.getD (x - stkAddr p off) 0 else mget s.mem x) ∧
    (k.type = 6 → k.vc = 3 → 262144 < s.accHeld p + k.data.length → exec (.accumPacket site k) s = .next (s.settle s.pending)) ∧
    (k.type = 6 → k.vc = 3 → s.accHeld p + k.data.length ≤ 262144 → exec (.accumPacket site k) s = .next ((u.setStk p { u.stk p with accq := (u.stk p).accq ++ [k] }).settle s.pending)) ∧
    (∀ i, k.type = 5 → k.vc = 0 →
      let n (a z : Nat) : Nat := leNat ((k.inl.drop a).take z)
      let start := n 0 4 % 2 ^ 29
      let g := chanOf (start * 256) / 4
      u.on (F.SC_CTL_PF_EN.at site) = true → u.quiesced site 0x21 = false → n 4 2 ≠ 0 → n 10 2 ≠ 0 → start < stackBytes / 256 →
      (∀ e ∈ streamRuns start (n 4 2) (n 6 4) (n 10 2), u.stkCheck site (n 12 2 % 4096) false (256 * e.1) (256 * e.2) = none) →
      (List.range 8).find? (fun i => !(u.pfe p (8 * g + i)).used) = some i →
      exec (.prefetch site k) s = .next (((u.setPfe p (8 * g + i) { used := true, start := start, run := n 4 2, stride := n 6 4, count := n 10 2, master := n 12 2 % 4096, next := 0, reached := 0, last := u.now site, inflight := [] }).pfIssue p (8 * g + i)).settle s.pending))) ∧
  (∀ (s : State) (p : Nat), p < 72 →
    let site := 4 * p + 2
    (∀ l bad, ((s.wanted p l).filter (fun x => !(s.cached p x))).isEmpty = false → s.pfInflight p l = false → (s.stk p).cleanBad = [] →
      let isBad (i : Nat) : Bool := bad.testBit i || (s.lostCause p (4 * l + i)).isSome
      let good := (List.range 4).foldl (fun m i => if isBad i then m else setBit m i) 0
      let v := if good = 0 then s else s.allocLine p l good 0 false
      let again := (List.range 4).filter (fun i => isBad i && ((s.wanted p l).filter (fun x => !(s.cached p x))).contains (4 * l + i) &&
        !((v.stk p).rereads.any (fun e => e.1 == 4 * l + i)))
      exec (.lineFillDone site l bad) s = .next (((v.setStk p { v.stk p with rereads := (v.stk p).rereads ++ again.map (fun i => (4 * l + i, 0)) }).serveWaiting p none).settle s.pending)) ∧
    (∀ sec n rest, (s.stk p).rereads = (sec, n) :: rest → s.lostCause p sec = none → (s.stk p).cleanBad.contains sec = false →
      let w := s.waitingFor p sec
      let v := s.setStk p { s.stk p with rereads := rest }
      exec (.crcRereadDone site true) s = .next ((((v.allocLine p (sec >>> 2) (1 <<< (sec % 4)) 0 false).crcFixed p sec w.1 (n + 1) w.2).serveWaiting p none).settle s.pending) ∧
      (n = 0 → exec (.crcRereadDone site false) s = .next ((s.setStk p { s.stk p with rereads := rest ++ [(sec, 1)] }).settle s.pending)) ∧
      (n = 1 → exec (.crcRereadDone site false) s = .next ((((v.setFailing p sec 1).lossRecord p sec 1 w.1 2 w.2).serveWaiting p (some sec)).settle s.pending))) ∧
    (∀ l bad e, (List.range 64).find? (fun e => (s.pfe p e).inflight.contains l) = some e →
      (∀ i, i < 4 → bad.testBit i = false ∧ s.lostCause p (4 * l + i) = none) →
      exec (.prefetchFillDone site l bad) s = .next ((((s.setPfe p e { s.pfe p e with inflight := (s.pfe p e).inflight.erase l }).allocLine p l 15 0 true).serveWaiting p none |>.pfIssue p e).settle s.pending)) ∧
    (∀ k rest off, (s.stk p).accq = k :: rest → s.rd (F.SC_STAT_PSTATE.at site) = 0 → off = k.addr % 2 ^ 37 →
      meets (s.stk p).waitFill k = false → s.mgMeets p k = false → (s.stk p).behind = [] →
      let v := s.setStk p { s.stk p with accq := rest }
      (fmtOf k.fmt = none ∨ fmtOf (k.inl.headD 0).toNat = none → ∃ t, exec (.accumApplied site) s = .next t ∧ s.SameMem t ∧ t.Sent (respond k 0xA 0x1001 []) ∧
        ∃ r, .errec r ∈ t.msgs ∧ r.code = 0x1001 ∧ r.sev = 2 ∧ r.site = site ∧ r.master = k.master) ∧
      ∀ f g, fmtOf k.fmt = some f → fmtOf (k.inl.headD 0).toNat = some g →
      let codes := codesOf f k.data
      codes.length * fmtBits g / 8 = 64 → off % 64 = 0 → codes.length = 512 / fmtBits g → k.type = 6 →
      v.stkRefuse p (askerOf k 2) true off 64 = (none, v) → v.cached p (off >>> 6) = true → v.lostCause p (off >>> 6) = none → v.mgTarget p off = none →
      let old := codesOf g (mgetN v.mem (stkAddr p off) 64)
      let new := convertList g k.rnd false (codes.mapIdx (fun i x => addNum (decodeNum g (old.getD i 0)) (decodeNum f x))) (v.stkGen p (chanOf off))
      ∃ t, exec (.accumApplied site) s = .next t ∧ t.Sent (respond k 0xA 0 []) ∧ t.stkGen p (chanOf off) = new.2 ∧
        t.rd (F.NM_ACCUM.at site) = (v.rd (F.NM_ACCUM.at site) + 1) % 2 ^ 64 ∧ (∀ x, mget t.mem x = mget (msetN v.mem (stkAddr p off) (bytesOf g new.1)) x)))

/-- The states of a stack's cache and of its memory: flush and invalidation, self-refresh and wake, refresh, the seed of its generators, and a channel that loses contact, which fails the migrations to its stack (R213, R214, R219, R224, R227, R228, R231). -/
def Obligations.StackModes : Prop :=
  ∀ (s : State) (p : Nat), p < 72 →
    let site := 4 * p + 2
    let ps := s.rd (F.SC_STAT_PSTATE.at site)
    let cleaned : State := { s with cache := (s.cache.map (fun e => if e.1.head? = some p then (e.1, { e.2 with dirty := 0 }) else e)).filter (fun e => decide (e.2 ≠ lineReset)) }
    (s.takes site 0x20 0x100 = true →
      let passing (op : Nat) : State := (cleaned.wr (F.SC_STAT_FLUSHING.at site) 1).setStk p { s.stk p with flushOp := op }
      ((s.stk p).flushOp = 0 → exec (.scFlush site) s = .next ((passing 1).settle s.pending) ∧ exec (.scInval site) s = .next ((passing 2).settle s.pending)) ∧
      ((s.stk p).flushOp ≠ 0 → exec (.scFlush site) s = .next (s.settle s.pending) ∧ exec (.scInval site) s = .next (s.settle s.pending))) ∧
    ((s.stk p).flushOp ≠ 0 → ps ≠ 1 → ∃ t, exec (.flushDone site) s = .next t ∧ s.SameMem t ∧ t.on (F.SC_STAT_FLUSHING.at site) = false ∧
      (t.stk p).flushOp = 0 ∧ ((s.stk p).flushOp = 2 → ∀ e ∈ t.cache, e.1.head? = some p → e.2.valid = e.2.dirty)) ∧
    (s.takes site 0x20 0x100 = true →
      (ps = 0 → exec (.scSleepWrite site true) s = .next ((((s.wr (F.SC_CTL_SLEEP.at site) 1).wr (F.SC_STAT_PSTATE.at site) 1).wr (F.SC_STAT_FLUSHING.at site) 1).settle s.pending)) ∧
      (ps = 2 → exec (.scSleepWrite site false) s = .next (((s.wr (F.SC_CTL_SLEEP.at site) 0).wr (F.SC_STAT_PSTATE.at site) 3).settle s.pending))) ∧
    (ps = 1 → (s.stk p).waiting = [] → ∃ t, exec (.selfRefreshEntered site) s = .next t ∧ s.SameMem t ∧ t.rd (F.SC_STAT_PSTATE.at site) = 2 ∧ t.on (F.SC_STAT_FLUSHING.at site) = false ∧
      t.rd (F.PF_ACTIVE.at site) = 0 ∧ (∀ e ∈ t.cache, e.1.head? ≠ some p) ∧ ∀ e ∈ t.pfs, e.1.head? ≠ some p) ∧
    (ps = 3 → exec (.wakeDone site) s = .next ((each (s.stk p).waitWake (fun k u => u.serve p k {})
      ((((s.wr (F.SC_STAT_PSTATE.at site) 0).wr (F.SC_CTL_SLEEP.at site) 0).bump (F.SC_WAKES_COUNT.at site)).setStk p { s.stk p with waitWake := [] })).settle s.pending)) ∧
    (∀ ch, ch < 32 → ps ≠ 2 → exec (.refreshTick site ch) s = .next ((s.setStk p { s.stk p with
      refreshes := tset 0 (s.stk p).refreshes [ch] ((tget 0 (s.stk p).refreshes [ch] + 1) % 196608) }).settle s.pending)) ∧
    (∀ e, (s.pfe p e).used = true → s.rd (F.PF_CFG_IDLE.at site) ≠ 0 → ∃ t, exec (.pfIdleExpire site e) s = .next t ∧ (t.pfe p e).used = false ∧ s.SameMem t ∧
      s.SameRegs t [F.PF_ACTIVE.at site] ∧ t.msgs = s.msgs) ∧
    (∀ v, s.takes site 0x22 0x108 = true → ∃ t, exec (.nmSeedHiWrite site v) s = .next t ∧
      let sigma := s.rd (F.NM_SEED.at site) % 2 ^ 32 + (v % 2 ^ 32) <<< 32
      t.rd (F.NM_SEED.at site) = sigma ∧ (∀ ch, ch < 32 → t.stkGen p ch = genSeed ((sigma + ch) % 2 ^ 64)) ∧ s.SameRegs t [F.NM_SEED.at site]) ∧
    (∀ ch, ch < 32 → (s.stk p).failed.contains ch = false →
      let u := ((s.setStk p { s.stk p with failed := (s.stk p).failed ++ [ch] }).wr (F.CH_STATE_STATE.at site ch) 4).wr (F.PG_HEALTH_STATE.at site) 2
      exec (.channelContactLost site ch) s =
        .next (((u.send (.errec { code := 0x2204, site := site, unit := ch, sev := 2, time := s.now site })).mgLost site).settle s.pending) ∧
      (s.mgSources site = [] → (u.send (.errec { code := 0x2204, site := site, unit := ch, sev := 2, time := s.now site })).mgLost site =
        u.send (.errec { code := 0x2204, site := site, unit := ch, sev := 2, time := s.now site })))

/-- The near-memory engine's digest and the migration of a stack: a digest runs or is refused with 0x2205, and leaves its results; a migration starts only towards a stack awaiting it, copies the line at MG_PTR with its four sectors, through the destination's cache, and goes on, ends when aborted or released (R210, R221, R225, R231; the range and format taken at GO are the model's choice, log 63). -/
def Obligations.StackEngine : Prop :=
  ∀ (s : State) (p : Nat), p < 72 →
    let site := 4 * p + 2
    let base := (s.rd (F.DG_BASE.at site)) <<< 6
    let len := (s.rd (F.DG_LEN.at site)) <<< 6
    let fmt := s.rd (F.DG_CTL_FMT.at site)
    let d := s.rd (F.MG_CTL_DEST.at site)
    let dest := (s.stk p).mgTo
    let requeued : State := if (s.stk p).waitLine.isEmpty then s else s.setStk p { s.stk p with waitLine := [], behind := (s.stk p).waitLine ++ (s.stk p).behind }
    let goesOn (u : State) : State := (each (u.stk p).waitLine (fun k v => v.perform p k {}) (u.setStk p { u.stk p with waitLine := [] })).stkGo p
    (s.takes site 0x22 0x11C = true → s.on (F.NM_STAT_DG_BUSY.at site) = false → s.quiesced site 0x22 = false →
      (len ≠ 0 → base + len ≤ stackBytes → fmt ≤ 5 →
        exec (.dgGo site) s = .next ((((s.wr (F.DG_RESULT_VALID.at site) 0).wr (F.NM_STAT_DG_BUSY.at site) 1).setStk p { s.stk p with dg := (base, len, fmt) }).settle s.pending)) ∧
      (len = 0 ∨ stackBytes < base + len → ∃ t, exec (.dgGo site) s = .next t ∧ t.rd (F.DG_RESULT_CODE.at site) = 0x2205 ∧ t.on (F.DG_RESULT_VALID.at site) = false ∧
        s.SameMem t ∧ t.on (F.NM_STAT_DG_BUSY.at site) = false)) ∧
    (s.on (F.NM_STAT_DG_BUSY.at site) = true → ∃ t, exec (.digestDone site) s = .next t ∧
      let r := (s.stk p).dg
      let g := s.digest p r.1 r.2.1 ((fmtOf r.2.2).getD .b32)
      t.rd (F.DG_SUM_VALUE.at site) = toB32 g.sum % 2 ^ 32 ∧ t.rd (F.DG_SUMSQ_VALUE.at site) = toB32 g.sumsq % 2 ^ 32 ∧ t.rd (F.DG_MAXABS_VALUE.at site) = toB32 g.maxabs % 2 ^ 32 ∧
      t.rd (F.DG_RESULT_CODE.at site) = (if g.lost = [] then 0 else 0x2201) ∧ t.on (F.DG_RESULT_VALID.at site) = true ∧ t.on (F.NM_STAT_DG_BUSY.at site) = false ∧ s.SameMem t ∧
      (g.lost = [] → t.msgs = s.msgs)) ∧
    (s.takes site 0x22 0x140 = true →
      (s.on (F.NM_STAT_MG_ACTIVE.at site) = false → s.quiesced site 0x22 = false → d ≤ 71 → 4 * d + 2 ≠ site → s.siteState (4 * d + 2) = 4 → exec (.mgStart site) s =
        .next ((((((s.wr (F.NM_STAT_MG_ACTIVE.at site) 1).wr (F.NM_STAT_MG_DONE.at site) 0).wr (F.MG_PTR.at site) 0).wr (F.MG_LOST_COUNT.at site) 0).setStk p { s.stk p with mgTo := d }).settle s.pending)) ∧
      (s.on (F.NM_STAT_MG_ACTIVE.at site) = true → exec (.mgAbort site) s = .next ((goesOn ((requeued.wr (F.NM_STAT_MG_ACTIVE.at site) 0).wr (F.SITE_STATE_STATE.at (4 * dest + 2)) 4)).settle s.pending)) ∧
      (s.on (F.NM_STAT_MG_DONE.at site) = true → exec (.mgRelease site) s = .next ((goesOn (s.wr (F.NM_STAT_MG_ACTIVE.at site) 0)).settle s.pending)) ∧
      (s.on (F.NM_STAT_MG_DONE.at site) = false → exec (.mgRelease site) s = .next (s.settle s.pending))) ∧
    (s.on (F.NM_STAT_MG_ACTIVE.at site) = true → s.on (F.NM_STAT_MG_DONE.at site) = false → dest < 72 → dest ≠ p → (s.stk p).waitLine = [] → (s.stk p).behind = [] →
      let l := s.rd (F.MG_PTR.at site)
      l < stackBytes / 256 → (∀ i, i < 4 → s.lostCause p (4 * l + i) = none) →
      exec (.mgLineCopyAck site) s = .next (((s.mgLineAck site).followUp).settle s.pending) ∧ (s.mgLineAck site).rd (F.MG_PTR.at site) = l + 1 ∧
        (∀ i, i < 4 → (s.mgLineAck site).cached dest (4 * l + i) = true) ∧
        ∀ x, mget (s.mgLineAck site).mem x =
          if stkAddr dest (256 * l) ≤ x ∧ x < stkAddr dest (256 * l) + 256 then mget s.mem (stkAddr p (256 * l) + (x - stkAddr dest (256 * l))) else mget s.mem x)

/-- Responses, each in its turn: one that matches a request by tag and fence tag answers it, and the request is outstanding no longer; a late one, or one from before a reset, changes nothing; a packet whose CRC is bad is discarded and counted. A fetched group enters the fetch buffer; an acknowledged contribution is outstanding no more, and its code stops the core (R126, R254, R256, R257). A request whose answer does not come is made again with a new tag while it reads and has re-issues left, and is given up with 0x3101 after that (R254, R274); a multicast's answers reach its descriptor, one of each target die (R262). -/
def Obligations.NetworkResponses : Prop :=
  (∀ row ∈ ([(Instr.readRsp, 8), (Instr.writeAck, 9), (Instr.accumAck, 0xA)] : List ((Nat → Pkt → Instr) × Nat)),
    ∀ (s : State) (p : Pkt),
      let u := s.takeBulk p
      s.inTurn (.bulk p) = true →
      (takesIn p.dest row.2 1 p = false →
        exec (row.1 p.dest p) s = .next (((u.bump (F.BK_CRC_DROP_COUNT.at p.dest)).charge (.site p.dest) 4 0).settle s.pending)) ∧
      (takesIn p.dest row.2 1 p = true → u.matchReq p = none → exec (row.1 p.dest p) s = .next (u.settle s.pending)) ∧
      (∀ r, takesIn p.dest row.2 1 p = true → u.matchReq p = some r → rspType r.pkt.type = row.2 → r.why ≠ 7 → r.tries = 0 →
        let v : State := { u with outst := u.outst.erase r }
        let data := if p.len = 0 then p.inl else p.data
        let c : CoreId := ⟨r.site, r.unit⟩
        (r.why = 1 → v.bound c = true → r.ref = v.pc c - v.pc c % 256 → p.status = 0 →
          exec (row.1 p.dest p) s = .next ((v.fetchFill c r.ref data).settle s.pending)) ∧
        (r.why = 2 → r.pkt.type = 6 →
          let w := ({ v with accOut := tset 0 v.accOut [r.site, r.pkt.dest / 4] (tget 0 v.accOut [r.site, r.pkt.dest / 4] - r.pkt.data.length) } : State).onIssued c r.ref
            (fun e => { e with acks := e.acks - 1, bad := if e.bad = 0 then p.status else e.bad })
          exec (row.1 p.dest p) s = .next ((if p.status = 0 ∨ (v.core c).window.any (fun e => e.id == r.ref) = false then w else w.stopCore c p.status).settle s.pending)) ∧
        (r.why = 4 ∨ r.why = 5 ∨ r.why = 6 → exec (row.1 p.dest p) s = .next ((if r.why = 4 then v.agentAnswer r p.status data else v.hostBulkAnswer r p.status data).settle s.pending)))) ∧
  ((∀ (s : State) (site unit tag : Nat) (r : Req), s.outst.find? (fun r => decide (r.site = site ∧ r.unit = unit ∧ r.pkt.tag = tag)) = some r → r.why ≠ 7 →
    let v : State := { s with outst := s.outst.erase r }
    ((r.pkt.type = 1 ∨ r.pkt.type = 4) → r.tries < s.rd (F.BK_CFG_READ_RETRIES.at site) →
      exec (.rspTimeout site unit tag) s = .next ((v.request r.pkt r.why r.ref (r.tries + 1)).settle s.pending)) ∧
    (s.rd (F.BK_CFG_READ_RETRIES.at site) ≤ r.tries → exec (.rspTimeout site unit tag) s = .next (((v.netRecord r 0x3101 1).answerReq r 0x3101 []).settle s.pending) ∧
      (v.netRecord r 0x3101 1).rd (F.BK_TIMEOUTS_COUNT.at r.site) = satInc (s.rd (F.BK_TIMEOUTS_COUNT.at r.site)) 32 1 % 2 ^ 32)) ∧
  (∀ (s : State) (p : Pkt) (r : Req), (s.takeBulk p).matchMcast p = some r → s.inTurn (.bulk p) = true →
    let told := tget [] (s.takeBulk p).mcFrom [r.site, r.unit, r.pkt.xfer]
    (takesIn p.dest 0xB 1 p = true → exec (.mcastAck p.dest p) s = .next (((s.takeBulk p).mcastAnswer r p.src p.status).settle s.pending)) ∧
    (takesIn p.dest 0xC 1 p = true → exec (.mcastDrop p.dest p) s = .next (((s.takeBulk p).mcastAnswer r p.src 0x3301).settle s.pending)) ∧
    (∀ code, told.contains p.src = true → (s.takeBulk p).mcastAnswer r p.src code = s.takeBulk p)))

/-- A multicast copy at a target die, each in its turn: taken in where the die has room, no copy is held there and no fill runs, its bytes put into every target core, or once into die memory, of the group's owner; held otherwise, in a slot while one of the four is free; a copy held longest ejects first; the copy whose timeout ends first is dropped with its count, its record and an answer that says so (R184, R259, R260, R261, R262, R274). The order of several held copies is the model's (log 63). -/
def Obligations.MulticastCopies : Prop :=
  ∀ (s : State) (site : Nat) (p : Pkt),
    let u := s.take (.mcast site p)
    let held (slot : Bool) : List Hold := s.holds ++ [{ site := site, pkt := p, since := s.now site, slot := slot }]
    (p.crc = pktCrc p → p.type = 7 → p.vc = 2 → s.inTurn (.mcast site p) = true →
      (s.holds.any (fun e => e.site == site) = false → u.mcBusy site p = false → exec (.mcastPacket site p true) s = .next ((u.mcTake site p).settle s.pending)) ∧
      (∀ room, room = false ∨ s.holds.any (fun e => e.site == site) = true ∨ u.mcBusy site p = true →
        (s.rd (F.BK_HOLD_USED.at site) < 4 → exec (.mcastPacket site p room) s =
          .next (({ u with holds := held true } : State).wr (F.BK_HOLD_USED.at site) (s.rd (F.BK_HOLD_USED.at site) + 1) |>.settle s.pending)) ∧
        (4 ≤ s.rd (F.BK_HOLD_USED.at site) → exec (.mcastPacket site p room) s = .next (({ u with holds := held false } : State).settle s.pending))) ∧
      (∀ n, s.holds.any (fun e => e.site == site) = false → u.mcBusy site p = false → s.mcSlots site p = [n] → s.bound ⟨site, n⟩ = true →
        s.ctxOf ⟨site, n⟩ = s.rd (F.BK_MC_ENTRY_OWNER.at site 0 (s.mcIx site p.group)) → p.space = 1 →
        ∃ t, exec (.mcastPacket site p true) s = .next t ∧
          (∀ x, mget t.cmem x = if coreAddr ⟨site, n⟩ p.addr ≤ x ∧ x < coreAddr ⟨site, n⟩ p.addr + p.data.length then p.data.getD (x - coreAddr ⟨site, n⟩ p.addr) 0 else mget s.cmem x) ∧
          (∀ x, mget t.mem x = mget s.mem x ∧ mget t.dmem x = mget s.dmem x))) ∧
    (∀ e, s.holds.find? (fun e => e.site == site) = some e →
      (s.mcBusy site e.pkt = false → exec (.mcastHoldEject site) s = .next (((s.unhold e).mcTake site e.pkt).settle s.pending)) ∧
      (s.mcBusy site e.pkt = true → exec (.mcastHoldEject site) s = .next (s.settle s.pending))) ∧
    (∀ e ∈ s.holds, e.site = site → (∀ x ∈ s.holds, x.site = site → x = e ∨ s.mcEnd e < s.mcEnd x) →
      ∃ t, exec (.mcastHoldTimeout site) s = .next t ∧ s.SameMem t ∧ t.holds = (s.unhold e).holds ∧
        t.rd (F.BK_MC_DROPS_COUNT.at site) = satInc (s.rd (F.BK_MC_DROPS_COUNT.at site)) 32 1 % 2 ^ 32 ∧
        t.Sent (sealPkt { respond e.pkt 0xC 0x3301 [] with src := site, sunit := 0x1F })) ∧
    (∀ e ∈ s.holds, (e.slot = false ∨ (s.holds.erase e).any (fun x => x.site == e.site && !x.slot) = false) → (s.unhold e).holds = s.holds.erase e)

/-- Accesses over the control network, each message in its turn: RD is answered with the register's value and WR is done and acknowledged, with the requester's tag, an access through BAR0 that is refused counted at its port too; the answers end a host's access; the memory agents turn MRD and MWR into one bulk request of the steward's own master, and refuse what crosses a sector or names no word; their answer, MRSP, is taken in by the steward it answers and ends there (R36, R266, R268). -/
def Obligations.ControlAccesses : Prop :=
  ∀ (s : State) (m : CtlMsg),
    let u := s.takeCtl (.ctl m) m.src m.dest
    let page := m.words.headD 0 % 256
    let off := 4 * bits (m.words.headD 0) 17 8
    let master := bits (m.words.headD 0) 29 18
    s.inTurn (.ctl m) = true →
    (m.type = 1 → s.msgs.contains (.ctl m) = true ∨ m.src = 306 ∨ m.src = 307 → exec (.rd m) s =
      .next ((((u.regRead m.dest page off master m.src).2.portRefused m (s.regShut m.dest page off master false)).send (.ctl { type := 3, dest := m.src, src := m.dest, tag := m.tag, words := [(u.regRead m.dest page off master m.src).1] })).settle s.pending)) ∧
    (m.type = 2 → s.msgs.contains (.ctl m) = true ∨ m.src = 306 ∨ m.src = 307 → exec (.wr m) s =
      .next ((((u.regWrite m.dest page off (m.words.getD 1 0) master m.src).portRefused m (s.regShut m.dest page off master true)).send (.ctl { type := 4, dest := m.src, src := m.dest, tag := m.tag })).settle s.pending)) ∧
    (m.type = 3 → s.msgs.contains (.ctl m) = true → exec (.rdRsp m) s = .next ((u.hostRegAnswer m).settle s.pending)) ∧
    (m.type = 4 → s.msgs.contains (.ctl m) = true → exec (.wrAck m) s = .next ((u.hostRegAnswer m).settle s.pending)) ∧
    (∀ h, u.hostReqs.find? (fun h => decide (h.path = 1 ∧ hostSite h.port = m.dest ∧ h.site = m.src) && h.tags.contains m.tag) = some h → h.tags = [m.tag] →
      u.hostRegAnswer m = if h.write then (u.closeReq h).answerHost h.port .done [] else (u.closeReq h).answerHost h.port .data ((h.got ++ [m.words.headD 0]).flatMap (fun v => natLe v 4))) ∧
    (m.type = 0xB → s.msgs.contains (.ctl m) = true → exec (.mrsp m) s = .next (u.settle s.pending) ∧ u.msgs = s.msgs.erase (.ctl m) ∧ u.outst = s.outst ∧ s.SameMem u) ∧
    (m.dest = 304 ∨ m.dest = 305 → m.src = 306 ∨ m.src = 307 → s.agentHeld m.dest m.src < 16 →
      let n := bits (m.words.getD 1 0) 18 16
      let addr := m.words.headD 0 + (m.words.getD 1 0 % 65536) <<< 32
      addr % 4 = 0 →
      (n = 0 ∨ 64 < addr % 64 + 4 * n ∨ (m.type = 0xA ∧ 6 < n) → m.type = 9 ∨ m.type = 0xA →
        exec (if m.type = 9 then .mrd m else .mwr m) s = .next ((u.send (.ctl { type := 0xB, dest := m.src, src := m.dest, tag := m.tag, words := [0x2202] })).settle s.pending)) ∧
      (∀ p off, n ≠ 0 → addr % 64 + 4 * n ≤ 64 → u.xlate m.dest addr = .ok (p, off) → u.routed m.dest (4 * p + 2) = true →
        let pkt : Pkt := { type := 1, dest := 4 * p + 2, src := m.dest, master := 782 + m.src, addr := stkAddr p (off - off % 64), len := 1 }
        (m.type = 9 → exec (.mrd m) s = .next ((u.request pkt 4 (agentRef m (off % 64) n) 0).settle s.pending)) ∧
        (m.type = 0xA → n ≤ 6 → exec (.mwr m) s = .next ((u.request { pkt with type := 3, bmask := (2 ^ (4 * n) - 1) <<< (off % 64), data := (List.replicate (off % 64) (0 : Byte) ++ ((m.words.drop 2).flatMap (fun w => natLe w 4) ++ List.replicate 28 0).take (4 * n) ++ List.replicate 64 0).take 64 } 4 (agentRef m (off % 64) n) 0).settle s.pending))))

/-- Doorbells at the active steward, each in its turn, of a master that no FENCE bit and no table keeps out and of the queue's producer: TAIL moves the tail and the new entries are read, or stops the queue with 0x5302 where it would pass the ring; RESERVE grants the next slot or says FULL; PUBLISH raises the tail over the published slots and is acknowledged (R318, R319, R320, R323, R328, R332). -/
def Obligations.Doorbells : Prop :=
  ∀ (s : State) (m : CtlMsg), m.type = 5 → m.dest = s.steward → s.inTurn (.ctl m) = true →
    let u := s.takeCtl (.ctl m) m.src m.dest
    let q := m.words.headD 0 % 4096
    let master := bits (m.words.headD 0) 25 14
    let arg := m.words.getD 1 0
    let op := bits (m.words.headD 0) 13 12
    let size := 2 ^ u.rd (F.QU_CFG_LOG2SIZE.at stw 0 q)
    let core : CoreId := ⟨m.src, m.tag⟩
    let tell (v : State) (kind : Nat) (words : List Nat) : State := v.tellCore core kind master (v.rd (F.CORE_BIND_VCORE.core core)) words
    let told := s.bellsOut.find? (fun b => decide (b.msg = m))
    let back (v : State) : State := match told with | some b => { v with bellsOut := v.bellsOut.erase b } | none => v
    u.quCheck q master = 0 →
    (op = 0 → u.quRefusal q 0 = 0 → s.quCheck q master = 0 → s.quRefusal q 0 = 0 → (arg + 2 ^ 32 - u.rd (F.QU_TAIL_TAIL.at stw 0 q)) % 2 ^ 32 ≠ 0 →
      let went := ((u.wr (F.QU_TAIL_TAIL.at stw 0 q) arg).readRing q).kick
      ((arg + 2 ^ 32 - u.rd (F.QU_HEAD_HEAD.at stw 0 q)) % 2 ^ 32 ≤ size → s.tailBad q arg = false →
        exec (.doorbellTail m) s = .next ((back went).settle s.pending)) ∧
      (size < (arg + 2 ^ 32 - u.rd (F.QU_HEAD_HEAD.at stw 0 q)) % 2 ^ 32 → s.tailBad q arg = true → u.on (F.QU_STAT_STOPPED.at stw 0 q) = false →
        exec (.doorbellTail m) s = .next (((back (u.quStop q 0x5302 0 0)).bellRefused m (match told with | some b => b.pasid | none => 0) 0x5302).settle s.pending) ∧
        (u.quStop q 0x5302 0 0).rd (F.QU_STAT_CODE.at stw 0 q) = 0x5302 ∧ (u.quStop q 0x5302 0 0).on (F.QU_STAT_STOPPED.at stw 0 q) = true)) ∧
    (op = 1 → u.quRefusal q 1 = 0 →
      let r := (u.queue q).resv
      ((r + 2 ^ 32 - u.rd (F.QU_HEAD_HEAD.at stw 0 q)) % 2 ^ 32 < size →
        exec (.doorbellReserve m) s = .next ((tell (u.onQueue q (fun k => { k with resv := (r + 1) % 2 ^ 32 })) 7 [r]).settle s.pending)) ∧
      (size ≤ (r + 2 ^ 32 - u.rd (F.QU_HEAD_HEAD.at stw 0 q)) % 2 ^ 32 → exec (.doorbellReserve m) s = .next ((tell u 8 []).settle s.pending))) ∧
    (op = 2 → u.quRefusal q 2 = 0 →
      let v := (u.onQueue q (fun k => { k with pub := if k.pub.contains arg then k.pub else k.pub ++ [arg] })).raiseTail q
      exec (.doorbellPublish m) s = .next (((((tell v 9 []).readRing q).kick)).settle s.pending)) ∧
    (op = 0 → u.quRefusal q 0 ≠ 0 → s.doorbellTail m = u.cxRecord (u.quRefusal q 0) (u.quCtx q) q 0)

/-- Notices from the steward at a core whose clock runs: a bound virtual core starts with core memory zero and takes its context's values and its generator's seed, a dispatched one its first address, index registers and a restart record; its working part reads zero; a pre-emption stops it at a boundary and STOP where it stands; a grant, a full ring and an acknowledgement carry an ENQ on (R69, R106, R125, R142, R146, R190, R310, R315, R320, R322, R494, R498). Notices to the steward and step barriers, each message in its turn: the last SAVED makes a context SAVED, the last BOUND makes it ACTIVE, HALTED ends a virtual core's part of its entry; an arrival is counted once for each virtual core, a release lets STEP_END complete; a record takes the next SEQ, enters the log, is delivered and acted on, or is discarded and counted while 256 wait, and the next one taken says so (R12, R140, R310, R315, R322, R324, R333, R491, R515). -/
def Obligations.Notices : Prop :=
  (∀ (s : State) (m : CtlMsg),
    let c : CoreId := ⟨m.dest, m.tag⟩
    let u := s.takeCtl (.ctl m) m.src m.dest
    let ctx := noticeCtx m
    let v := noticeVcore m
    s.inTurn (.ctl m) = true → s.clocked c = true →
    (s.coreNotice 1 m = true → u.coreState c ≠ 0 → u.bound c = false → (u.cx ctx).binding = true → (u.cx ctx).cores[v]? = some c → (u.cx ctx).wait.contains v = true →
      m.words.getD 1 0 % 2 = 0 → ctx < 1024 → v < 2048 →
      ∃ t, exec (.noticeBind m) s = .next t ∧ t.ctxOf c = ctx ∧ t.bound c = true ∧ t.rd (F.CORE_BIND_VCORE.core c) = v ∧ t.coreState c = 1 ∧
        (t.core c).gen = genSeed ((u.rd (F.CX_SEED.at stw 0 ctx) + v) % 2 ^ 64) ∧
        t.rd (F.CB_RES_RES.core c) = u.rd (F.CX_CFG_RES.at stw 0 ctx) % 2 ^ (F.CB_RES_RES.core c).width ∧
        (∀ x, mget t.cmem x = if coreAddr c 0 ≤ x ∧ x < coreAddr c 0x400000 then 0 else mget s.cmem x) ∧ (∀ x, mget t.mem x = mget s.mem x ∧ mget t.dmem x = mget s.dmem x)) ∧
    (s.coreNotice 2 m = true → s.quiesced m.dest (0x40 + 4 * m.tag) = false → u.coreState c = 1 → u.bound c = true → u.ctxOf c = ctx → u.rd (F.CORE_BIND_VCORE.core c) = v →
      (u.dispatchOf ctx v).isSome = true → u.rd (F.RA_BASE.at stw 0 ctx) = 0 → (∀ x ∈ m.words, x < 2 ^ 32) →
      let start := u.rd (F.CX_CFG_RES.at stw 0 ctx) % 2 ^ (F.CB_RES_RES.core c).width * 65536
      ∃ t, exec (.noticeDispatch m) s = .next t ∧ t.coreState c = 2 ∧ t.rd (F.SQ_PC.core c) = (m.words.getD 2 0 + (m.words.getD 3 0 % 65536) <<< 32) >>> 6 ∧
        t.ixRegs c = [m.words.getD 4 0, m.words.getD 5 0, m.words.getD 6 0, 0, 0, 0, 0] ∧ (t.core c).loops = [] ∧ (t.core c).calls = [] ∧
        (t.core c).stepRec.step = 0xFFFFFFFF ∧ t.rd (F.CB_STAT_HWM.core c) = 0 ∧
        (∀ x, mget t.cmem x = if coreAddr c start ≤ x ∧ x < coreAddr c 0x400000 then 0 else mget s.cmem x) ∧ (∀ x, mget t.mem x = mget s.mem x ∧ mget t.dmem x = mget s.dmem x)) ∧
    (s.coreNotice 3 m = true → u.bound c = true → u.ctxOf c = ctx → (u.core c).stopReq ≠ .stop → (u.coreState c = 2 ∨ u.coreState c = 3) →
      exec (.noticePreempt m) s = .next (((u.onCore c (fun k => { k with stopReq := if m.words.getD 1 0 % 2 = 1 then .preemptStep else .preempt })).tryStop c).settle s.pending)) ∧
    (s.coreNotice 3 m = true → u.bound c = true → u.ctxOf c = ctx → (u.core c).stopReq ≠ .stop → u.coreState c = 1 →
      ∃ t, exec (.noticePreempt m) s = .next t ∧ t.coreState c = 6 ∧ (t.core c).saving = 5 ∧ (t.core c).stopReq = .none) ∧
    (s.coreNotice 10 m = true → ∃ t, exec (.noticeStop m) s = .next t ∧ (t.core c).window = [] ∧ (t.core c).held = none ∧ (t.core c).cand = none ∧
      (t.core c).stopReq = .stop ∧ (t.core c).mx = mxReset ∧ (t.core c).vx = vxReset ∧ t.rd (F.MX_STAT_TILE_VALID.core c) = 0 ∧ t.rd (F.MX_STAT_ACTIVE.core c) = 0 ∧ t.rd (F.MX_STAT_RERUN.core c) = 0 ∧ s.SameMem t) ∧
    (s.coreNotice 7 m = true → exec (.noticeGrant m) s = .next ((u.enqGrant c (m.words.getD 1 0)).settle s.pending)) ∧
    (∀ h, s.coreNotice 8 m = true → (u.core c).held = some h → h.op = 0x18 → h.stage = 1 →
      exec (.noticeFull m) s = .next ((if h.desc.testBit 144 then u.finishHeld c h 0x510D 0 else u.setCore c { u.core c with held := some { h with stage := 2 } }).settle s.pending)) ∧
    (∀ h, s.coreNotice 9 m = true → (u.core c).held = some h → h.op = 0x18 → h.stage = 4 →
      exec (.noticeDbAck m) s = .next ((u.finishHeld c h 0 (h.slot % 2 ^ u.rd (F.QU_CFG_LOG2SIZE.at stw 0 (df h.desc 16 11 0)))).settle s.pending))) ∧
  ((∀ (s : State) (m : CtlMsg), s.inTurn (.ctl m) = true →
    let u := s.takeCtl (.ctl m) m.src m.dest
    let ctx := noticeCtx m
    let v := noticeVcore m
    (s.stwNotice 4 m = true → u.cxState ctx = 3 → (u.cx ctx).wait = [v, v + 1] → exec (.noticeSaved m) s =
      .next (((u.onCx ctx (fun k => { k with wait := [v + 1] })).followUp).settle s.pending)) ∧
    (s.stwNotice 4 m = true → u.cxState ctx = 3 → (u.cx ctx).wait = [v] → (u.cx ctx).remap = false →
      let w := ((u.onCx ctx (fun k => { k with wait := [] })).setCx ctx 4).wr (F.CX_STATE_PRE_PEND.at stw 0 ctx) 0
      let z := w.onCx ctx (fun k => { k with cores := [], was := k.cores, blocked := if w.hasDispatch ctx ∨ w.hasEntry ctx then w.time + 1 else 0, savedAt := w.time + 1 })
      exec (.noticeSaved m) s = .next ((z.bindWaiting.followUp).settle s.pending) ∧ z.cxState ctx = 4) ∧
    (s.stwNotice 5 m = true → (u.cx ctx).binding = true → (u.cx ctx).wait = [v] →
      let w := ((u.onCx ctx (fun k => { k with wait := [] })).setCx ctx 2).onCx ctx (fun k => { k with binding := false })
      exec (.noticeBound m) s = .next (((w.preemptRetry ctx).kick).settle s.pending) ∧ w.cxState ctx = 2) ∧
    (∀ q e, s.stwNotice 6 m = true → u.dispatchOf ctx v = some (q, e) →
      let left := e.left.erase v
      let w := u.onEntry q e.ix (fun e => { e with left := left, lsite := m.src, lslot := m.tag })
      exec (.noticeHalted m) s = .next ((((if left.isEmpty then w.completeEntry q e.ix 0 else w).scrubWorking ctx m.src).kick).settle s.pending)) ∧
    (s.stwNotice 6 m = true → u.dispatchOf ctx v = none → exec (.noticeHalted m) s = .next ((u.scrubWorking ctx m.src).settle s.pending)) ∧
    (m.type = 8 → m.dest = s.steward → m.words.headD 0 % 2 = 0 → u.cxState ctx = 2 → u.replaying (u.cxPart ctx) = false →
      let p := u.cxPart ctx
      let w : State := { u with arrived := tset [] u.arrived [p] ((tget [] u.arrived [p]).filter (fun a => decide (¬ (a.1 = ctx ∧ a.2.1 = v))) ++ [(ctx, v, m.words.getD 1 0)]) }
      exec (.stepArrival m) s = .next ((w.groveArrived.followUp).settle s.pending)) ∧
    (∀ h, let c : CoreId := ⟨m.dest, m.tag⟩
      s.clocked (noticeCore m) = true → m.type = 8 → m.words.headD 0 % 2 = 1 → isDie m.dest = true → m.tag < 18 → s.dark m.dest = false → (u.core c).held = some h → h.op = 0x03 →
      u.bound c = true → u.ctxOf c = ctx → exec (.stepReleaseReceive m) s = .next ((u.finishHeld c h 0 0).settle s.pending))) ∧
  (∀ (s : State) (p : Nat), s.allArrived p = true → s.replaying p = false → s.groveBound p = false →
    exec (.stepRelease p) s = .next ((((s.snapshotPart p).stepRelease p).followUp).settle s.pending)) ∧
  (∀ (s : State) (r : Rec), s.inTurn (.errec r) = true →
    let u := s.takeCtl (.errec r) r.site s.steward
    let seq := u.rd (F.EL_NEXT_SEQ.at stw)
    let r' := { r with seq := seq, lost := u.intakeLost }
    (u.intake = none → exec (.errec r) s = .next (({ u.bump (F.EL_DROPPED_COUNT.at stw) with intakeLost := true } : State).settle s.pending)) ∧
    (∀ till, u.intake = some till → r.sev < 1 →
      let logged := (({ u with intakeUntil := till, intakeLost := false } : State).wr (F.EL_NEXT_SEQ.at stw) (seq + 1)).logRec r'
      exec (.errec r) s = .next ((((logged.deliver r').uartQueue r').chargeRec r' |>.recActs r').settle s.pending) ∧
      logged.rd (F.EL_NEXT_SEQ.at stw) = (seq + 1) % 2 ^ 32 ∧
      logged.elog = (if u.elog.length < 4096 then u.elog else u.elog.drop 1) ++ [r'])))

/-- Messages at a sync unit, each in its turn and one at a time: SIGNAL adds and answers, WAIT takes its threshold or waits, CANCEL withdraws, ARRIVE counts and the last arrival releases the barrier; the answers reach the core or change nothing. After each addition no waiter is left whose threshold the value reaches, and what was consumed is what the value fell by (R282, R283, R284, R287, R288, R290, R291, R296). -/
def Obligations.SyncMessages : Prop :=
  (∀ v l, let q := evalWaiters v l
    (∀ w ∈ q.2.1, w.barrier = false → q.1 < w.thresh) ∧ q.1 + (q.2.2.map (fun w => if w.cons then w.thresh else 0)).sum = v ∧
    List.Sublist q.2.1 l ∧ List.Sublist q.2.2 l ∧ q.2.1.length + q.2.2.length = l.length ∧ ∀ w ∈ q.2.2, w.barrier = false ∧ w.thresh ≤ v) ∧
  ∀ (s : State) (m : SyncMsg),
    let u := s.takeSync m
    let v := s.cellValue m.dest m.cell
    let l := s.cellWaiters m.dest m.cell
    let told (w : Waiter) (status : Nat) : Msg := .sync { type := 5, dest := w.site, cell := m.cell, value := status, src := m.dest, slot := w.slot }
    let answer (status : Nat) : Msg := .sync { type := 5, dest := m.src, cell := m.cell, value := status, src := m.dest, slot := m.slot }
    let row : Instr := if m.type = 1 then .syncSignal m else if m.type = 2 then .syncWait m else .syncArrive m
    (isDie m.dest = true → s.dark m.dest = false → m.cell < 2048 → s.inTurn (.sync m) = true →
      (s.cellValid m.dest m.cell = false → m.type = 1 ∨ m.type = 2 ∨ m.type = 4 → exec row s = .next ((u.send (answer 5)).settle s.pending)) ∧
      (s.cellValid m.dest m.cell = true →
        (m.type = 1 → s.rd (F.SY_BARN_N.at m.dest 0 m.cell) = 0 → v + m.value < 2 ^ 24 → ∃ t, exec row s = .next t ∧
          let q := evalWaiters (v + m.value) l
          t.cellValue m.dest m.cell = q.1 ∧ t.cellWaiters m.dest m.cell = q.2.1 ∧ t.msgs = u.msgs ++ q.2.2.map (told · 0) ++ [answer 3] ∧
          t.rd (F.SY_LAST_SITE.at m.dest 0 m.cell) = m.src % 512 ∧ t.rd (F.SY_LAST_SLOT.at m.dest 0 m.cell) = m.slot % 32 ∧ s.SameMem t ∧ t.cores = s.cores) ∧
        (m.type = 1 → l = [] → s.rd (F.SY_BARN_N.at m.dest 0 m.cell) = 0 → 2 ^ 24 ≤ v + m.value → ∃ t, exec row s = .next t ∧
          t.cellValue m.dest m.cell = 2 ^ 24 - 1 ∧ answer 4 ∈ t.msgs ∧ t.rd (F.SY_SATCNT_COUNT.at m.dest) = satInc (s.rd (F.SY_SATCNT_COUNT.at m.dest)) 32 1 % 2 ^ 32) ∧
        (m.type = 2 → m.value ≤ v → exec row s = .next (((if m.cons then u.wr (F.SY_VALUE_VALUE.at m.dest 0 m.cell) (v - m.value) else u).send (answer 0)).settle s.pending)) ∧
        (m.type = 2 → v < m.value → l.length < 8 → exec row s =
          .next ((u.setWaiters m.dest m.cell (l ++ [⟨m.src, m.slot, false, m.value, m.cons, false⟩])).settle s.pending)) ∧
        (m.type = 2 → v < m.value → s.waiterPlace m.dest m.cell = none → exec row s = .next (((u.bump (F.SY_NOROOM_COUNT.at m.dest)).send (answer 2)).settle s.pending)) ∧
        (m.type = 4 → v + 1 < 2 ^ 24 → m.value ≤ v + 1 → ∃ t, exec row s = .next t ∧ t.cellValue m.dest m.cell = 0 ∧ t.rd (F.SY_BARN_N.at m.dest 0 m.cell) = 0 ∧
          t.cellWaiters m.dest m.cell = l.filter (fun w => !w.barrier) ∧ t.msgs = u.msgs ++ (l.filter (fun w => w.barrier)).map (told · 0) ++ [answer 0]) ∧
        (m.type = 4 → l = [] → v + 1 < m.value → m.value < 2 ^ 24 → ∃ t, exec row s = .next t ∧ t.cellValue m.dest m.cell = v + 1 ∧ t.rd (F.SY_BARN_N.at m.dest 0 m.cell) = m.value ∧
          t.cellWaiters m.dest m.cell = [⟨m.src, m.slot, true, m.value, false, false⟩] ∧ t.msgs = u.msgs)) ∧
      (m.type = 3 → exec (.syncCancel m) s = .next ((match l.find? (fun (w : Waiter) => decide (w.site = m.src ∧ w.slot = m.slot)) with
        | some w => (u.setWaiters m.dest m.cell (l.erase w)).send (answer 1)
        | none => u).settle s.pending))) ∧
    (isDie m.dest = true → s.dark m.dest = false → s.clocked ⟨m.dest, m.slot⟩ = true →
      let c : CoreId := ⟨m.dest, m.slot⟩
      (∀ g, s.inTurn (.sync m) = true → m.type = 5 → m.value = 3 → (s.core c).sigs.find? (fun g => decide (g.site = m.src ∧ g.cell = m.cell)) = some g →
        exec (.syncWake m) s = .next ((u.onCore c (fun k => { k with sigs := k.sigs.erase g })).settle s.pending)) ∧
      (∀ e w addr d kind fin, heldWait (s.core c) = some (w, addr, d, kind, fin) → awaiting w m.src m.cell = some e →
        let goal (st : EntrySt) : State := (u.onCore c (fun k => setHeldWait k (answerEnt w e st))).afterAnswer c
        (s.inTurn (.sync m) = true → m.type = 5 → m.value = 0 → exec (.syncWake m) s = .next ((goal .satisfied).settle s.pending)) ∧
        (s.inTurn (.sync m) = true → m.type = 5 → m.value = 1 → exec (.syncWake m) s = .next ((goal .cancelled).settle s.pending)) ∧
        (s.inTurn (.sync m) = true → m.type = 5 → m.value = 2 → fin = false → exec (.syncWake m) s = .next ((goal .noroom).settle s.pending)) ∧
        (s.inTurn (.sync m) = true → m.type = 6 → exec (.syncBroken m) s = .next (((u.syncRecord c 0x4301 e.vid e.site e.cell (m.value % 1024) e.cons kind addr).seqFail c addr d { code := 0x4301, info0 := 0, form := 2 }).settle s.pending)) ∧
        (fin = false → exec (.waitResend m.dest m.slot) s = .next
          (((each (w.filter (fun e => decide (e.st = .noroom))) (fun e s => s.sendSync c (if kind = 2 then 4 else 2) e.site e.cell e.thresh e.cons) s).onCore c (fun k =>
            setHeldWait k (w.map (fun e => if e.st = .noroom then { e with st := .sent } else e)))).settle s.pending))) ∧
      (s.inTurn (.sync m) = true → m.type = 6 → heldWait (s.core c) = none → exec (.syncBroken m) s = .next (u.settle s.pending)))

/-- What the SYNC page does where it takes a write: a value written is evaluated, a cell changes owner only through not being VALID and breaks its waiters when it stops being, and a cell of a SAVED context that the steward needs is released with its record where the context is the one SAVED longest (which context that is among those with a cell to release is the model's choice, log 63), and its changes are held back while its partition is busy (R306); each command on a cell or on the die does what its row says; a command is discarded while one goes on (R281, R293, R294, R295, R298, R299). -/
def Obligations.SyncCommands : Prop :=
  ∀ (s : State) (site : Nat), isDie site = true → s.dark site = false →
    let i := s.rd (F.SY_SEL_CELL.at site)
    let l := s.cellWaiters site i
    let broken := l.map (fun (w : Waiter) => Msg.sync { type := 6, dest := w.site, cell := i, value := s.rd (F.SY_OWNER_OWNER.at site 0 i), src := site, slot := w.slot })
    (∀ v, s.takes site 8 0x104 = true → ∃ t, exec (.syValueWrite site v) s = .next t ∧
      let q := evalWaiters (v % 2 ^ 24) l
      t.cellValue site i = q.1 ∧ t.cellWaiters site i = q.2.1 ∧
      t.msgs = s.msgs ++ q.2.2.map (fun (w : Waiter) => Msg.sync { type := 5, dest := w.site, cell := i, value := 0, src := site, slot := w.slot }) ∧ s.SameMem t) ∧
    (∀ v, s.takes site 8 0x108 = true →
      let owner := s.rd (F.SY_OWNER_OWNER.at site 0 i)
      let goes : Prop := s.siteBusy site = false ∧ s.releasable site i = false
      (s.cellValid site i = true → bits v 9 0 ≠ owner → exec (.syOwnerWrite site v) s = .next (s.settle s.pending)) ∧
      (s.siteBusy site = true → s.releasable site i = false → exec (.syOwnerWrite site v) s = .next (s.settle s.pending)) ∧
      (goes → s.cellValid site i = false → exec (.syOwnerWrite site v) s =
        .next ((((s.wr (F.SY_OWNER_OWNER.at site 0 i) (bits v 9 0)).wr (F.SY_OWNER_VALID.at site 0 i) (bits v 16 16)).wr (F.SY_OWNER_SHARED.at site 0 i) (bits v 17 17)).settle s.pending)) ∧
      (goes → s.cellValid site i = true → bits v 9 0 = owner → bits v 16 16 = 0 → s.on (F.SY_OWNER_SHARED.at site 0 i) = false → s.ctxs.any (fun e => !e.2.released.isEmpty) = false →
        ∃ t, exec (.syOwnerWrite site v) s = .next t ∧ t.cellValid site i = false ∧ t.cellWaiters site i = [] ∧ t.msgs = s.msgs ++ broken) ∧
      (s.releasable site i = true → bits v 9 0 = owner → bits v 16 16 = 0 → (s.freeCells (s.cxPart owner)).isEmpty = true →
        (s.releaseFrom (s.cxPart owner) ≠ some owner → exec (.syOwnerWrite site v) s = .next (s.settle s.pending)) ∧
        ∀ w, s.releaseFrom (s.cxPart owner) = some owner → s.releaseCell site i = (true, w) →
        exec (.syOwnerWrite site v) s = .next (w.cellFreed.settle s.pending) ∧ w.cellValid site i = false ∧ w.cellWaiters site i = [] ∧ w.cellValue site i = 0 ∧
        (w.cx owner).released.length = (s.cx owner).released.length + 1)) ∧
    (s.takes site 8 0x130 = true → s.on (F.SY_STAT_CMD_BUSY.at site) = true →
      ∀ row ∈ ([.syCmdBreak, .syCmdPurge, .syCmdSnapshot, .syCmdRestore, .syCmdClear, (.syCmdSignal · 306)] : List (Nat → Instr)), exec (row site) s = .next (s.settle s.pending)) ∧
    (s.takes site 8 0x130 = true → s.on (F.SY_STAT_CMD_BUSY.at site) = false →
      (∀ src, let k := s.rd (F.SY_CMD_ARG_ARG.at site)
        k ≠ 0 → s.cellValid site i = true → l = [] → s.rd (F.SY_BARN_N.at site 0 i) = 0 → s.cellValue site i + k < 2 ^ 24 → ∃ t, exec (.syCmdSignal site src) s = .next t ∧
          t.cellValue site i = s.cellValue site i + k ∧ t.rd (F.SY_LAST_SITE.at site 0 i) = src % 512 ∧ t.rd (F.SY_LAST_SLOT.at site 0 i) = 0x1F ∧ t.msgs = s.msgs) ∧
      (∃ t, exec (.syCmdBreak site) s = .next t ∧ t.cellWaiters site i = [] ∧ t.msgs = s.msgs ++ broken ∧ s.SameRegs t [F.SY_BARN_N.at site 0 i]) ∧
      (∃ t, exec (.syCmdPurge site) s = .next t ∧ t.on (F.SY_STAT_CMD_BUSY.at site) = true ∧ t.msgs = s.msgs ∧
        ∀ n, t.cellWaiters site n = (s.cellWaiters site n).filter (fun (w : Waiter) => decide (¬ (w.site = bits (s.rd (F.SY_CMD_ARG_ARG.at site)) 8 0 ∧ w.slot = bits (s.rd (F.SY_CMD_ARG_ARG.at site)) 13 9)))) ∧
      (∃ t, exec (.syCmdSnapshot site) s = .next t ∧ t.on (F.SY_STAT_CMD_BUSY.at site) = true ∧ t.msgs = s.msgs ∧ t.waiters = s.waiters ∧
        ∀ n, n < 2048 → t.rd (F.SY_STEPVAL_VALUE.at site 0 n) = (if s.cellValid site n then s.cellValue site n % 2 ^ 24 else s.rd (F.SY_STEPVAL_VALUE.at site 0 n)) ∧ t.cellValue site n = s.cellValue site n) ∧
      (∃ t, exec (.syCmdRestore site) s = .next t ∧ t.on (F.SY_STAT_CMD_BUSY.at site) = true ∧ t.msgs = s.msgs ∧
        ∀ n, n < 2048 → t.cellValue site n = (if s.cellValid site n then s.rd (F.SY_STEPVAL_VALUE.at site 0 n) % 2 ^ 24 else s.cellValue site n) ∧
          t.cellWaiters site n = (if s.cellValid site n then [] else s.cellWaiters site n)) ∧
      (∃ t, exec (.syCmdClear site) s = .next t ∧ t.cellWaiters site i = [] ∧ t.cellValue site i = 0 ∧ t.rd (F.SY_STEPVAL_VALUE.at site 0 i) = 0 ∧ t.rd (F.SY_BARN_N.at site 0 i) = 0 ∧
        t.rd (F.SY_LAST_SITE.at site 0 i) = 0x1FF ∧ t.rd (F.SY_LAST_SLOT.at site 0 i) = 0x1F ∧ t.rd (F.SY_LAST_TIME.at site 0 i) = 0 ∧ t.cellValid site i = s.cellValid site i ∧ t.msgs = s.msgs)) ∧
    exec (.syCmdDone site) s = .next ((s.wr (F.SY_STAT_CMD_BUSY.at site) 0).settle s.pending) ∧
    (s.takes site 8 0x13C = true → exec (.syXltInv site) s = .next (({ s with xlt := tset [] s.xlt [site] [] } : State).settle s.pending))

/-- The steward's commands on contexts and partitions: each is refused where its condition fails, with its code in CX_CMD_STAT, and completes with its effect where it holds: a context is created, its cores are asked to save, its reset begins; a partition becomes VALID with its caps and is cleared to the floors, its fences are armed and lifted, a grant and a window are set (R304, R306, R308, R311, R315, R317, R327, R329, R333, R337, R444). -/
def Obligations.ContextCommands : Prop :=
  ∀ (s : State), s.takes s.steward 0x22 0x148 = true →
    let x := s.cxSel
    let p := s.ptSel
    let refused (code : Nat) : Host.Outcome State Fault Refusal := .next ((s.wr (F.CX_CMD_STAT_RESULT.at stw) code).settle s.pending)
    let cores := (s.cx x).cores
    let asked (t : State) (step : Bool) : Prop := t.cxState x = 3 ∧ t.on (F.CX_STATE_PRE_PEND.at stw 0 x) = true ∧ (t.cx x).wait = List.range cores.length ∧ t.rd (F.CX_CMD_STAT_RESULT.at stw) = 0 ∧
      t.msgs = s.msgs ++ cores.mapIdx (fun v c => .ctl (noticeMsg 3 x v c.site s.steward c.slot [bnat step]))
    let resets (t : State) (kind : DrainKind) : Prop := t.cxState x = 6 ∧ t.drains = s.drains ++ [{ kind := kind, cores := cores, start := s.time }] ∧ (t.cx x).wait = [] ∧ t.rd (F.CX_CMD_STAT_RESULT.at stw) = 0 ∧
      t.msgs = s.msgs ++ cores.map (fun c => .ctl (noticeMsg 10 (s.ctxOf c) (s.rd (F.CORE_BIND_VCORE.core c)) c.site s.steward c.slot []))
    let site := s.rd (F.AP_TGT_SITE.at stw)
    let table := s.rd (F.AP_TGT_TABLE.at stw)
    let m := s.rd (F.AP_MASTER_MASTER.at stw)
    let w := s.rd (F.AP_TGT_WINDOW.at stw)
    (s.cxState x = 0 → s.ptValid (s.cxPart x) = true → exec .cxCreate s = .next (((s.wr (F.CX_STATE_STATE.at stw 0 x) 1).wr (F.CX_CMD_STAT_RESULT.at stw) 0).settle s.pending)) ∧
    (s.cxState x ≠ 0 ∨ s.ptValid (s.cxPart x) = false → exec .cxCreate s = refused 0x5405) ∧
    (s.cxState x = 2 → s.preemptWaits x = false → ∃ t, exec .cxPreempt s = .next t ∧ asked t (s.on (F.CX_CFG_PRE_AT.at stw 0 x))) ∧
    (s.cxState x = 2 → s.preemptWaits x = true → ∃ t, exec .cxPreempt s = .next t ∧ t.cxState x = 2 ∧ t.on (F.CX_STATE_PRE_PEND.at stw 0 x) = true ∧ (t.cx x).pre ≠ 0 ∧ t.rd (F.CX_CMD_STAT_RESULT.at stw) = 0 ∧ t.msgs = s.msgs) ∧
    (s.cxState x ≠ 2 → exec .cxPreempt s = refused 0x5405) ∧
    (s.cxState x = 2 → s.preemptWaits x = false → s.epochBusy = false → ∃ t, exec .cxRemap s = .next t ∧ asked t true ∧ (t.cx x).remap = true) ∧
    (s.cxState x = 4 → s.epochBusy = false → exec .cxRemap s = refused 0) ∧
    ((s.cxState x ≠ 2 ∧ s.cxState x ≠ 4) ∨ s.epochBusy = true → exec .cxRemap s = refused 0x5405) ∧
    (s.cxState x = 1 ∨ s.cxState x = 2 ∨ s.cxState x = 4 →
      (∃ t, exec .cxReset s = .next t ∧ resets t (.ctxReset x)) ∧ (∃ t, exec .cxTeardown s = .next t ∧ resets t (.ctxTeardown x))) ∧
    (s.cxState x = 3 ∨ s.cxState x = 5 → (∃ t, exec .cxReset s = .next t ∧ t.cxState x = 6 ∧ (t.cx x).wait = []) ∧ (∃ t, exec .cxTeardown s = .next t ∧ t.cxState x = 6 ∧ (t.cx x).wait = [])) ∧
    (s.cxState x = 0 → exec .cxReset s = refused 0x5405 ∧ exec .cxTeardown s = refused 0x5405) ∧
    (s.ptValid p = false → s.epochBusy = false → (∀ q ∈ s.ptPlots p, s.plotInService s.substStack q = true ∧ s.partOfPlot q = none) → s.capsFit p = true →
      let v := ((s.wr (F.PT_CFG_VALID.at stw 0 p) 1).wr (F.PT_CFG_ARMED.at stw 0 p) 0).writeCaps p (s.rd (F.PP_PART_DIE_W.at stw 0 p)) (s.rd (F.PP_PART_STK_W.at stw 0 p))
      let k := if v.on (F.PT_CFG_PRODUCTION.at stw 0 p) then v.keepChecks p else v
      exec .cxPartSet s = .next ((((k.wr (F.CX_CMD_STAT_RESULT.at stw) 0).wr (F.PP_STAT_RESULT.at stw) 0).stepsToCommit).settle s.pending) ∧ v.ptValid p = true ∧
      ∀ q ∈ s.ptPlots p, ∀ n, n < 2 → v.rd (F.PW_CAP_WATTS.at (4 * q + n)) = s.rd (F.PP_PART_DIE_W.at stw 0 p) % 2 ^ F.PW_CAP_WATTS.width ∧
        v.rd (F.PW_CAP_WATTS.at (4 * q + 2)) = s.rd (F.PP_PART_STK_W.at stw 0 p) % 2 ^ F.PW_CAP_WATTS.width) ∧
    (s.ptValid p = true → s.ctxsIn p [2, 3, 5, 6] = [] → ∃ t, exec .cxPartClear s = .next t ∧ t.ptValid p = false ∧ t.on (F.PT_CFG_ARMED.at stw 0 p) = false ∧ t.flist p = [] ∧ t.rd (F.CX_CMD_STAT_RESULT.at stw) = 0 ∧
      ∀ q ∈ s.ptPlots p, t.rd (F.PW_CAP_WATTS.at (4 * q)) = 9 ∧ t.rd (F.PW_CAP_WATTS.at (4 * q + 1)) = 9 ∧ t.rd (F.PW_CAP_WATTS.at (4 * q + 2)) = 20) ∧
    (s.ptValid p = false → s.ctxsIn p [2, 3, 5, 6] = [] → exec .cxPartClear s = refused 0) ∧
    (s.ctxsIn p [2, 3, 5, 6] ≠ [] → exec .cxPartClear s = refused 0x5405) ∧
    (∀ b u, p < 64 → s.ptValid p = true → u.lifted.contains p = false → u.on (F.PT_CFG_ARMED.at stw 0 p) = true →
      (s.wr (F.PT_CFG_ARMED.at stw 0 p) 1).stwRead (s.rd (F.PT_FLIST.at stw 0 p)) (4 * s.rd (F.PT_FCOUNT_COUNT.at stw 0 p)) = (.ok b, u) →
      let l := (pieces 4 b.length b).map (fun w => (bits (leNat w) 8 0, bits (leNat w) 9 9, bits (leNat w) 15 10))
      ∃ t, exec .cxFenceOn s = .next t ∧ t.on (F.PT_CFG_ARMED.at stw 0 p) = true ∧ t.flist p = l ∧ t.rd (F.CX_CMD_STAT_RESULT.at stw) = 0 ∧
        ∀ e ∈ l, (t.rd (F.AC_FENCE.at e.1 0 (4096 * e.2.1))).testBit e.2.2 = true) ∧
    (s.ptValid p = true → ∃ t, exec .cxFenceOff s = .next t ∧ t.on (F.PT_CFG_ARMED.at stw 0 p) = false ∧ t.flist p = [] ∧ t.rd (F.CX_CMD_STAT_RESULT.at stw) = 0 ∧
      ∀ e, (∀ q, q < 64 → q ≠ p → ∀ f ∈ fenceTwins e, f ∉ s.flist q) → e ∈ s.flist p → e.2.2 < 64 → (t.rd (F.AC_FENCE.at e.1 0 (4096 * e.2.1))).testBit e.2.2 = false) ∧
    (s.ptValid p = false → exec .cxFenceOn s = refused 0x5405 ∧ exec .cxFenceOff s = refused 0x5405) ∧
    (m ≤ 1111 → hasAcl site = true → (table = 1 → hasRes site = true) → s.grantBusy m = false → (s.rd (F.AP_RD.at stw) = 0 ∧ s.rd (F.AP_WR.at stw) = 0) ∨ s.outOfScope site table m = false →
      exec .cxAclSet s = .next (((s.atTable site table (fun n s => s.setMasks n table m (s.rd (F.AP_RD.at stw)) (s.rd (F.AP_WR.at stw)))).wr (F.CX_CMD_STAT_RESULT.at stw) 0).settle s.pending)) ∧
    (m ≤ 1111 → hasAcl site = true → (table = 1 → hasRes site = true) → s.grantBusy m = false → s.outOfScope site table m = true → s.rd (F.AP_RD.at stw) ≠ 0 ∨ s.rd (F.AP_WR.at stw) ≠ 0 → exec .cxAclSet s = refused 0x5407) ∧
    (isStack site = true → s.inService site = true → s.winBusy site = false →
      exec .cxWinSet s = .next ((((s.wr (F.AC_WBASE_MIB.at site 0 w) (s.rd (F.AP_WBASE_MIB.at stw))).wr (F.AC_WLIMIT_MIB.at site 0 w) (s.rd (F.AP_WLIMIT_MIB.at stw))).wr (F.CX_CMD_STAT_RESULT.at stw) 0).settle s.pending)) ∧
    (isStack site = false ∨ s.inService site = false → exec .cxWinSet s = refused 0x5407)

/-- Contexts, their cores and their queues at work: a waiting context is bound to the cores of its map where no other holds one; a core whose save or restore has gone through leaves or resumes; an entry that may start is sent to its cores, a marker completes; a queue is enabled empty, restarted past its offending entry and flushed, with the working regions of what ran scrubbed; a table's mask changes with its high word only, at both stewards where it is the queue block's, and a context's grants not while its partition is busy (R190, R309, R310, R313, R314, R316, R322, R324, R325, R327, R330, R338). -/
def Obligations.ContextsAtWork : Prop :=
  ∀ (s : State),
    let both (loc : Nat → Loc) (w site t : Nat) : State :=
      if t = 1 ∧ partOf site = .steward then (s.wr (loc site) w).wr (loc (613 - site)) w else s.wr (loc site) w
    (∀ q l u, let e := s.quCtx q; s.cxState e = 1 → s.hasEntry e = true → (s.cx e).binding = false → s.ptValid (s.cxPart e) = true → s.epochMoves = false → s.gf.stage < 2 →
      s.readMap e = (.ok l, u) → u.holders e l = [] → (u.cx e).released = [] → ∃ t, exec (.preemptDecision q) s = .next t ∧ t.cxState e = u.cxState e ∧ (t.cx e).cores = l ∧ (t.cx e).binding = true ∧
        (t.cx e).wait = List.range l.length ∧ t.msgs = u.msgs ++ l.mapIdx (fun v c => .ctl (noticeMsg 1 e v c.site u.steward c.slot [0]))) ∧
    (∀ x, s.cxState x = 3 → s.rd (F.CX_PRE_TMO_PRE_TMO.at stw 0 x) ≠ 0 → exec (.preTmoExpire x) s =
      .next ((s.wr (F.PG_EVT_EVT.at stw 0x22) (setBit (s.rd (F.PG_EVT_EVT.at stw 0x22)) 0)).settle s.pending)) ∧
    (∀ (c : CoreId) u, s.clocked c = true → s.coreState c = 6 → (s.core c).saving % 2 = 1 → let v := s.rd (F.CORE_BIND_VCORE.core c)
      ((s.saveLost c).writePieces (s.saveAsker c 2) (s.slotBase (s.ctxOf c) v) (s.savePieces c) = (.ok (), u) →
        let t := ((u.tellSteward c 4 []).leaveContext c).setCoreState c 1
        exec (.coreSaveDone c) s = .next (t.settle s.pending) ∧ t.coreState c = 1 ∧ t.bound c = false ∧ (t.core c).window = [] ∧
          ∀ a, a < 0x400000 → mget t.cmem (coreAddr c a) = 0) ∧
      (∀ code, (s.saveLost c).writePieces (s.saveAsker c 2) (s.slotBase (s.ctxOf c) v) (s.savePieces c) = (.error code, u) →
        exec (.coreSaveDone c) s = .next (((u.cxRecord 0x5402 (s.ctxOf c) 0 v).ctxReset (s.ctxOf c) false).settle s.pending))) ∧
    (∀ (c : CoreId) h u z, s.clocked c = true → s.coreState c = 6 → (s.core c).saving = 2 → let v := s.rd (F.CORE_BIND_VCORE.core c)
      s.panelRead (s.saveAsker c 1) (s.slotBase (s.ctxOf c) v) 608 = (.ok h, u) → u.loadSlot c (s.slotBase (s.ctxOf c) v) h = (.ok (), z) →
        let halted := (leNat ((h.drop 556).take 1)) % 2 = 1
        let k := if halted then (z.onCore c (fun k => { k with saving := 0 })).wr (F.CORE_CTL_HALT.core c) 1 else z.onCore c (fun k => { k with saving := 0 })
        exec (.coreRestoreDone c) s = .next (((match k.dispatchOf (s.ctxOf c) v with
          | some (q, e) => (k.onCore c (fun r => { r with queue := q, ring := e.ix % 65536 })).setCoreState c (if halted then 5 else 2)
          | none => k.setCoreState c 1).tellSteward c 5 []).settle s.pending)) ∧
    (∀ q e, s.nextEntry q = some e → s.quiesced stw 0x23 = false → let ctx := s.quCtx q
      (qKind e.e = 2 → exec (.entryStart q) s = .next ((((s.bump (F.QU_STARTS_COUNT.at stw 0 q)).completeEntry q e.ix 0).kick).settle s.pending)) ∧
      (qKind e.e = 1 → s.cxState ctx = 2 → s.rd (F.CX_CFG_NCORES.at stw 0 ctx) < qFirst e.e + qCount e.e →
        exec (.entryStart q) s = .next (((s.onEntry q e.ix (fun e => { e with st := 3, dies := [] })).quStop q 0x5301 (e.ix + 1) e.ix).settle s.pending)) ∧
      (qKind e.e = 1 → s.cxState ctx = 2 → qFirst e.e + qCount e.e ≤ s.rd (F.CX_CFG_NCORES.at stw 0 ctx) →
        let u := s.reserve
        let l := u.entryCores q e
        let vs := (List.range (qCount e.e)).map (· + qFirst e.e)
        (∃ w, u.waitingEntry q = some w ∧ ∀ d ∈ u.entryDies q e, d ∈ w.dies) → (∀ c ∈ l, u.coreState c ≤ 1 ∧ u.bound c = true ∧ u.ctxOf c = ctx) → (∀ v ∈ vs, u.dispatchOf ctx v = none) →
        ∃ t, exec (.entryStart q) s = .next t ∧ t.msgs = u.msgs ++ l.mapIdx (fun j c => .ctl (noticeMsg 2 ctx (qFirst e.e + j) c.site s.steward c.slot
            [q + (e.ix % 65536) <<< 16, qPc e.e % 2 ^ 32, qPc e.e >>> 32, j, df e.e 32 31 0, df e.e 36 31 0])) ∧
          t.rd (F.QU_STARTS_COUNT.at stw 0 q) = satInc (u.rd (F.QU_STARTS_COUNT.at stw 0 q)) 32 1 % 2 ^ 32)) ∧
    (∀ q, s.takes s.steward 0x23 0x104 = true →
      exec (.quEnableWrite q false) s = .next ((s.wr (F.QU_CFG_ENABLE.at stw 0 q) 0).settle s.pending) ∧
      (s.on (F.QU_CFG_ENABLE.at stw 0 q) = false → s.locShut (s.rd (F.QU_CFG_LOC.at stw 0 q)) = true → exec (.quEnableWrite q true) s = .next ((s.cxResult 0x5405).settle s.pending)) ∧
      (s.on (F.QU_CFG_ENABLE.at stw 0 q) = false → s.locShut (s.rd (F.QU_CFG_LOC.at stw 0 q)) = false → ∃ t, exec (.quEnableWrite q true) s = .next t ∧ t.on (F.QU_CFG_ENABLE.at stw 0 q) = true ∧ t.rd (F.QU_HEAD_HEAD.at stw 0 q) = 0 ∧
        t.rd (F.QU_TAIL_TAIL.at stw 0 q) = 0 ∧ t.rd (F.QU_STAT_STOPPED.at stw 0 q) = 0 ∧ t.rd (F.QU_STAT_CODE.at stw 0 q) = 0 ∧ t.queue q = queueInit ∧ t.msgs = s.msgs)) ∧
    (∀ q, s.takes s.steward 0x23 0x124 = true →
      (let off := (s.queue q).off
       let v := ((s.wr (F.QU_STAT_STOPPED.at stw 0 q) 0).wr (F.QU_STAT_CODE.at stw 0 q) 0).onQueue q (fun k => { k with off := 0 })
       s.on (F.QU_STAT_STOPPED.at stw 0 q) = true → exec (.quRestart q) s =
        .next ((((if off = 0 then v else v.completeEntry q (off - 1) (s.rd (F.QU_STAT_CODE.at stw 0 q))).readRing q).kick).settle s.pending)) ∧
      exec (.quFlush q) s = .next (((if (s.queue q).ents.any (fun e => decide (e.st = 1)) then
        each (s.ptDies (s.cxPart (s.quCtx q))) (fun d s => s.scrubWorking (s.quCtx q) d) (s.flushQueue q) else s.flushQueue q).kick).settle s.pending) ∧ ((s.flushQueue q).queue q).ents = [] ∧
      (s.flushQueue q).rd (F.QU_HEAD_HEAD.at stw 0 q) = (s.flushQueue q).rd (F.QU_TAIL_TAIL.at stw 0 q) % 2 ^ 32) ∧
    (∀ row ∈ ([(Instr.acRdHiWrite, 0x108, 0, F.AC_RD), (Instr.acWrHiWrite, 0x110, 1, F.AC_WR)] : List ((Nat → Nat → Instr) × Nat × Nat × Fld)), ∀ site v m t,
      s.takes site 0xA row.2.1 = true → s.acSel site = some (m, t) →
      let loc (n : Nat) : Loc := row.2.2.2.at n 0 (aclIdx m t)
      let w := s.heldLo site row.2.2.1 (s.rd (loc site) % 2 ^ 32) + (v % 2 ^ 32) <<< 32
      (s.grantBusy m = true → exec (row.1 site v) s = .next (s.settle s.pending)) ∧
      (s.grantBusy m = false → exec (row.1 site v) s = .next (({ both loc w site t with held := tset 0 s.held [site, row.2.2.1] 0 } : State).settle s.pending))) ∧
    (∀ site v, let t := s.rd (F.AC_SEL_TABLE.at site); let loc (n : Nat) : Loc := F.AC_FENCE.at n 0 (4096 * t)
      s.takes site 0xA 0x118 = true → hasAcl site = true → s.dark site = false → (t = 1 → hasRes site = true) →
      exec (.acFenceHiWrite site v) s = .next (({ both loc (s.heldLo site 2 (s.rd (loc site) % 2 ^ 32) + (v % 2 ^ 32) <<< 32) site t with held := tset 0 s.held [site, 2] 0 } : State).settle s.pending)) ∧
    (∀ site v, let w := s.rd (F.AC_WSEL_WINDOW.at site); let loc := F.AC_WBASE_MIB.at site 0 w
      s.takes site 0xA 0x124 = true → isStack site = true → s.dark site = false → s.winBusy site = false →
      exec (.acWlimitWrite site v) s = .next (({ (s.wr loc (s.heldLo site 3 (s.rd loc))).wr (F.AC_WLIMIT_MIB.at site 0 w) v with held := tset 0 s.held [site, 3] 0 } : State).settle s.pending))

/-- Requests of a host at a port that decodes: a register access goes out as one control message a word, is answered at the port where no page is, and refused where it is not aligned; a doorbell waits behind the port's posted writes; the aperture and CXL.mem become bulk requests of the host's master; a PASID in no valid entry, an untranslated address and a lost answer end as the rules say (R34, R35, R36, R340, R343, R344, R345, R346, R348, R349, R354, R355). The ports themselves: a link trains within its caps and what configuration space reports, a decoder commits within its limits, a port's reset abandons what its host has in progress; an event queue's head never passes its tail, a queue is enabled empty, an interrupt that was held back is sent; in D3hot a port decodes nothing (R340, R341, R342, R346, R352, R353, R356, R362). -/
def Obligations.HostTraffic : Prop :=
  (∀ (s : State) (port : Nat), port < 2 → s.on (F.CP_LINK_UP.at (304 + port)) = true →
    let site := 304 + port
    (∀ pasid off len w d, s.d3.contains port = false → s.hostMaster port pasid = none →
      ∀ row ∈ ([(Instr.bar0Access port pasid off len w, 1, w.isSome), (.bar2DoorbellWrite port pasid off w, 2, w.isSome), (.bar4ApertureAccess port pasid off len d, 3, d.isSome)] : List (Instr × Nat × Bool)),
        exec row.1 s = .next (((((s.bump (F.CP_REFUSED_COUNT.at site)).bump (F.PS_UNMAPPED_COUNT.at site)).hostRecord 0xC102 port row.2.1 row.2.2 (pasid.getD 0) 0xFFF off 0).send (.hostAnswer port .unsupported [])).settle s.pending)) ∧
    (∀ pasid off w m, s.d3.contains port = false → s.hostMaster port pasid = some m →
      let n := bits off 28 20; let page := bits off 19 12
      let before := (s.hostReqs.filter (fun h => decide (h.path = 1 ∧ h.master = m ∧ h.site = n) && h.write)).map (fun h => h.id)
      (s.answeredAtPort n page = true → off % 4 = 0 → exec (.bar0Access port pasid off 4 none) s = .next
        ((if before = [] then s.send (.hostAnswer port .data [0, 0, 0, 0]) else s.openReq port 1 false off 4 (pasid.getD 0) m n [] before).settle s.pending)) ∧
      (s.answeredAtPort n page = false → off % 4 = 0 → ∃ t, exec (.bar0Access port pasid off 4 w) s = .next t ∧
        t.msgs = s.msgs ++ [.ctl { type := if w.isSome then 2 else 1, dest := n, src := site, tag := tget 0 s.ctlTag [site], words := (page + (bits off 11 0 / 4) <<< 8 + m <<< 18) :: (w.map (fun v => v % 2 ^ 32)).toList }] ∧
        t.hostReqs = s.hostReqs ++ [{ id := s.hostNext, port := port, path := 1, write := w.isSome, addr := off, len := 4, pasid := pasid.getD 0, master := m, site := n, tags := [tget 0 s.ctlTag [site]], got := [], after := [] }] ∧
        t.fld = s.fld ∧ s.SameMem t) ∧
      (off % 4 ≠ 0 → before = [] → ∃ t, exec (.bar0Access port pasid off 4 none) s = .next t ∧ t.rd (F.CP_REFUSED_COUNT.at site) = satInc (s.rd (F.CP_REFUSED_COUNT.at site)) 32 1 % 2 ^ 32 ∧ .hostAnswer port .data [0, 0, 0, 0] ∈ t.msgs ∧
        t.rd (F.CP_UNALIGNED_COUNT.at site) = satInc (s.rd (F.CP_UNALIGNED_COUNT.at site)) 32 1 % 2 ^ 32) ∧
      (∀ v, off % 4096 = 0 → s.bells = [] → (∀ h ∈ s.hostReqs, h.port ≠ port) → exec (.bar2DoorbellWrite port pasid off (some v)) s =
        .next ((({ s with bellsOut := s.bellsOut ++ [{ port := port, msg := doorbellMsg (off / 4096 % 4096) 0 m s.steward site 0 (v % 2 ^ 32), pasid := pasid.getD 0, after := [] }] } : State).send
          (.ctl (doorbellMsg (off / 4096 % 4096) 0 m s.steward site 0 (v % 2 ^ 32)))).settle s.pending)) ∧
      (∀ h v, off % 4096 = 0 → s.bells = [] → s.hostReqs = [h] → h.port = port → h.path = 1 → h.write = true → ∃ t, exec (.bar2DoorbellWrite port pasid off (some v)) s = .next t ∧
        t.msgs = s.msgs ∧ t.bells = [{ port := port, msg := doorbellMsg (off / 4096 % 4096) 0 m s.steward site 0 (v % 2 ^ 32), pasid := pasid.getD 0, after := [h.id] }]) ∧
      (off % 4096 = 4 → s.quAllowed (off / 4096 % 4096) m false = true → exec (.bar2DoorbellWrite port pasid off none) s =
        .next ((s.send (.hostAnswer port .data (natLe (s.rd (F.QU_HEAD_HEAD.at stw 0 (off / 4096 % 4096))) 4))).settle s.pending)) ∧
      (∀ len, len ≠ 0 → len ≤ 64 → off % 64 + len ≤ 64 → off < 0x4000000 → let a := (s.rd (F.CP_AP.at site)) <<< 26 + off
        (∀ p o, s.xlate site a = .ok (p, o) → s.routed site (4 * p + 2) = true →
          exec (.bar4ApertureAccess port pasid off len none) s = .next ((((s.openReq port 3 false off len (pasid.getD 0) m site []).request
            { type := 1, dest := 4 * p + 2, src := site, master := m, addr := stkAddr p (o - o % 64), len := 1 } 5 s.hostNext 0)).settle s.pending) ∧
          ∀ b, b.length = len → off % 64 = 0 → o % 64 = 0 → len = 64 → exec (.bar4ApertureAccess port pasid off len (some b)) s = .next ((((s.openReq port 3 true off len (pasid.getD 0) m site []).request
            { type := 2, dest := 4 * p + 2, src := site, master := m, addr := stkAddr p o, len := 1, data := b } 5 s.hostNext 0)).settle s.pending)) ∧
        (∀ cause, s.xlate site a = .error cause → ∃ t, exec (.bar4ApertureAccess port pasid off len none) s = .next t ∧ .hostAnswer port .abort (natLe 0 len) ∈ t.msgs ∧
          t.rd (F.CP_REFUSED_COUNT.at site) = satInc (s.rd (F.CP_REFUSED_COUNT.at site)) 32 1 % 2 ^ 32))) ∧
    (s.on (F.CP_LINK_CXL.at site) = true →
      (∀ hpa d p o, let m := 1024 + s.rd (F.PS_DEFAULT_MOFF.at site)
        s.hdmFind port (hpa - hpa % 64) = some d → d < 2 ^ 43 → s.routed site (4 * p + 2) = true →
        (s.xlate site (2 ^ 47 + d) = .ok (p, o) → hpa % 64 = 0 → exec (.cxlMemRead port hpa) s = .next ((((s.openReq port 4 false hpa 64 0 m site []).request
          { type := 1, dest := 4 * p + 2, src := site, master := m, addr := stkAddr p (o - o % 64), len := 1 } 6 s.hostNext 0)).settle s.pending)) ∧
        (∀ b, b ≠ [] → hpa % 64 + b.length ≤ 64 → s.xlate site (2 ^ 47 + d + hpa % 64) = .ok (p, o) → ∃ t, exec (.cxlMemWrite port hpa b) s = .next t ∧
          (∃ r ∈ t.outst, r.site = site ∧ r.why = 6 ∧ r.ref = s.hostNext ∧ r.pkt.dest = 4 * p + 2 ∧ r.pkt.master = m ∧ r.pkt.addr = stkAddr p (o - o % 64)) ∧
          ∃ h ∈ t.hostReqs, h.id = s.hostNext ∧ h.write = true ∧ h.path = 4 ∧ h.len = b.length) ∧
        (∀ b, b.length = 72 → s.xlate site (2 ^ 47 + d) = .ok (p, o) → exec (.cxlMemWrite port hpa b) s = .next ((((s.openReq port 4 true (hpa - hpa % 64) 64 0 m site []).request
          { type := 3, dest := 4 * p + 2, src := site, master := m, addr := stkAddr p (o - o % 64), len := 1, bmask := leNat (b.drop 64), data := b.take 64 } 6 s.hostNext 0)).settle s.pending))) ∧
      exec (.hostSnoop port) s = .next ((s.send (.hostAnswer port .rspIHitI [])).settle s.pending)) ∧
    (∀ q, s.crds.contains (port, q) = true → let u : State := { s with crds := s.crds.erase (port, q) }
      (∀ b, exec (.cacheReadResponse port q (some b)) s = .next (((((u.ringRead q (some (leNat (padTo 64 b)))).readNext q).moreReads).kick).settle s.pending)) ∧
      exec (.cacheReadResponse port q none) s = .next ((((u.ringRead q none).readNext q).moreReads).settle s.pending) ∧
      (∃ t, exec (.hostIntTimeout port true q) s = .next t ∧ t.rd (F.CP_TIMEOUT_COUNT.at site) = satInc (s.rd (F.CP_TIMEOUT_COUNT.at site)) 32 1 % 2 ^ 32)) ∧
    (∀ n h, s.hostReqs.find? (fun h => decide (h.id = n ∧ h.port = port) && !h.write) = some h → ∃ t, exec (.hostIntTimeout port false n) s = .next t ∧
      (let shorter (y : Machine.HostReq) : Machine.HostReq := { y with after := y.after.filter (fun i => decide (i ≠ h.id)) }
       (∀ x ∈ t.hostReqs, ∃ y ∈ s.hostReqs.erase h, x = shorter y) ∧
       ∀ y ∈ s.hostReqs.erase h, y.path ≠ 1 ∨ y.write = true ∨ y.tags ≠ [] ∨ (shorter y).after ≠ [] → shorter y ∈ t.hostReqs) ∧
      t.rd (F.CP_TIMEOUT_COUNT.at site) = satInc (s.rd (F.CP_TIMEOUT_COUNT.at site)) 32 1 % 2 ^ 32 ∧
      (if h.path = 4 then Msg.hostAnswer port .poison (natLe 0 64) else .hostAnswer port .abort (natLe 0 h.len)) ∈ t.msgs ∧ ∀ r ∈ t.outst, r.why = 5 ∨ r.why = 6 → r.ref ≠ n)) ∧
  (∀ (s : State) (port : Nat), port < 2 →
    let site := 304 + port
    (∀ speed width cxl lopt cache, s.on (F.CP_LINK_UP.at site) = false → s.dark site = false → s.pins.held = false → s.pins.rstN = true → width = 4 ∨ width = 8 →
      speed = 5 ∨ speed = 6 ∧ s.on (F.CP_CFG_SPEED_CAP.at site) = false → ∃ t, exec (.hostLinkTrained port speed width cxl lopt cache) s = .next t ∧
        t.rd (F.CP_LINK_SPEED.at site) = speed ∧ t.rd (F.CP_LINK_WIDTH.at site) = width ∧ t.on (F.CP_LINK_UP.at site) = true ∧ t.on (F.CP_LINK_CXL.at site) = (cxl && s.cfg.memCapable) ∧
        t.on (F.CP_LINK_LOPT.at site) = (lopt && s.on (F.CP_CFG_LOPT_EN.at site)) ∧ t.on (F.CP_LINK_CACHE.at site) = (cxl && s.cfg.memCapable && cache && s.cfg.cacheCapable) ∧ t.msgs = s.msgs ∧ s.SameMem t) ∧
    (s.on (F.CP_LINK_UP.at site) = true →
      (∀ down, ∃ t, exec (.hostPortReset port down) s = .next t ∧ t.on (F.CP_LINK_UP.at site) = !down ∧ t.rd (F.CP_AP.at site) = 0 ∧ (∀ h ∈ t.hostReqs, h.port ≠ port) ∧
        (∀ b ∈ t.bells, b.port ≠ port) ∧ (∀ r ∈ t.outst, r.site = site → r.why ≠ 5 ∧ r.why ≠ 6) ∧ (∀ e, e < 512 → t.on (F.EQ_CFG_ENABLE.at site 0 e) = false) ∧
        (∀ v, tget 0 t.msixPend [port, v] = 0) ∧ (s.sec.port = port → t.sec.challenge = [])) ∧
      exec (.d3hot port true) s = .next (({ s with d3 := if s.d3.contains port then s.d3 else s.d3 ++ [port] } : State).settle s.pending) ∧
      exec (.d3hot port false) s = .next (({ s with d3 := s.d3.filter (fun x => decide (x ≠ port)) } : State).settle s.pending) ∧
      (∀ i base size skip ways, s.on (F.CP_LINK_CXL.at site) = true → i < s.cfg.hdmCount → i < 2 →
        let ok := ways = 1 ∧ base % 2 ^ 28 = 0 ∧ size % 2 ^ 28 = 0 ∧ 0 < size
        ∃ t, exec (.hdmDecoderCommit port i base size skip ways) s = .next t ∧ s.SameMem t ∧ t.msgs = s.msgs ∧
          (ok → tget 0 t.hdm [port, i, 0] = base ∧ tget 0 t.hdm [port, i, 1] = size ∧ tget 0 t.hdm [port, i, 2] = skip ∧ tget 0 t.hdm [port, i, 3] = 1 ∧ t.on (F.CP_LINK_MEM.at site) = true ∧
            ∀ a, i = 0 → base ≤ a → a < base + size → t.hdmFind port a = some (skip + (a - base))) ∧
          (¬ ok → tget 0 t.hdm [port, i, 3] = 2 ∧ t.on (F.CP_LINK_MEM.at site) = decide (tget 0 s.hdm [port, 1 - i, 3] = 1)))) ∧
    (∀ e, (s.eq port e).uncovered = true → exec (.msixImodExpire port e) s = .next (((s.msixSend port (s.rd (F.EQ_CFG_VECTOR.at site 0 e))).setEq port e
      { s.eq port e with until_ := s.now site + s.rd (F.EQ_CFG_IMOD.at site 0 e) * 1000, uncovered := false }).settle s.pending)) ∧
    (let e := s.rd (F.EQ_SEL_EQ.at site)
     let ahead (v : Nat) : Nat := (v + 2 ^ 32 - s.rd (F.EQ_HEAD_HEAD.at site 0 e)) % 2 ^ 32
     (∀ v, v < 2 ^ 32 → s.takes site 0x22 0x114 = true → exec (.eqHeadWrite port v) s =
       .next ((if ahead v ≤ ahead (s.rd (F.EQ_TAIL_TAIL.at site 0 e)) then s.wr (F.EQ_HEAD_HEAD.at site 0 e) v else s).settle s.pending)) ∧
     (s.takes site 0x22 0x104 = true → exec (.eqEnableWrite port false) s = .next ((s.wr (F.EQ_CFG_ENABLE.at site 0 e) 0).settle s.pending) ∧
       (s.on (F.EQ_CFG_ENABLE.at site 0 e) = false → ∃ t, exec (.eqEnableWrite port true) s = .next t ∧ t.on (F.EQ_CFG_ENABLE.at site 0 e) = true ∧
         t.rd (F.EQ_HEAD_HEAD.at site 0 e) = 0 ∧ t.rd (F.EQ_TAIL_TAIL.at site 0 e) = 0 ∧ t.eq port e = eqReset ∧ t.msgs = s.msgs))))

/-- The DOE mailbox and the security die: discovery names the three protocols, the table describes the panel's range; a request above 64 KiB is discarded with DOE Error, one of the wrong version or length, or with no identity, is refused; the reports carry the certificate, the slots, the nonce and the counters; debug opens only on an authorisation that holds, and the challenge is consumed; the counters are raised, never lowered; a slot extends, debug closes (R357, R551, R555, R556, R557, R558, R559, R561). -/
def Obligations.Attestation : Prop :=
  (∀ (s : State) (port : Nat), port < 2 → s.on (F.CP_LINK_UP.at (304 + port)) = true →
    let tells (t : State) (b : List Byte) : State := t.send (.doeAnswer port ((pieces 4 b.length b).map leNat))
    let ready := s.sec.running = true ∧ s.on (F.SEC_STAT_IDENT_OK.at 308) = true ∧ s.on (F.SEC_STAT_CERT_OK.at 308) = true
    let counters := natLe (s.rd (F.SEC_FW_SVN_COUNT.at 308)) 2 ++ natLe (s.rd (F.SEC_KEY_SVN_COUNT.at 308)) 2
    let version := natLe (s.rd (F.SEC_VER.at 308)) 8 ++ natLe (s.rd (F.OR_GEN_GEN.at stw)) 4
    let slots (mask : Nat) : List Byte := (ones mask 8).flatMap (fun k => s.slotBytes k)
    let dropped : State := { s with sec := { s.sec with challenge := [], port := 0, drawn := 0 } }
    let fw := s.rd (F.SEC_RUN_FW_SVN.at 308)
    (∀ e ∈ [(0, [1, 0, 1]), (1, [0x1E98, 2, 2]), (2, [Config.vendorId.toNat, 1, 0])], exec (.doeDiscovery port e.1) s = .next ((s.send (.doeAnswer port e.2)).settle s.pending)) ∧
    exec (.cdatTableAccess port) s = .next ((s.send (.doeAnswer port [0, 2 ^ 43, 292, 260, 64, 64])).settle s.pending) ∧
    (∃ t, exec (.doeAbort port) s = .next t ∧ tget [] t.doe [port] = [] ∧ t.msgs = s.msgs ∧ t.fld = s.fld ∧
      t.sec = if s.sec.port = port ∧ s.sec.challenge ≠ [] then dropped.sec else s.sec) ∧
    (∀ row ∈ ([(.getInfo, 0), (.getCert, 0), (.getMeas, 4), (.attest, 36), (.debugChallenge, 0), (.debugAuth, 4696)] : List ((Nat → Nat → List Byte → Instr) × Nat)), ∀ v b,
      (65524 < b.length → exec (row.1 port v b) s = .next (({ s with doe := tset [] s.doe [port] [1] } : State).settle s.pending)) ∧
      (v ≠ 1 → b.length ≤ 65524 → exec (row.1 port v b) s = .next ((tells s (natLe 0x1FF 4 ++ natLe 2 4)).settle s.pending)) ∧
      (b.length ≠ row.2 → b.length ≤ 65524 → exec (row.1 port 1 b) s = .next ((tells s (natLe 0x1FF 4 ++ natLe 1 4)).settle s.pending)) ∧
      (b.length = row.2 → ¬ ready → exec (row.1 port 1 b) s = .next ((tells s (natLe 0x1FF 4 ++ natLe 3 4)).settle s.pending))) ∧
    (ready →
      exec (.getInfo port 1 []) s = .next ((tells s (natLe 0x181 4 ++ s.certSerial ++ counters ++ version ++ natLe s.secFlags 1 ++ natLe 8 1 ++ natLe 0 2)).settle s.pending) ∧
      exec (.getCert port 1 []) s = .next ((tells s (natLe 0x182 4 ++ s.certificate)).settle s.pending) ∧
      (∀ b, b.length = 4 → exec (.getMeas port 1 b) s = .next ((tells s (natLe 0x183 4 ++ slots (leNat (b.take 1)))).settle s.pending)) ∧
      (∀ b, b.length = 36 → ∃ t g, exec (.attest port 1 b) s = .next t ∧ g.length = sigBytes ∧ t.rd (F.SEC_ATTESTS_COUNT.at 308) = satInc (s.rd (F.SEC_ATTESTS_COUNT.at 308)) F.SEC_ATTESTS_COUNT.width 1 % 2 ^ F.SEC_ATTESTS_COUNT.width ∧
        let r := natLe (0x184 + leNat (b.take 1) <<< 16) 4 ++ s.certSerial ++ (b.drop 4).take 32 ++ natLe (s.now 308) 8 ++ counters ++ version ++ natLe s.secFlags 4 ++ natLe 0 8 ++ slots (leNat (b.take 1)) ++ g
        t.msgs = s.msgs ++ [.doeAnswer port ((pieces 4 r.length r).map leNat)]) ∧
      (∃ t, exec (.debugChallenge port 1 []) s = .next t ∧ t.sec.challenge.length = 32 ∧ t.sec.port = port ∧ t.sec.drawn = s.now 308 ∧
        t.msgs = s.msgs ++ [.doeAnswer port ((pieces 4 36 (natLe 0x185 4 ++ t.sec.challenge)).map leNat)]) ∧
      (∀ b, b.length = 4696 → let a := b.drop 4; let scope := leNat ((a.drop 52).take 4)
        (s.debugHolds a = false → exec (.debugAuth port 1 b) s = .next ((tells (dropped.secRec 0xA401 0 0 fw (s.rd (F.SEC_RUN_KEY_SVN.at 308)) port) (natLe 0x1FF 4 ++ natLe 4 4)).settle s.pending)) ∧
        (s.debugHolds a = true → ∃ t, exec (.debugAuth port 1 b) s = .next t ∧ t.on (F.SEC_STAT_DEBUG.at 308) = true ∧ t.rd (F.SEC_DBG_SCOPE.at 308) = scope ∧ t.sec.challenge = [] ∧
          (a.drop 20).take 32 = s.sec.challenge ∧ s.sec.challenge ≠ [] ∧ t.slotBytes 3 = sha3 (s.slotBytes 3 ++ sha3 t.configBlock))))) ∧
  ∀ (s : State), s.dark 308 = false → s.takes 308 0x20 0x118 = true →
    let f1 := max (s.rd (F.SEC_FW_SVN_COUNT.at 308)) (s.rd (F.SEC_RUN_FW_SVN.at 308))
    let k1 := max (s.rd (F.SEC_KEY_SVN_COUNT.at 308)) (s.rd (F.SEC_RUN_KEY_SVN.at 308))
    (f1 < 2 ^ 16 → k1 < 2 ^ 16 → ∃ t, exec (.commitSvn 0) s = .next t ∧ t.rd (F.SEC_FW_SVN_COUNT.at 308) = f1 ∧ t.rd (F.SEC_KEY_SVN_COUNT.at 308) = k1 ∧ t.rd (F.SEC_RESULT_CODE.at 308) = 0 ∧
      (f1 = s.rd (F.SEC_FW_SVN_COUNT.at 308) → k1 = s.rd (F.SEC_KEY_SVN_COUNT.at 308) → t.msgs = s.msgs ∧ t.sec = s.sec)) ∧
    (∀ n, n < 4 ∨ 7 < n → exec (.extend n) s = .next ((s.wr (F.SEC_RESULT_CODE.at 308) 0x5405).settle s.pending)) ∧
    (∀ n, 4 ≤ n → n ≤ 7 → ∃ t, exec (.extend n) s = .next t ∧ t.slotBytes n = sha3 (s.slotBytes n ++ secExt.flatMap (fun f => natLe (s.rd (f.at 308)) 4)) ∧ t.rd (F.SEC_RESULT_CODE.at 308) = 0 ∧
      ∀ k, k ≠ n → t.slotBytes k = s.slotBytes k) ∧
    (∃ t, exec .closeDebug s = .next t ∧ t.on (F.SEC_STAT_DEBUG.at 308) = false ∧ t.rd (F.SEC_DBG_SCOPE.at 308) = 0 ∧ t.rd (F.SEC_RESULT_CODE.at 308) = 0 ∧
      t.slotBytes 3 = sha3 (s.slotBytes 3 ++ sha3 t.configBlock))

/-- A flit and its links: a flit with one wire changed never passes its CRC, so the receiver keeps the SEQ it expects and asks again; a flit that passes is taken in once, and its credit goes back, with one of the same counter that still waits; ACK, NAK and CREDIT act on the sender; a retrain clears both ends' loops, the ninth within 1 s ends the link; a link whose wires all pass comes UP at full width (R222, R245, R247, R248, R365, R366, R367, R368, R369, R370, R373). -/
def Obligations.Links : Prop :=
  (∀ (data : List Byte) (hi j : Nat), data.length = 64 → hi < 2 ^ 16 → j < 544 →
    let v := (leNat data + (flitCrc data hi + hi <<< 16) <<< 512) ^^^ 2 ^ j
    flitCrc (natLe v 64) (v >>> 528) ≠ bits v 527 512) ∧
  ∀ (s : State) (site n b q m : Nat), linkPeer site n = some (q, m) →
    let r := s.bundle site n b
    let x := s.bundle q m b
    let lo := lowEnd site n
    let times := ((s.linkEnd lo.1 lo.2).times.filter (fun t => decide (s.now lo.1 < t + 1000000000))) ++ [s.now lo.1]
    let ends := [(site, n), (q, m)]
    (s.bundleUp site n b = true →
      (∀ (f : Flit) ctr e, f.data.length = 64 → f.seq < 64 → f.ctl = 15 → f.arg < 64 → s.ctlFits site n b 15 f.arg = true → f.seq = x.next → x.replay.length < 63 → (∀ g ∈ x.replay, g.1.seq ≠ f.seq) →
        takeCredit (poolSize q m) (s.linkEnd q m) f.pair = some (ctr, e) →
        (r.expect = f.seq → r.slots + 1 < 8 → ∃ t, exec (.mesoaxFlitReceive site n b f 0) s = .next t ∧ t.bundle site n b = { r with slots := r.slots + 1, failRun := 0, expect := (f.seq + 1) % 64, nak := false, naks := 0, got := true } ∧
          t.bundle q m b = { x with next := (x.next + 1) % 64, replay := x.replay ++ [(f, ctr)] } ∧ t.linkEnd q m = e ∧ t.msgs = ((s.take (.flit site n b f)).sendCredit site n b ctr).msgs ∧ s.SameMem t ∧ t.fld = s.fld) ∧
        (∀ j, j < 544 → r.naks < 3 → r.failRun < 15 → ∃ t, exec (.mesoaxFlitReceive site n b f (2 ^ j)) s = .next t ∧
          t.bundle site n b = { r with slots := r.slots + 1, failRun := r.failRun + 1, nak := true, naks := r.naks + 1 } ∧ .linkCtl q m b 0xA r.expect ∈ t.msgs ∧
          t.rd (F.ML_NAK_COUNT.at site n) = satInc (s.rd (F.ML_NAK_COUNT.at site n)) 32 1 % 2 ^ 32 ∧ t.bundle q m b = { x with next := (x.next + 1) % 64, replay := x.replay ++ [(f, ctr)] })) ∧
      (∀ (u : State) ctr, (∀ k, Msg.linkCtl q m b ctr k ∉ u.msgs) → u.sendCredit site n b ctr = u.send (.linkCtl q m b ctr 1)) ∧
      (∀ (u : State) ctr k rest, u.msgs = .linkCtl q m b ctr k :: rest → k < 63 → Msg.linkCtl q m b ctr k ∉ rest → (u.sendCredit site n b ctr).msgs = .linkCtl q m b ctr (k + 1) :: rest) ∧
      (∀ arg, let u := s.take (.linkCtl site n b 9 arg)
        exec (.ctlAck site n b arg) s = .next ((u.setBundle site n b { r with replay := ackReplay r.replay r.next arg }).settle s.pending)) ∧
      (∀ arg, let u := s.take (.linkCtl site n b 0xA arg); let l := r.replay.dropWhile (fun e => e.1.seq != arg)
        ∃ t, exec (.ctlNak site n b arg) s = .next t ∧ t.msgs = u.msgs ++ l.map (fun e => .flit q m b e.1) ∧ t.lanes = s.lanes ∧
          t.rd (F.ML_REPLAY_COUNT.at site n) = satInc (s.rd (F.ML_REPLAY_COUNT.at site n)) 32 l.length % 2 ^ 32) ∧
      (∀ ctr k, ctr < 8 → let u := s.take (.linkCtl site n b ctr k); let e := s.linkEnd site n
        exec (.ctlCredit site n b ctr k) s = .next ((u.setLinkEnd site n { e with resv := e.resv.set ctr (e.resv.getD ctr 0 - k) }).settle s.pending)) ∧
      (∀ k, let u := s.take (.linkCtl site n b 8 k); let e := s.linkEnd site n
        exec (.ctlCredit site n b 8 k) s = .next ((u.setLinkEnd site n { e with pool := e.pool.drop k }).settle s.pending)) ∧
      (r.nak = true → r.naks < 3 → ∃ t, exec (.nakRepeatTimeout site n b) s = .next t ∧ .linkCtl q m b 0xA r.expect ∈ t.msgs ∧ (t.bundle site n b).naks = r.naks + 1)) ∧
    (s.linkState lo.1 lo.2 = 2 → (s.linkEnd lo.1 lo.2).dead = false →
      ∀ arg, ∀ row ∈ [(Instr.mlRetrain site n, s.takes site (0x10 + n) 0x104, s), (.ctlRetrain site n b arg, s.bundleUp site n b, s.take (.linkCtl site n b 0xB arg))], row.2.1 = true →
        exec row.1 s = .next ((row.2.2.retrain site n).settle s.pending) ∧
        (times.length ≤ 8 → ∀ e ∈ ends, (row.2.2.retrain site n).linkState e.1 e.2 = 1 ∧ (row.2.2.retrain site n).bundle e.1 e.2 0 = bundleReset) ∧
        (8 < times.length → ∀ e ∈ ends, (row.2.2.retrain site n).linkState e.1 e.2 = 3 ∧ (row.2.2.retrain site n).rd (F.ML_STAT_ACTIVE.at e.1 e.2) = 0)) ∧
    (s.linkState site n = 1 → ∀ tests rtt, let u := s.trainingDone site n tests rtt
      exec (.linkTrainingDone site n tests rtt) s = .next (((u.graftLinks).followUp).settle s.pending) ∧
      (tests = [] → (s.linkEnd lo.1 lo.2).first = true → (∀ e ∈ ends, s.rd (F.ML_CTL_MIN_WIDTH.at e.1 e.2) ≤ 8) → (∀ k, k < linkBundles site n → s.bundleState site n k = 1) →
        ∀ e ∈ ends, u.linkState e.1 e.2 = 2 ∧ u.rd (F.ML_STAT_ACTIVE.at e.1 e.2) = linkBundles site n ∧ u.on (F.ML_STAT_FULL.at e.1 e.2) = true ∧
          ∀ k, k < linkBundles site n → u.bundleState e.1 e.2 k = 2 ∧ u.live e.1 e.2 k = 0xFF) ∧
      (b < linkBundles site n → s.bundleState site n b = 1 → ∃ t, exec (.bundleTrainTimeout site n b) s = .next t ∧
        ∀ e ∈ ends, t.bundleState e.1 e.2 b = 3 ∧ t.live e.1 e.2 b = 0))

/-- A guest port: it trains, asks for the guest's capabilities and becomes ACTIVE, or fails with its cause; while it is, a packet the guest may send enters the panel with the port's own site, master and fence, one it may not is counted and dropped, one whose CRC fails is discarded, a contribution waits while the 32 KiB of its port and stack are out; it retrains, and it goes down; what was on it is lost and new routes follow (R248, R250, R252, R257, R302, R374, R375, R376, R377, R378, R380, R382). -/
def Obligations.GuestPorts : Prop :=
  ∀ (s : State) (site : Nat), isGuest site = true →
    let st := s.rd (F.GU_STAT_STATE.at site)
    let master := 1107 + site - 320
    let keeps (t : State) : Prop := (∀ e ∈ s.msgs, s.crosses ((attachNodes site).headD 0) site e = false → e ∈ t.msgs) ∧ t.ep.todo = s.ep.todo ++ [(10, 0, 0)]
    let told (t : State) (code : Nat) : Prop := ∃ r, Msg.errec r ∈ t.msgs ∧ r.code = code ∧ r.site = site ∧ r.master = master
    (s.takes site 0x20 0x100 = true →
      (st = 0 ∨ st = 8 → exec (.guEnable site true) s = .next (((s.wr (F.GU_CTL_ENABLE.at site) 1).wr (F.GU_STAT_STATE.at site) 1).settle s.pending)) ∧
      (∃ t, exec (.guEnable site false) s = .next t ∧ t.rd (F.GU_STAT_STATE.at site) = 0 ∧ t.rd (F.GU_STAT_SPEED.at site) = 0 ∧ t.on (F.GU_CTL_ENABLE.at site) = false ∧
        (∀ pg ∈ [1, 2, 3, 4, 5, 6, 0xA, 0x20], t.on (F.PG_STAT_READY.at site pg) = false) ∧
        (if st = 6 ∨ st = 7 then keeps t ∧ ∀ e ∈ t.msgs, e ∈ s.msgs else t.msgs = s.msgs ∧ t.ep = s.ep)) ∧
      (st ≠ 0 → st ≠ 8 → exec (.guEnable site true) s = .next ((s.wr (F.GU_CTL_ENABLE.at site) 1).settle s.pending)) ∧
      (st = 6 → exec (.guRetrain site) s = .next (((s.bump (F.GU_RETRAINS_COUNT.at site)).wr (F.GU_STAT_STATE.at site) 7).settle s.pending))) ∧
    (1 ≤ st → st ≤ 4 →
      (∀ speed rep, exec (.ucieTrainingDone site true speed rep) s = .next (((((s.wr (F.GU_STAT_STATE.at site) 5).wr (F.GU_STAT_SPEED.at site)
        (if s.on (F.GU_CTL_SPEED_CAP.at site) then 1 else max 1 (min 2 speed))).wr (F.GU_STAT_REPAIRED.at site) rep).send (.guestCap site 1 1)).settle s.pending)) ∧
      (∀ speed rep, ∃ t, exec (.ucieTrainingDone site false speed rep) s = .next t ∧ t.rd (F.GU_STAT_STATE.at site) = 8 ∧ told t 0x6201)) ∧
    (st = 5 →
      (∀ rx id, 32 ≤ rx → rx ≤ 1024 → ∃ t, exec (.capRsp site 1 rx id) s = .next t ∧ t.rd (F.GU_STAT_STATE.at site) = 6 ∧ t.rd (F.GU_CAP_RXBUF.at site) = rx ∧
        t.rd (F.GU_ID_ID.at site) = id % 2 ^ 32 ∧ t.on (F.PG_STAT_READY.at site 0x20) = true ∧ keeps t ∧ .guestCap site 3 1 ∈ t.msgs ∧ ∀ e ∈ t.msgs, e ∈ s.msgs ∨ e = .guestCap site 3 1) ∧
      (∀ v rx id, v ≠ 1 ∨ rx < 32 ∨ 1024 < rx → ∃ t, exec (.capRsp site v rx id) s = .next t ∧ t.rd (F.GU_STAT_STATE.at site) = 8 ∧ told t 0x6201 ∧ .guestCap site 3 0 ∈ t.msgs) ∧
      (∃ t, exec (.capRspTimeout site) s = .next t ∧ t.rd (F.GU_STAT_STATE.at site) = 8 ∧ told t 0x6201)) ∧
    (st = 6 → ∀ (p : Pkt) retries, s.guestWaits site p = true → exec (.guestPacketReceive site p retries) s = .next (s.settle s.pending)) ∧
    (st = 6 → ∀ (p : Pkt) retries, s.guestWaits site p = false →
      (p.crc ≠ pktCrc p → ∃ t, exec (.guestPacketReceive site p retries) s = .next t ∧ t.rd (F.BK_CRC_DROP_COUNT.at site) = satInc (s.rd (F.BK_CRC_DROP_COUNT.at site)) 32 1 % 2 ^ 32 ∧ t.outst = s.outst) ∧
      (p.crc = pktCrc p → guestMaySend p = false → ∃ t, exec (.guestPacketReceive site p retries) s = .next t ∧ t.rd (F.GU_DISCARD_COUNT.at site) = satInc (s.rd (F.GU_DISCARD_COUNT.at site)) 32 1 % 2 ^ 32 ∧
        t.outst = s.outst ∧ ∀ e ∈ t.msgs, e ∉ s.msgs → ∃ r, e = .errec r) ∧
      (∀ k off, p.crc = pktCrc p → guestMaySend p = true → s.xlate ((attachNodes site).headD 0) p.addr = .ok (k, off) → s.routed site (4 * k + 2) = true → ∃ t w lane, exec (.guestPacketReceive site p retries) s = .next t ∧
        t.msgs = s.msgs ++ [.bulk { w with lane := lane }] ∧ w.src = site ∧ w.master = master ∧ w.fence = s.fenceOf site 0x1F ∧ w.dest = 4 * k + 2 ∧ w.addr = stkAddr k off ∧ w.type = p.type ∧ w.data = p.data ∧ w.tag = p.tag ∧
        t.outst = (if p.type = 5 then s.outst else s.outst ++ [{ site := site, unit := 0x1F, pkt := w, tries := 0, why := 7, ref := 0 }]) ∧ s.SameMem t) ∧
      (∀ k off, p.crc = pktCrc p → guestMaySend p = true → s.xlate ((attachNodes site).headD 0) p.addr = .ok (k, off) → s.routed site (4 * k + 2) = false → ∃ t w, exec (.guestPacketReceive site p retries) s = .next t ∧
        .guestOut site w ∈ t.msgs ∧ w.status = 0x3103 ∧ w.tag = p.tag ∧ t.outst = s.outst) ∧
      (∀ cause, p.crc = pktCrc p → guestMaySend p = true → s.xlate ((attachNodes site).headD 0) p.addr = .error cause → ∃ t w, exec (.guestPacketReceive site p retries) s = .next t ∧
        .guestOut site w ∈ t.msgs ∧ w.status = 0x2202 ∧ w.tag = p.tag ∧ t.outst = s.outst)) ∧
    (st = 6 ∨ st = 7 →
      (∃ t, exec (.guestLinkDown site true) s = .next t ∧ t.rd (F.GU_STAT_STATE.at site) = 6 ∧ told t 0x6204) ∧
      (∃ t, exec (.guestLinkDown site false) s = .next t ∧ t.rd (F.GU_STAT_STATE.at site) = 8 ∧ t.on (F.PG_STAT_READY.at site 0x20) = false ∧ keeps t ∧ told t 0x6203))

/-- The Grove transport at an I/O die: a packet that its port takes is performed once and recorded, a duplicate is acknowledged again and not performed; APSN passes every PSN received in a row; an ACK ends what it acknowledges; timers acknowledge, send again and raise the rate; frames a port does not take are counted; ports come up and go down (R385, R387, R388, R389, R390, R391, R394, R407, R409). Transfer channels: the packets of an entry cover it and cross no 4 KiB at either end; an entry that starts is read and sent to its member and the member's shadow, a SIGNAL follows the acknowledged data, the completion signal leaves in order; a channel is enabled with a WAIT on its doorbell and disabled by withdrawing it (R392, R393, R394, R405). -/
def Obligations.GroveTransfers : Prop :=
  ((∀ (k : ConnSt) (d : Nat), k.got < 2 ^ 256 → k.apsn < 2 ^ 32 → d < 256 → (recordPsn k d).got % 2 = 0 ∧
    ∃ n, (recordPsn k d).apsn = (k.apsn + n) % 2 ^ 32 ∧ setBit k.got d = (recordPsn k d).got <<< n + (2 ^ n - 1)) ∧
  ∀ (s : State) (site : Nat), isIo site = true →
    (∀ (port : Nat) (ce : Bool) (p : GPkt), s.etUp site port = true → p.crc = grCrc p → p.toMember = s.grMember → p.toDie = site - 288 → s.memberState site s.grEpoch p.member ≠ 0 →
      let c := connOf p
      let k := s.conn site c
      let v := if ce then s.bump (F.ET_CE_COUNT.at site port) else s
      let u := ({ v with grove := { s.grove with heard := tset 0 s.grove.heard [p.member] (s.time + 1) } } : State).setConn site c { k with used := s.now site }
      let d := psnDist p.psn k.apsn
      let row (t : Nat) : Instr := if t = 1 then .groveData site port ce p else .groveSignal site port ce p
      k.hw = true →
      (p.type = 1 ∨ p.type = 2 → 2 ^ 31 ≤ d ∨ d < 256 ∧ k.got.testBit d = true → k.npkt < 7 → ∃ t, exec (row p.type) s = .next t ∧ s.SameMem t ∧ t.msgs = s.msgs ∧ (t.conn site c).apsn = k.apsn ∧ (t.conn site c).got = k.got ∧ (t.conn site c).npkt = k.npkt + 1) ∧
      (p.type = 1 → d < 256 → k.got.testBit d = false → let r := u.grData site p
        exec (row 1) s = .next ((((if r.1 = 0 then r.2 else r.2.sendNack site c p.psn r.1).setConn site c
          (recordPsn ((if r.1 = 0 then r.2 else r.2.sendNack site c p.psn r.1).conn site c) d)).ackCount site c ce).settle s.pending)) ∧
      (p.type = 1 → p.flags = 0 → p.data.length % 64 = 0 → 64 ≤ p.data.length → p.data.length ≤ 4096 → p.arg % 64 = 0 → p.arg < 2 ^ 48 → ∀ w, u.panelWrite { master := 1091 + (site - 288), site := site, slot := 0x1F, type := 2, op := 1 } p.arg p.data = (.ok (), w) →
        u.grData site p = (0, w)) ∧
      (p.type = 2 → d < 256 → k.got.testBit d = false → k.npkt < 7 → p.arg < 64 → ∃ t, exec (row 2) s = .next t ∧ s.SameMem t ∧
        t.msgs = s.msgs ++ [.sync { type := 1, dest := s.rd (F.XC_AR_SITE.at site 0 p.arg), cell := s.rd (F.XC_AR_CELL.at site 0 p.arg), value := 1, src := site, slot := 0x1F }] ∧
        (t.conn site c).got = (recordPsn k d).got ∧ (t.conn site c).apsn = (recordPsn k d).apsn) ∧
      (p.type = 3 → exec (.groveAck site port ce p) s = .next ((u.grAcked site c p true).settle s.pending) ∧
        (p.arg = 0 → k.waitq = [] → ((u.grAcked site c p true).conn site c).unack = k.unack.filter (fun g => decide (psnDist g.out.p.psn p.apsn < 2 ^ 31)))) ∧
      (∀ g e, p.type = 4 → k.unack = [g] → k.waitq = [] → g.out.p.psn = p.psn → g.out.chan < 64 → (s.xchan site g.out.chan).ents = [e] → e.ix = g.out.ix → ∃ t, exec (.groveNack site port ce p) s = .next t ∧
        (t.conn site c).unack = [] ∧ (t.xchan site g.out.chan).ents = [] ∧ t.on (F.XC_STAT_STOPPED.at site 0 g.out.chan) = true ∧ t.rd (F.XC_STAT_CODE.at site 0 g.out.chan) = 0xD104)) ∧
    (∀ port ce (p : GPkt) ty, s.etUp site port = true → p.crc ≠ grCrc p ∨ p.toMember ≠ s.grMember → p.type = ty → ∀ row ∈ [(1, Instr.groveData site port ce p), (2, .groveSignal site port ce p), (3, .groveAck site port ce p), (4, .groveNack site port ce p)], row.1 = ty →
      ∃ t, exec row.2 s = .next t ∧ s.SameMem t ∧ t.conns = s.conns ∧ t.msgs = s.msgs ∧ t.rd (F.ET_RX_DROP_COUNT.at site port) = satInc (s.rd (F.ET_RX_DROP_COUNT.at site port)) 32 1 % 2 ^ 32) ∧
    (∀ port b, s.etUp site port = true → exec (.ethFrameReceive site port b) s = .next ((if s.frameTaken site port b then s else s.bump (F.ET_RX_DROP_COUNT.at site port)).settle s.pending)) ∧
    (∀ c, let k := s.conn site c
      (k.npkt ≠ 0 → ∃ t, exec (.groveAckTimer site c) s = .next t ∧ (t.conn site c).npkt = 0 ∧ (t.conn site c).ce = 0 ∧ s.SameMem t ∧
        (∀ port, s.connPort site c = some port → ∃ sp dst w, t.msgs = s.msgs ++ [.grove site port sp dst w] ∧ w.type = 3 ∧ w.apsn = k.apsn ∧ w.npkt = k.npkt ∧ w.ce = k.ce ∧ w.arg = (k.got >>> 1) % 2 ^ 64 ∧ w.crc = grCrc w)) ∧
      (∀ g l, k.unack = g :: l → g.sends ≤ s.rd (F.GR_CC1_RETRIES.at site) → ∃ t, exec (.groveRtoExpire site c) s = .next t ∧
        t.rd (F.GR_RETX_COUNT.at site) = satInc (s.rd (F.GR_RETX_COUNT.at site)) 32 1 % 2 ^ 32 ∧ (∀ port, s.connPort site c = some port → ∃ sp dst, .grove site port sp dst g.out.p ∈ t.msgs) ∧
        (t.conn site c).rate = some (fracMax (s.rmin site) ((k.rate.getD (0, 1)).1, 2 * (k.rate.getD (0, 1)).2))) ∧
      (∀ g l, k.unack = g :: l → s.rd (F.GR_CC1_RETRIES.at site) < g.sends → ∃ t, exec (.groveRtoExpire site c) s = .next t ∧ (t.conn site c).failed = true ∧ (t.conn site c).unack = []) ∧
      (∀ r port, k.rate = some r → s.connPort site c = some port → exec (.ccTincExpire site c) s = .next ((s.setConn site c
        { k with rate := some (fracMin (s.portRate site port, 1) (r.1 + s.rd (F.GR_CC0_RAI.at site) * r.2, r.2)) }).settle s.pending)) ∧
      (k.fetching = true → tget [] s.miss [site] = [] → exec (.connRecordFetched site c) s = .next ((({ (s.setConn site c { k with fetching := false, hw := true, used := s.now site }).wr (F.GR_CONNS_USED.at site)
        (s.rd (F.GR_CONNS_USED.at site) + 1) with miss := tset [] s.miss [site] [] } : State).connFlush site c).settle s.pending))) ∧
    (∀ port, port < 8 →
      (s.dark site = false → s.takes site (0x20 + port) 0x104 = true →
        (s.on (F.ET_CTL_ENABLE.at site port) = false → port < 4 ∨ s.rd (F.GR_CFG_PMODE.at site) = 1 → ∃ t, exec (.etEnableWrite site port true) s = .next t ∧ t.rd (F.ET_STAT_STATE.at site port) = 1 ∧ t.on (F.ET_CTL_ENABLE.at site port) = true ∧
          t.rd (F.ET_INFO_WIDTH.at site port) = (if s.rd (F.GR_CFG_PMODE.at site) = 1 then 4 else 8) ∧ t.msgs = s.msgs) ∧
        (s.on (F.ET_CTL_ENABLE.at site port) = true → ∃ t, exec (.etEnableWrite site port false) s = .next t ∧ t.rd (F.ET_STAT_STATE.at site port) = 0 ∧ t.on (F.ET_CTL_ENABLE.at site port) = false)) ∧
      (s.rd (F.ET_STAT_STATE.at site port) = 1 → ∃ t, exec (.portUp site port) s = .next t ∧ t.rd (F.ET_STAT_STATE.at site port) = 2 ∧ t.on (F.ET_STAT_FEC_LOCK.at site port) = true ∧ ∃ r, t.msgs = s.msgs ++ [.errec r] ∧ r.code = 0xD502 ∧ r.unit = port) ∧
      (s.rd (F.ET_STAT_STATE.at site port) = 2 → ∀ fault, ∃ t, exec (.portDown site port fault) s = .next t ∧ t.rd (F.ET_STAT_STATE.at site port) = (if fault then 3 else 0) ∧ ∃ r, t.msgs = s.msgs ++ [.errec r] ∧ r.code = 0xD501 ∧ r.unit = port))) ∧
  ((∀ laddr raddr len, laddr % 64 = 0 → raddr % 64 = 0 → len % 64 = 0 → let l := xferPieces laddr raddr len (len / 64) 0
    (l.map (fun e => e.2)).sum = len ∧ (∀ e ∈ l, e.2 ≠ 0 ∧ e.2 % 64 = 0 ∧ (laddr + e.1) % 4096 + e.2 ≤ 4096 ∧ (raddr + e.1) % 4096 + e.2 ≤ 4096) ∧
    ∀ j, j < len → ∃ e ∈ l, e.1 ≤ j ∧ j < e.1 + e.2) ∧
  ∀ (s : State) (site ch : Nat), let k := s.xchan site ch
    (∀ row ∈ [(1, Instr.put site ch), (2, .putAccum site ch), (3, .putEc site ch), (4, .signalOnly site ch)], ∀ e, k.ents.find? (fun e => !e.started) = some e → e.op = row.1 →
      s.on (F.XC_STAT_STOPPED.at site 0 ch) = false → (k.ents.filter (fun x => x.started)).length < 8 →
      let u := s.setXchan site ch { k with ents := k.ents.map (fun x => if x = e then { e with started := true } else x) }
      let flags := if row.1 = 1 then 0 else if row.1 = 2 then 2 + e.fmt <<< 2 + bnat (e.flags.testBit 2) <<< 6 else 1
      (e.len = 0 → s.rd (F.GR_STATE_STATE.at s.ctlIo) ≠ 2 → exec row.2 s = .next (u.settle s.pending)) ∧
      (∀ b w, 64 ≤ e.len → e.laddr % 4096 + e.len ≤ 4096 → e.raddr % 4096 + e.len ≤ 4096 → s.rd (F.GR_STATE_STATE.at s.ctlIo) ≠ 2 →
        u.panelRead { master := s.rd (F.XC_CFG_CTX.at site 0 ch), site := site, slot := 0x1F, type := 1, op := 0 } e.laddr e.len = (.ok b, w) →
        exec row.2 s = .next ((w.xcSend site ch e.ix { w.grPkt site 1 e.member e.die with flags := flags, arg := e.raddr + (if row.1 = 3 then e.coef <<< 48 else 0), data := b }).settle s.pending)) ∧
      (s.rd (F.GR_STATE_STATE.at s.ctlIo) = 2 → ∃ t, exec row.2 s = .next t ∧ t.msgs = s.msgs ∧ s.SameMem t ∧ t.rd (F.GR_SHDROP_COUNT.at site) = satInc (s.rd (F.GR_SHDROP_COUNT.at site)) F.GR_SHDROP_COUNT.width 1 % 2 ^ F.GR_SHDROP_COUNT.width)) ∧
    (∀ e r, k.ents = e :: r → k.mute = false → e.started = true → e.left = 0 →
      (e.flags.testBit 1 = true → e.sig = 0 → exec (.xferEntryComplete site ch) s = .next (((s.setXchan site ch
        { k with ents := k.ents.map (fun x => if x = e then { e with sig := 1 } else x) }).xcSend site ch e.ix { s.grPkt site 2 e.member e.die with arg := e.rchan }).settle s.pending)) ∧
      ((∀ x ∈ k.ents, x.flags.testBit 1 = false) → exec (.xferEntryComplete site ch) s = .next ((if e.flags.testBit 0 then (s.setXchan site ch { k with ents := r }).send
        (.sync { type := 1, dest := s.rd (F.XC_CP_SITE.at site 0 ch), cell := s.rd (F.XC_CP_CELL.at site 0 ch), value := 1, src := site, slot := 0x1F }) else s.setXchan site ch { k with ents := r }).settle s.pending))) ∧
    (s.takes site 0x30 0x184 = true →
      (s.on (F.XC_CFG_ENABLE.at site 0 ch) = false → ∃ t, exec (.xcEnableWrite site ch true) s = .next t ∧ t.on (F.XC_CFG_ENABLE.at site 0 ch) = true ∧ t.on (F.XC_STAT_STOPPED.at site 0 ch) = false ∧
        t.rd (F.XC_STAT_CODE.at site 0 ch) = 0 ∧ (t.xchan site ch).waiting = true ∧ t.rd (F.XC_HEAD_HEAD.at site 0 ch) = s.rd (F.XC_HEAD_HEAD.at site 0 ch) ∧
        t.msgs = s.msgs ++ [.sync { type := 2, dest := s.rd (F.XC_DB_SITE.at site 0 ch), cell := s.rd (F.XC_DB_CELL.at site 0 ch), value := 1, src := site, slot := 0x1F, cons := true }]) ∧
      (s.on (F.XC_CFG_ENABLE.at site 0 ch) = true → k.waiting = true → ∃ t, exec (.xcEnableWrite site ch false) s = .next t ∧ t.on (F.XC_CFG_ENABLE.at site 0 ch) = false ∧
        t.msgs = s.msgs ++ [.sync { type := 3, dest := s.rd (F.XC_DB_SITE.at site 0 ch), cell := s.rd (F.XC_DB_CELL.at site 0 ch), value := 0, src := site, slot := 0x1F }])))

/-- The grove steps together: control packets of this grove reach the manager's and the members' step protocol, a higher epoch is taken and a lower one is not; silence of a member or of the manager is declared; roles are written, heartbeats sent, and panel time follows the grandmaster (R396, R397, R399, R400, R401, R402, R405, R425). -/
def Obligations.GroveSteps : Prop :=
  (∀ (s : State) epoch, (epoch ≤ s.grEpoch → s.grSwitch epoch = s) ∧ (s.grEpoch < epoch → epoch < 2 ^ 32 → (s.grSwitch epoch).grEpoch = epoch)) ∧
  (∀ (s : State) (site port : Nat) (ce : Bool) (p : GPkt) (epoch : Nat), s.etUp site port = true → p.crc = grCrc p → p.toMember = s.grMember → p.toDie = site - 288 →
    s.memberState site s.grEpoch p.member ≠ 0 → p.type = 5 → s.ctrlHere p = true →
    let c := connOf p
    let k := s.conn site c
    let v := if ce then s.bump (F.ET_CE_COUNT.at site port) else s
    let u := ({ v with grove := { s.grove with heard := tset 0 s.grove.heard [p.member] (s.time + 1) } } : State).setConn site c { k with used := s.now site }
    let d := psnDist p.psn k.apsn
    let step := leNat ((p.data.drop 4).take 4)
    let word := leNat ((p.data.drop 8).take 4)
    let after (w : State) : State := (w.setConn site c (recordPsn (w.conn site c) d)).ackCount site c ce
    let kind := leNat (p.data.take 1)
    k.hw = true → d < 256 → k.got.testBit d = false →
    (kind = 1 → s.grRole = 2 → exec (.groveArrive site port ce p epoch) s =
      .next (((after (({ u with grove := { u.grove with arrived := p.member :: (u.grove.arrived.filter (fun m => decide (m ≠ p.member))) } } : State).grCheck epoch)).followUp).settle s.pending)) ∧
    (kind = 2 → p.member = s.grMgr → exec (.groveRelease site port ce p epoch) s = .next (((after (u.grReleased word step)).followUp).settle s.pending) ∧
      (u.grBound = false → (u.grReleased word step).grove.step = 0 ∧ (u.grReleased word step).grove.arrived = [] ∧ (u.grReleased word step).grEpoch = (u.grSwitch word).grEpoch)) ∧
    (kind = 3 → p.member = s.grMgr → exec (.groveAbort site port ce p epoch) s = .next (((after (u.grAborted word)).followUp).settle s.pending) ∧
      (u.grBound = false → (u.grAborted word).grove.step = 0 ∧ (u.grAborted word).grEpoch = (u.grSwitch word).grEpoch)) ∧
    (kind = 4 → step.testBit 31 = false → exec (.groveHeartbeat site port ce p) s =
      .next ((after { u with grove := { u.grove with ctl := tset 0 u.grove.ctl [p.member] (leNat ((p.data.drop 12).take 2) % 16) } }).settle s.pending)) ∧
    (kind = 5 → s.grRole = 2 → exec (.groveDigest site port ce p) s = .next ((after { u with grove := { u.grove with digests := tset [] u.grove.digests [p.member] (p.data.drop 8) } }).settle s.pending))) ∧
  (∀ (s : State), let io := s.ctlIo
    exec .heartbeatTimer s = .next ((each (if s.grRole = 2 then s.grOthers else if s.grRole = 1 then [s.grMgr] else [])
      (fun m t => t.grCtrl 4 m (t.grStepNow % 2 ^ 31) (natLe t.grEpoch 4 ++ natLe (io - 288) 2)) s).settle s.pending) ∧
    (∀ m, s.grRole = 2 → m ∈ s.grOthers → tget 0 s.grove.heard [m] + s.grSilence ≤ s.time + 1 → exec (.memberLostTimeout m) s =
      .next (((s.grRecord io 0xFF 0xD201 1 m 0 0 0 s.grStepNow).grDecide true (s.grEpoch + 1) s.grStepNow).settle s.pending)) ∧
    (s.grRole = 1 → tget 0 s.grove.heard [s.grMgr] + s.grSilence ≤ s.time + 1 → s.on (F.GR_STATE_HELD.at io) = false → exec .managerLostTimeout s =
      .next (((s.wr (F.GR_STATE_HELD.at io) 1).grRecord io 0xFF 0xD202 2 s.grMgr 0 0 0 s.grStepNow).settle s.pending)) ∧
    (∀ v, s.takes io 0x30 0x130 = true → s.on (F.GR_STATE_HELD.at io) = false → ∃ t, exec (.grRoleWrite v) s = .next t ∧ t.grRole = bits v 1 0 ∧ t.grMember = bits v 10 2 ∧ t.grMgr = bits v 19 11 ∧ s.SameMem t ∧ t.msgs = s.msgs ∧
      (bits v 1 0 = 0 → t.rd (F.GR_STATE_STATE.at io) = 0))) ∧
  ∀ (s : State) (site port : Nat), s.etUp site port = true → s.on (F.ET_CTL_PTP.at site port) = true →
    (∀ q, exec (.ptpEventMessage site port (.sync q)) s = .next (({ s with ptp := { s.ptp with seq := q, t2 := s.now site, asked := false } } : State).settle s.pending)) ∧
    (∀ t1, exec (.ptpEventMessage site port (.followUp s.ptp.seq t1)) s = .next ((({ s with ptp := { s.ptp with t1 := t1, t3 := s.now site, asked := true } } : State).send (.ptpOut site port s.ptp.seq)).settle s.pending)) ∧
    (∀ t4, s.ptp.asked = true → let u : State := { s with ptp := { s.ptp with asked := false } }
      exec (.ptpEventMessage site port (.delayResp s.ptp.seq t4)) s = .next ((u.ptpSteer ((((s.ptp.t2 : Int) - s.ptp.t1) - ((t4 : Int) - s.ptp.t3)) / 2)).settle s.pending)) ∧
    (∀ off : Int, s.rd (F.RC_CTL_SRC.at 309) = 1 → s.ptp.locked = true → let n := off.natAbs
      (s.ptpSteer off).rd (F.RC_ADJ_SIGN.at 309) = bnat (decide (0 < off)) ∧ (s.ptpSteer off).rd (F.RC_ADJ_INTERVAL.at 309) = (if n = 0 then 0 else max 100 (min 65535 (100000000 / n))) ∧ (s.ptpSteer off).time = s.time)

/-- Clocks and panel time: the clock die switches inputs or holds over; a site without its PLL stands still until it locks again or is fenced; a core that droops gates itself, and the seventeenth gate within 100 µs lowers the die's ceiling; a die goes to the highest step below every ceiling, down at once and up by one step with the voltage ready; panel time is loaded, stepped and slewed at the sites that the reference reaches, and at no other (R412, R414, R415, R417, R418, R419, R420, R421, R422, R424, R425, R431). -/
def Obligations.ClocksAndTime : Prop :=
  (∀ (s : State) t n, s.time < 2 ^ 64 → n ∈ allSites → hasClk n = true → (s.setTime t).now n = if s.refReach 40 n then (t % 2 ^ 64 + tget 0 s.drift [n]) % 2 ^ 64 else s.now n) ∧
  ∀ (s : State),
    (∀ j, j < 2 → let ok := refOk j; let other := s.on ((refOk (1 - j)).at 309)
      (s.on (ok.at 309) = true → s.rd (F.RC_STAT_ACTIVE.at 309) = j → ∃ t, exec (.refInputLost j) s = .next t ∧ t.on (ok.at 309) = false ∧ t.pins.refs.testBit j = false ∧
        t.rd (F.RC_STAT_ACTIVE.at 309) = (if s.on (F.RC_CTL_AUTO.at 309) && other then 1 - j else 2) ∧
        (s.on (F.RC_CTL_AUTO.at 309) = true → other = true → t.rd (F.RC_SWITCHES_COUNT.at 309) = satInc (s.rd (F.RC_SWITCHES_COUNT.at 309)) F.RC_SWITCHES_COUNT.width 1 % 2 ^ F.RC_SWITCHES_COUNT.width ∧ ∃ r, t.msgs = s.msgs ++ [.errec r] ∧ r.code = 0x9101) ∧
        (other = false → ∃ r, t.msgs = s.msgs ++ [.errec r] ∧ r.code = 0x9102)) ∧
      (s.pins.pwrGood = true → ∃ t, exec (.refInputReturn j) s = .next t ∧ t.on (ok.at 309) = true ∧ t.pins.refs.testBit j = true ∧
        t.rd (F.RC_STAT_ACTIVE.at 309) = (if s.rd (F.RC_STAT_ACTIVE.at 309) = 2 ∧ s.on (F.RC_CTL_AUTO.at 309) = true ∧ j ≠ s.rd (F.RC_CTL_SEL.at 309) then j else s.rd (F.RC_STAT_ACTIVE.at 309)))) ∧
    (∀ v, s.takes 309 0x20 0x100 = true → ∃ t, exec (.rcSelWrite v) s = .next t ∧ t.rd (F.RC_CTL_SEL.at 309) = v % 2 ∧ t.rd (F.RC_CTL_AUTO.at 309) = v / 2 % 2 ∧
      t.rd (F.RC_STAT_ACTIVE.at 309) = (if s.on ((refOk (v % 2)).at 309) then v % 2 else s.rd (F.RC_STAT_ACTIVE.at 309)) ∧ (v / 4 % 4 ≠ 3 → t.rd (F.RC_CTL_SRC.at 309) = v / 4 % 4) ∧ s.SameMem t) ∧
    (∀ n d m, hasClk n = true → n ≠ 309 → s.dark n = false → s.refChoice n (s.rd (F.CK_REFPARENT_SITE.at n)) = some m → (s.wr (F.CK_STAT_TVALID.at n) 0).refChoice n (s.rd (F.CK_REFPARENT_SITE.at n)) = some m →
      exec (.refParentLost n d) s = .next (((((s.wr (F.CK_STAT_TVALID.at n) 0).wr (F.CK_REFPARENT_SITE.at n) m).wr (F.CK_TDLY_PS.at n) d).clockRec 0x9103 n 0 m 0 0).settle s.pending)) ∧
    (∀ n, s.on (F.CK_STAT_LOCK.at n) = true → ∃ t, exec (.pllLockLost n) s = .next t ∧ n ∈ t.pllLost ∧ (∀ slot, t.clocked ⟨n, slot⟩ = false) ∧ s.SameMem t ∧ t.cores = s.cores ∧ t.msgs = s.msgs) ∧
    (∀ n, n ∈ s.pllLost → ∃ t, exec (.pllRelock n) s = .next t ∧ t.on (F.CK_STAT_LOCK.at n) = true ∧ t.pllLost = s.pllLost.erase n ∧ (∃ r, .errec r ∈ t.msgs ∧ r.code = 0x9104 ∧ r.site = n) ∧ s.SameMem t) ∧
    (∀ n, n ∈ s.pllLost → ∃ t, exec (.pllRelockTimeout n) s = .next t ∧ t.pllLost = s.pllLost.erase n ∧ (∃ r, t.msgs = s.msgs ++ [.errec r] ∧ r.code = 0x9105 ∧ r.site = n) ∧
      ∀ pg, pg < 256 → (blockOf n pg).isSome = true → t.on (F.PG_STAT_FENCED.at n pg) = true) ∧
    (∀ (c : CoreId), (s.core c).clkGated = false →
      let l := s.lad c.site
      let gates := (l.gates.filter (fun t => decide (s.now c.site < t + 100000))) ++ [s.now c.site]
      ∃ t, exec (.droopGate c) s = .next t ∧ t.clocked c = false ∧ t.rd (F.CK_GATE_COUNT.at c.site 0 c.slot) = satInc (s.rd (F.CK_GATE_COUNT.at c.site 0 c.slot)) F.CK_GATE_COUNT.width 1 % 2 ^ F.CK_GATE_COUNT.width ∧
        (gates.length ≤ 16 → t.lad c.site = { l with gates := gates } ∧ t.rd (F.CK_CEIL_MON.at c.site) = s.rd (F.CK_CEIL_MON.at c.site)) ∧
        (16 < gates.length → t.lad c.site = { l with gates := [], low := l.low + 1 } ∧ t.rd (F.CK_CEIL_MON.at c.site) = (s.rd (F.CK_CEIL_MON.at c.site) - 1) % 16)) ∧
    (∀ (c : CoreId), exec (.droopResume c) s = .next ((s.onCore c (fun k => { k with stretched := 0, clkGated := false })).settle s.pending) ∧
      exec (.clockStretch c) s = .next (((s.bump (F.CK_STRETCH_COUNT.at c.site 0 c.slot)).onCore c (fun k => { k with stretched := 1 })).settle s.pending)) ∧
    (∀ n, (s.lad n).low ≠ 0 → exec (.monCeilingRestore n) s = .next (((s.setLad n { s.lad n with low := (s.lad n).low - 1 }).wr (F.CK_CEIL_MON.at n) (min 9 (s.rd (F.CK_CEIL_MON.at n) + 1))).settle s.pending)) ∧
    (∀ n, isDie n = true → s.dark n = false → let at_ := s.rd (F.CK_STAT_STEP.at n); let goal := s.ladderTarget n
      (goal ≤ s.maxStep n ∧ goal ≤ s.rd (F.CK_CEIL_POWER.at n) ∧ goal ≤ s.rd (F.CK_CEIL_THERM.at n) ∧ goal ≤ s.rd (F.CK_CEIL_MON.at n)) ∧
      (s.on (F.CK_STAT_CHANGING.at n) = false → goal < at_ ∨ at_ < goal ∧ (s.lad n).dwell = false ∧ (s.lad n).vready = true → ∃ t, exec (.ladderChange n) s = .next t ∧ t.on (F.CK_STAT_CHANGING.at n) = true ∧
        (t.lad n).next = (if goal < at_ then goal else at_ + 1) ∧ ∀ slot, slot < 18 → t.clocked ⟨n, slot⟩ = false ∧ (t.core ⟨n, slot⟩).stretched = 0) ∧
      (s.on (F.CK_STAT_CHANGING.at n) = false → at_ < goal → (s.lad n).dwell = true ∨ (s.lad n).vready = false → exec (.ladderChange n) s = .next (s.settle s.pending))) ∧
    (∀ n, s.on (F.CK_STAT_CHANGING.at n) = true → exec (.ladderChangeDone n) s = .next (((((s.wr (F.CK_STAT_CHANGING.at n) 0).wr (F.CK_STAT_STEP.at n) (s.lad n).next).bump (F.CK_STEPS_COUNT.at n)).setLad n
      { s.lad n with dwell := true, vready := false }).settle s.pending)) ∧
    (∀ n, exec (.dwellExpire n) s = .next ((s.setLad n { s.lad n with dwell := false }).settle s.pending) ∧
      (s.rd (F.CK_STAT_STEP.at n) < s.ladderTarget n → s.on (F.CK_STAT_CHANGING.at n) = false → exec (.voltageReady n) s = .next ((s.setLad n { s.lad n with vready := true }).settle s.pending))) ∧
    (∀ v, ∃ t, exec (.timeLoad v) s = .next t ∧ t.time = 4 * (v % 2 ^ 62) ∧ s.SameMem t ∧ t.msgs = s.msgs ∧ ∀ n, n ∈ allSites → hasClk n = true → s.refReach 40 n = true → s.dark n = false → t.now n = 4 * (v % 2 ^ 62) ∧ t.on (F.CK_STAT_TVALID.at n) = true) ∧
    (∀ sign iv, s.time < 2 ^ 63 → ∃ t, exec (.timeSlew sign iv) s = .next t ∧ t.ticks = s.ticks + 64 ∧ t.fld = s.fld ∧ t.time = (if sign then s.time + 640 - (if iv = 0 then 0 else 64 / iv) else s.time + 640 + (if iv = 0 then 0 else 64 / iv))) ∧
    (s.takes 309 0x20 0x114 = true → let v := s.rd (F.RC_STEP.at 309)
      (v.testBit 63 = false ∨ (∀ p, p < 64 → s.ptValid p = false) → exec .rcStepCmd s = .next (((s.setTime (s.time + v)).clockRec 0x9301 309 0 0x1FF 0 v).settle s.pending)) ∧
      (∀ p, p < 64 → s.ptValid p = true → v.testBit 63 = true → exec .rcStepCmd s = .next (s.settle s.pending))) ∧
    (s.on (F.RC_STAT_PPS_OK.at 309) = false → ∃ t, exec .ppsEdge s = .next t ∧ t.rd (F.RC_PPS.at 309) = s.now 309 ∧ t.on (F.RC_STAT_PPS_OK.at 309) = true ∧ t.time = s.time % 2 ^ 64 ∧ t.msgs = s.msgs) ∧
    (s.rd (F.RC_CTL_SRC.at 309) ≠ 0 → ∃ t, exec .timeSourceSilent s = .next t ∧ t.rd (F.RC_ADJ_INTERVAL.at 309) = 0 ∧ (s.rd (F.RC_CTL_SRC.at 309) = 2 → t.on (F.RC_STAT_PPS_OK.at 309) = false) ∧ ∃ r, t.msgs = s.msgs ++ [.errec r] ∧ r.code = 0x9302)

/-- Epoch commits: a unit swaps the tables its mask names and no others, and swapping twice restores them; a commit arms every unit that is not dark for T, or is refused before it arms one (the site 0x1FF of routes that are not acyclic, and the check of a unit that catches up, are the model's, log 63), is cancelled before T, and is rolled back when a unit is missing after EP_TMO; a unit arms, refuses, misses T and catches up, and swaps back (R44, R251, R426, R427, R430, R432). -/
def Obligations.Epochs : Prop :=
  (∀ (s : State) n u, (∀ m v, s.bankOf m v ≤ 1) → let t := s.epSwap n
    t.bankOf n u = (if u ∈ epUnits n (s.rd (F.CK_EP_CTL_MASK.at n)) then 1 - s.bankOf n u else s.bankOf n u) ∧ (∀ m, m ≠ n → t.bankOf m u = s.bankOf m u) ∧ (t.epSwap n).bankOf n u = s.bankOf n u ∧ t.fld = s.fld) ∧
  ∀ (s : State),
    let st := s.rd (F.EP_STAT_STATE.at stw)
    let mask := s.rd (F.EP_MASK_MASK.at stw)
    let tmo := 1000 * s.rd (F.EP_TMO_US.at stw)
    let ends (u : State) : Host.Outcome State Fault Refusal := .next ((u.followUp).settle s.pending)
    (s.takes s.steward 0x24 0x10C = true →
      exec .epCommit s = ends s.epCommit ∧
      (∀ n, st = 0 → s.epUnfit mask = some n → s.epCommit = s.epRefuse n mask) ∧
      (st = 0 → s.epUnfit mask = none → s.routesFit mask = false → s.routesBad mask = true → s.epCommit = s.epRefuse 0x1FF mask) ∧
      (mask.testBit 1 = true → acyclic (laneGraph s.pendingEntry) = false → s.routesBad mask = true) ∧ (mask.testBit 3 = true → acyclic (laneGraph s.pendingSync) = false → s.routesBad mask = true) ∧
      (st = 0 → s.epUnfit mask = none → s.routesFit mask = true → ∀ h l, allSites.filter (fun n => !(epUnits n mask).isEmpty && !(s.dark n)) = h :: l → s.now s.steward + 1000 * s.rd (F.EP_LEAD_US.at stw) < 2 ^ 64 →
        let u := s.epCommit
        u.rd (F.EP_STAT_STATE.at stw) = 1 ∧ u.rd (F.EP_T.at stw) = s.now s.steward + 1000 * s.rd (F.EP_LEAD_US.at stw) ∧ u.ep.sites = h :: l ∧ u.rd (F.EP_FIRST_SITE.at stw) = h ∧
        (∀ n ∈ h :: l, ∃ w, Msg.ctl w ∈ u.msgs ∧ w.type = 2 ∧ w.dest = n ∧ w.words.getD 1 0 = mask + 0x20) ∧ u.bank = s.bank) ∧
      (st = 1 ∨ st = 2 → s.now s.steward < s.rd (F.EP_T.at stw) → exec .epCancel s = ends (s.epBack 0) ∧
        ((s.ep.sites.filter (fun n => decide (s.epState n ≤ 2))) ≠ [] → (s.epBack 0).rd (F.EP_STAT_STATE.at stw) = 4) ∧ (s.epBack 0).bank = s.bank)) ∧
    (∀ n, s.takes n 1 0x134 = true →
      (∀ mk, let a := s.wr (F.CK_EP_CTL_MASK.at n) mk
        (s.now n < s.rd (F.CK_EP_T.at n) → let r := a.epRefuses n mk
          exec (.ckEpArm n mk) s = ends (r.2.wr (F.CK_EP_STAT_STATE.at n) (if r.1 then 4 else 1)).epView) ∧
        (s.rd (F.CK_EP_T.at n) ≤ s.now n → let z := (a.wr (F.CK_EP_STAT_STATE.at n) 3).clockRec 0x9201 n 0 n (mk % 32) (s.rd (F.CK_EP_T.at n))
          exec (.ckEpArm n mk) s = ends (if st ≠ 0 ∧ st ≠ 4 then z.epTell n 0x80 none else z).epView)) ∧
      (s.epState n = 1 → st ≠ 4 → exec (.ckEpCancel n) s = ends (s.wr (F.CK_EP_STAT_STATE.at n) 0).epView) ∧
      (s.epState n = 3 → let r := s.epRefuses n (s.rd (F.CK_EP_CTL_MASK.at n))
        exec (.ckEpCatchup n) s = ends (if r.1 then r.2.wr (F.CK_EP_STAT_STATE.at n) 4 else (s.epSwap n).wr (F.CK_EP_STAT_STATE.at n) 2).epView) ∧
      (s.epState n = 2 → exec (.ckEpRollback n) s = ends (s.wr (F.CK_EP_STAT_STATE.at n) 5))) ∧
    (∀ n, s.rd (F.CK_EP_T.at n) ≤ s.now n →
      (s.epState n = 1 → exec (.epochSwitchTime n) s = ends ((s.epSwap n).wr (F.CK_EP_STAT_STATE.at n) 2).epView ∧
        (s.ep.sites = [n] → st = 2 → let u := ((s.epSwap n).wr (F.CK_EP_STAT_STATE.at n) 2).epView
          u.rd (F.EP_STAT_STATE.at stw) = 0 ∧ u.rd (F.EP_STAT_RESULT.at stw) = 0 ∧ u.rd (F.EP_NUM_EPOCH.at stw) = (s.rd (F.EP_NUM_EPOCH.at stw) + 1) % 2 ^ 32)) ∧
      (s.epState n = 5 → exec (.epochSwitchTime n) s = ends ({ (s.epSwap n).wr (F.CK_EP_STAT_STATE.at n) 0 with ep := { s.ep with wait := s.ep.wait.erase n } } : State).epView)) ∧
    (∀ n, s.now n < s.rd (F.CK_EP_T.at n) → exec (.epochSwitchTime n) s = ends s) ∧
    (1 ≤ st → st ≤ 3 → s.rd (F.EP_T.at stw) + tmo ≤ s.now s.steward → exec .epTmoExpire s =
      ends ((s.clockRec 0x9202 s.steward 2 ((s.ep.sites.find? (fun n => decide (s.epState n ≠ 2))).getD 0x1FF) mask (s.rd (F.EP_T.at stw))).epBack 0x9202)) ∧
    (st = 4 → s.ep.t2 + tmo ≤ s.now s.steward → exec .epTmoExpire s = ends ((each s.ep.wait (fun n u => (u.fenceSite n true).clockRec 0x9202 n 2 n mask u.ep.t2) s).epEnd s.ep.result)) ∧
    (1 ≤ st → st ≤ 3 → s.now s.steward < s.rd (F.EP_T.at stw) + tmo → exec .epTmoExpire s = ends s)

/-- Power delivery: a core turns on stage by stage behind a token, and goes OFF when nothing holds it; caps and the ceiling throttle, and after scaling the caps of the panel's dies and stacks fit under the ceiling in force, none below its floor and none raised; a failed phase degrades its group, a second turns it off; a tripped breaker makes its sites dark; a cracked joint lowers what it feeds (R437, R438, R439, R442, R443, R444, R445, R446, R449, R450, R451, R452). -/
def Obligations.PowerDelivery : Prop :=
  (∀ (s : State), let l := s.capSites
    let fixed := s.rd (F.PP_FIXED_WATTS.at stw)
    let cap (u : State) (x : Nat) : Nat := u.rd (F.PW_CAP_WATTS.at x)
    (∀ x ∈ l, capFloor x ≤ cap s x ∧ cap s x < 2 ^ 12) → 107 * (fixed + (l.map capFloor).sum) ≤ 100 * s.ceiling →
    ((l.map (cap s.scaleCaps)).sum + fixed) * 107 ≤ s.ceiling * 100 ∧ ∀ x ∈ l, capFloor x ≤ cap s.scaleCaps x ∧ cap s.scaleCaps x ≤ cap s x) ∧
  ∀ (s : State),
    (∀ (c : CoreId), let k := s.core c
      (k.token = true → k.stage < 4 → exec (.corePowerStage c) s = .next ((s.onCore c (fun k => { k with stage := k.stage + 1 })).settle s.pending)) ∧
      (k.token = true → k.stage = 4 → k.notices = [] → s.regrow.contains c = false → ∃ t, exec (.corePowerUpDone c) s = .next t ∧ t.coreState c = 1 ∧ (t.core c).token = false ∧ (t.core c).stage = 0 ∧ t.msgs = s.msgs ∧ s.SameMem t ∧ s.SameCores t c) ∧
      (s.coreState c = 1 → k.notices = [] → s.bound c = false → exec (.coreOffDelayExpire c) s = .next ((s.setCoreState c 0).settle s.pending)) ∧
      (s.coreState c ≠ 0 → ∃ t, exec (.headerOvercurrent c) s = .next t ∧ t.coreState c = 0 ∧ (t.core c).window = [] ∧ (t.core c).token = false ∧ s.SameCores t c ∧ ∃ r, t.msgs = s.msgs ++ [.errec r] ∧ r.code = 0x7203 ∧ r.site = c.site ∧ r.unit = c.slot) ∧
      (∀ r, s.ramps.find? (fun r => r.site == c.site && r.slot == c.slot && !r.applied) = some r → (r.down = true → r.due + 2000 ≤ s.now c.site) → r.due ≤ s.now c.site → ∃ t, exec (.rampNoticeApply c) s = .next t ∧
        tget 0 t.shed [c.site] = (if r.down then 1 else 0) ∧ t.ramps = (if r.down then s.ramps.erase r else s.ramps.map (fun x => if x = r then { x with applied := true } else x)) ∧ t.fld = s.fld) ∧
      (∀ r, s.ramps.find? (fun r => r.site == c.site && r.slot == c.slot && r.applied) = some r → exec (.rampHoldExpire c) s = .next (({ s with ramps := s.ramps.erase r } : State).settle s.pending))) ∧
    (∀ n ma c, s.admHead n = some c → s.dark n = false →
      let a := s.rd (F.PW_ADM_CORE_A.at n); let k := s.tokens n
      (k < 2 → ma + 1000 * (k * a + a) ≤ 1000 * s.admLimit n → ∃ t, exec (.admissionGrant n ma) s = .next t ∧ (t.core c).token = true ∧ (t.core c).stage = 1 ∧ t.admq = s.admq.erase c) ∧
      (2 ≤ k ∨ 1000 * s.admLimit n < ma + 1000 * (k * a + a) → exec (.admissionGrant n ma) s = .next (s.settle s.pending)) ∧
      exec (.admissionWaitExpire n) s = .next ((s.wr (F.CK_CEIL_MON.at n) (s.rd (F.CK_CEIL_MON.at n) - 1)).settle s.pending)) ∧
    (∀ n w, s.inService n = true → (s.cap n).skip = false → s.capNow n < w →
      (isDie n = true → ∃ t, exec (.capWindow n w) s = .next t ∧ t.rd (F.CK_CEIL_MON.at n) = (s.rd (F.CK_CEIL_MON.at n) - 1) % 16 ∧ (t.cap n).skip = true) ∧
      (isStack n = true → (s.stk (stkOf n)).capLevel < 3 → ∃ t, exec (.capWindow n w) s = .next t ∧ (t.stk (stkOf n)).capLevel = (s.stk (stkOf n)).capLevel + 1 ∧ (t.cap n).skip = true)) ∧
    (∀ l, let w := min 65535 (l.foldl (· + ·) 0)
      exec (.ppInSample l) s = .next (((s.ppIn l).medianSample).settle s.pending) ∧
      (w ≤ s.ceiling → 19 * s.ceiling < 20 * w → (s.ppIn l).rd (F.PP_IN_WATTS.at stw) = w ∧ (s.ppIn l).rd (F.PP_IN_MAX_WATTS.at stw) = max w (s.rd (F.PP_IN_MAX_WATTS.at stw)) % 2 ^ 16 ∧ (s.ppIn l).ppOver = 0) ∧
      (s.ceiling < w → s.ppOver = 2 → s.ppFell = 0 → (s.ppIn l).ppLow = min 9 (s.ppLow + 1) ∧ (s.ppIn l).ppOver = 0 ∧ ∃ r, .errec r ∈ (s.ppIn l).msgs ∧ r.code = 0x7301)) ∧
    (∀ v, s.takes s.steward 2 0x100 = true → (4000 ≤ v → v ≤ 14000 → exec (.ppCeilWrite v) s = .next (((s.wr (F.PP_CEIL_WATTS.at stw) v).newEff).settle s.pending) ∧
        ((s.wr (F.PP_CEIL_WATTS.at stw) v).newEff).rd (F.PP_EFF_WATTS.at stw) = min v (600 * (24 - s.flagged))) ∧
      (v < 4000 → exec (.ppCeilWrite v) s = .next (s.settle s.pending))) ∧
    (s.takes s.steward 2 0x128 = true → let p := s.rd (F.PP_SEL_PART.at stw)
      (s.ptValid p = true → s.capsFit p = false → exec .ppApply s = .next ((s.wr (F.PP_STAT_RESULT.at stw) 0x7302).settle s.pending)) ∧
      (s.ptValid p = true → s.capsFit p = true → exec .ppApply s = .next (((((s.writeCaps p (s.rd (F.PP_PART_DIE_W.at stw 0 p)) (s.rd (F.PP_PART_STK_W.at stw 0 p))).wr (F.PP_STAT_RESULT.at stw) 0)).stepsToCommit).settle s.pending))) ∧
    (∀ p g ph, p < 72 → g < 5 → ph < 12 → let reg := 4 * p + 3; let m := s.rd (F.RG_FAILED_MASK.at reg 0 g); let st := s.rd (F.RG_STAT_STATE.at reg 0 g)
      (st = 1 ∨ st = 2 → m = 0 → ∃ t, exec (.phaseFail reg g ph) s = .next t ∧ t.rd (F.RG_FAILED_MASK.at reg 0 g) = 2 ^ ph ∧ t.rd (F.RG_STAT_STATE.at reg 0 g) = 2 ∧
        t.rd (F.RG_STAT_LIVE.at reg 0 g) = (s.rd (F.RG_STAT_LIVE.at reg 0 g) - 1) % 16 ∧ (g < 3 → t.on (F.PW_STAT_DEGRADED.at (4 * p + g)) = true) ∧ (g < 2 → t.rd (F.CK_CEIL_POWER.at (4 * p + g)) = 7) ∧ ∃ r, t.msgs = s.msgs ++ [.errec r] ∧ r.code = 0x7101 ∧ r.unit = g) ∧
      (st = 1 ∨ st = 2 → m ≠ 0 → m.testBit ph = false → ∃ t, exec (.phaseFail reg g ph) s = .next t ∧ (∀ n ∈ groupSites reg g, t.dark n = true) ∧ ∃ r, .errec r ∈ t.msgs ∧ r.code = 0x7102) ∧
      (st ≠ 3 → ∃ t, exec (.groupBreakerOpen reg g) s = .next t ∧ t.rd (F.RG_STAT_STATE.at reg 0 g) = 3 ∧ (∀ n ∈ groupSites reg g, t.dark n = true ∧ ∀ slot, slot < 18 → isDie n = true → t.coreState ⟨n, slot⟩ = 0) ∧
        ∃ r, .errec r ∈ t.msgs ∧ r.code = 0x7201)) ∧
    (∀ p, p < 72 → s.rd (F.RG_STAT_STATE.at (4 * p + 3) 0 3) ≠ 3 → ∃ t, exec (.plotBreakerOpen p) s = .next t ∧ (∀ j, j < 4 → t.dark (4 * p + j) = true) ∧ ∃ r, .errec r ∈ t.msgs ∧ r.code = 0x7202) ∧
    (∀ p drop, p < 72 → p ∉ s.cracked → ∃ t, exec (.crackDetect (32 + p) drop) s = .next t ∧ t.cracked = p :: s.cracked ∧
      (∀ j, j < 3 → t.rd (F.PW_CAP_WATTS.at (4 * p + j)) = (s.rd (F.PW_CAP_WATTS.at (4 * p + j)) * 3 / 4) % 2 ^ 12) ∧ ∃ r, .errec r ∈ t.msgs ∧ r.code = 0x7401 ∧ r.info0 / 2 ^ 13 = p + 32 ∧ r.info1 = drop) ∧
    (∀ drop, (s.rd (F.RG_CRACK_PAIRS.at 310)).testBit 0 = false → ∃ t, exec (.crackDetect 0 drop) s = .next t ∧ (t.rd (F.RG_CRACK_PAIRS.at 310)).testBit 0 = true ∧ ∃ r, .errec r ∈ t.msgs ∧ r.code = 0x7401 ∧ r.info0 / 2 ^ 13 = 0 ∧ r.info1 = drop)

/-- Cooling: a read of a site's sensors sets its state and its hottest sensor, gates a die at 105 °C and makes a site at its trip temperature dark; the ramp bounds hold the effective cap near the power of the window before; a flow reading sets the ceiling, two reads below 4 L/min declare the loss, and without flow the shed gates, turns off the cores and at last the panel (R461, R463, R464, R465, R466, R467, R470). -/
def Obligations.Cooling : Prop :=
  ∀ (s : State),
    (∀ n l, sensorCount n ≠ 0 → l.length = sensorCount n → (∀ v ∈ l, v < 65536) → s.sensed n = true → let h := hottest l
      ((∀ v ∈ l, reading v ≤ h.1) ∧ h.2 < l.length ∧ reading (l.getD h.2 0) = h.1) ∧
      ((128 * tripLimit n : Nat) ≤ h.1 → ∃ t, exec (.sensorRead n l) s = .next t ∧ t.dark n = true ∧ (∃ r, .errec r ∈ t.msgs ∧ r.code = 0x8104 ∧ r.site = n) ∧ (t.thermal n).temps = l) ∧
      (h.1 < (128 * tripLimit n : Nat) → hasTherm n = true → ∃ t, exec (.sensorRead n l) s = .next t ∧ (t.thermal n).temps = l ∧ t.rd (F.TH_STAT_STATE.at n) = s.thermNext n h.1 ∧
        t.rd (F.TH_MAX_TEMP.at n) = readingOf h.1 ∧ t.rd (F.TH_MAX_SENSOR.at n) = h.2 ∧ (isDie n = true → (13440 : Int) ≤ h.1 → ∀ slot, t.clocked ⟨n, slot⟩ = false)) ∧
      (h.1 < (128 * tripLimit n : Nat) → hasTherm n = false → isStack n = false → exec (.sensorRead n l) s = .next ((if (12800 : Int) ≤ h.1 then
        (s.onThermal n (fun k => { k with temps := l })).wr (F.PG_EVT_EVT.at n 3) (setBit (s.rd (F.PG_EVT_EVT.at n 3)) 0) else s.onThermal n (fun k => { k with temps := l })).settle s.pending))) ∧
    (∀ n avg, isDie n = true ∨ isStack n = true → s.inService n = true → s.dark n = false →
      let d := s.rd (F.TH_RAMP_WATTS.at n); let cap := s.rd (F.PW_CAP_WATTS.at n)
      (s.on (F.TH_STAT_SHED.at n) = false → ∃ t, exec (.rampWindow n avg) s = .next t ∧ (t.cap n).avg = avg ∧ (t.cap n).e ≠ 0 ∧ (t.cap n).e - 1 ≤ avg + d ∧ ((t.cap n).e - 1 ≤ cap ∨ (t.cap n).e - 1 ≤ avg - d ∨ t.on (F.TH_STAT_RAMPHOLD.at n) = true) ∧
        (t.on (F.TH_STAT_RAMPHOLD.at n) = true → (t.cap n).e - 1 ≤ avg) ∧ (t.on (F.TH_STAT_RAMPHOLD.at n) = false → (t.cap n).e = max (avg - d) (min (avg + d) cap) + 1)) ∧
      (s.on (F.TH_STAT_SHED.at n) = true → ∃ t, exec (.rampWindow n avg) s = .next t ∧ t.cap n = { s.cap n with avg := avg } ∧ t.fld = s.fld)) ∧
    (∀ n, isDie n = true ∨ isStack n = true → s.dark n = false → s.takes n 3 0x114 = true →
      (∃ t, exec (.thShedWrite n true) s = .next t ∧ t.on (F.TH_STAT_SHED.at n) = true ∧ (∀ slot, t.clocked ⟨n, slot⟩ = false) ∧
        (isStack n = true → (s.stk (stkOf n)).capLevel ≤ 3 → (s.stk (stkOf n)).thermLevel ≤ 3 → t.rd (F.PW_STAT_THROT.at n) = 3)) ∧
      (s.on (F.TH_STAT_SHED.at n) = true → ∃ t, exec (.thShedWrite n false) s = .next t ∧ t.on (F.TH_STAT_SHED.at n) = false ∧
        (t.cap n).e = min (s.rd (F.PW_CAP_WATTS.at n)) ((s.cap n).avg + s.rd (F.TH_RAMP_WATTS.at n)) + 1)) ∧
    (∀ inlet outlet flow, inlet < 65536 → outlet < 65536 → flow < 65536 → s.tray.fails = [0, 0, 0] → let f := reading flow
      ∃ t, exec (.traySensorRead (some inlet) (some outlet) (some flow)) s = .next t ∧ t.rd (F.TP_FLOW_FLOW.at stw) = flow ∧ t.rd (F.TP_INLET_TEMP.at stw) = inlet ∧ t.rd (F.TP_OUTLET_TEMP.at stw) = outlet ∧
        t.on (F.TP_STAT_TRAY_OK.at stw) = true ∧ t.on (F.TP_STAT_INLET_OK.at stw) = (decide (2560 ≤ reading inlet ∧ reading inlet ≤ 5760)) ∧
        (s.rd (F.TP_CFG_SRC.at stw) ≠ 1 → s.rd (F.TP_CFG_SRC.at stw) < 3 → t.rd (F.TP_FLOWCAP_WATTS.at stw) = flowCap f ∧
          (s.flowState < 3 → f < 400 → s.tray.under = 1 ∨ s.tray.under = 2 → t.flowState = 3 ∧ (∃ r, .errec r ∈ t.msgs ∧ r.code = 0x8301) ∧
            ∀ n ∈ allDies ++ allStacks, s.dark n = false → ∃ w, Msg.ctl w ∈ t.msgs ∧ w.type = 2 ∧ w.dest = n ∧ w.words.getD 1 0 = 1) ∧
          (s.flowState < 3 → 400 ≤ f → s.tray.outlet = [] → t.flowState = (if 2000 ≤ f then 0 else if 1200 ≤ f then 1 else 2)))) ∧
    (s.tray.fails = [2, 0, 0] → ∃ t, exec (.traySensorRead none none none) s = .next t ∧ t.tray.fails = [3, 1, 1] ∧ t.on (F.TP_STAT_TRAY_OK.at stw) = false ∧ ∃ r, t.msgs = s.msgs ++ [.errec r] ∧ r.code = 0x8201) ∧
    (s.flowState = 3 → s.tray.lossAt - 1 + 200000000 ≤ s.now s.steward → ∃ t, exec .shedComputeOff s = .next t ∧ t.flowState = 4 ∧ (∃ r, .errec r ∈ t.msgs ∧ r.code = 0x8302) ∧
      ∀ p ∈ s.shedPlots, ∀ n, n < 2 → ∀ slot, t.clocked ⟨4 * p + n, slot⟩ = false) ∧
    (s.flowState = 4 → s.tray.lossAt - 1 + 2000000000 ≤ s.now s.steward → exec .shedPanelOff s = .next ((s.saveLog.panelOff 2).settle s.pending) ∧
      (let t := s.saveLog.panelOff 2; t.pins.pwrGood = false ∧ t.pins.held = true ∧ t.pins.lock = 2 ∧ t.mem = [] ∧ t.cmem = [] ∧ t.dmem = [] ∧ t.store = s.saveLog.store ∧ t.msgs = [] ∧ ∀ n, 288 ≤ n → n < 318 → t.dark n = true))

/-- Pins and power: power and panel reset follow PWR_EN, PWR_GOOD and PANEL_RST_N, an input out of its limits stops every regulator and keeps the repair store alone, the test access port answers while TRST_N is high, and the UART sends a line for each record that waits (R475, R482, R483, R486, R487). -/
def Obligations.Pins : Prop :=
  (∀ n, 288 ≤ n → n ≤ 317 → idcode n % 2 = 1 ∧ bits (idcode n) 11 1 = Config.jep106.toNat ∧ bits (idcode n) 27 12 = (0x4C00 ||| partCode (partOf n)) ∧ bits (idcode n) 31 28 = 1 ∧ idcode n < 2 ^ 32) ∧
  (∀ n, 304 ≤ n → n ≤ 317 → n ∉ State.reset.offSites) ∧
  ∀ (s : State),
    (∀ low ok, s.pins.pwrEn = false → exec (.pwrEnRise low ok) s = .next ((s.onPins (fun k => { k with pwrEn := true, lock := if k.lock = 1 ∧ ¬ (100000 ≤ low ∧ ok = true) then 1 else 0 })).settle s.pending)) ∧
    (s.pins.pwrEn = true → s.pins.pwrGood = false → s.pins.lock = 0 →
      exec .standbyPowerGood s = .next ((({ s with offSites := State.reset.offSites } : State).onPins (fun k => { k with pwrGood := true, held := true })).settle s.pending)) ∧
    (s.pins.pwrEn = true → ∃ t, exec .pwrEnFall s = .next t ∧ t.pins.pwrEn = false ∧
      (s.pins.pwrGood = true → t.pins.pwrGood = false ∧ t.mem = [] ∧ t.cmem = [] ∧ t.dmem = [] ∧ t.store = tidy s.jCommitDone.store ∧ t.cores = [] ∧ t.msgs = [] ∧ ∀ n, n < 318 → n % 4 ≠ 3 ∨ 288 ≤ n → t.dark n = true)) ∧
    (s.pins.rstN = false → exec .panelRstNRise s = .next ((s.onPins (fun k => { k with rstN := true, held := k.held && !(k.pwrGood && decide (k.refs ≠ 0)) })).settle s.pending)) ∧
    (s.pins.rstN = true → s.pins.pwrGood = true → ∃ t, exec .panelRstNFall s = .next t ∧ t.pins.rstN = false ∧ t.pins.held = true ∧ t.pins.pwrGood = true ∧ t.brStep = 0 ∧ t.mem = [] ∧ t.store = tidy s.jCommitDone.store ∧
      ∀ n, n < 288 → n % 4 ≠ 3 → t.dark n = true) ∧
    (s.pins.rstN = true → s.pins.pwrGood = false → exec .panelRstNFall s = .next ((s.onPins (fun k => { k with rstN := false })).settle s.pending)) ∧
    (∀ i ∈ ([.inputUndervoltage, .inputOvervoltage] : List Instr),
      (s.pins.pwrGood = true → ∃ t, exec i s = .next t ∧ t.pins.pwrGood = false ∧ t.pins.held = true ∧ t.pins.lock = 1 ∧ t.mem = [] ∧ t.cmem = [] ∧ t.dmem = [] ∧ t.store = tidy s.store ∧ ∀ n, n < 318 → n % 4 ≠ 3 ∨ 288 ≤ n → t.dark n = true) ∧
      (s.pins.pwrGood = false → exec i s = .next ((s.onPins (fun k => { k with lock := 1 })).settle s.pending))) ∧
    (∀ low, exec (.trstNAssert low) s = .next ((s.onPins (fun k => { k with trstN := !low, ir := if low then [] else k.ir })).settle s.pending)) ∧
    (∀ n, s.tapFree n = true → let ins (v : Nat) : State := s.onPins (fun k => { k with ir := tset 0 k.ir [n] v })
      exec (.bypass n) s = .next (((ins 1).send (.jtag n 1 0)).settle s.pending) ∧
      exec (.idcode n) s = .next (((ins 0).send (.jtag n 0 (idcode n))).settle s.pending) ∧
      (∀ levels preload, ∃ t, exec (.samplePreload n levels preload) s = .next t ∧ tget 0 t.pins.bsr [n] = preload ∧ t.msgs = s.msgs ++ [.jtag n 2 levels] ∧ t.fld = s.fld ∧ s.SameMem t) ∧
      (∀ next, ∃ t, exec (.extest n next) s = .next t ∧ tget 0 t.pins.bsr [n] = next ∧ t.msgs = s.msgs ++ [.jtag n 3 (tget 0 s.pins.bsr [n])] ∧ t.fld = s.fld ∧ s.SameMem t)) ∧
    (∀ n, s.tapFree n = false → ∀ i ∈ ([.bypass n, .idcode n] : List Instr), exec i s = .next (s.settle s.pending)) ∧
    (∀ b rest, s.uart = b :: rest → ∃ line, exec .uartLineSent s = .next ((({ s with uart := rest } : State).send (.uartLine line)).settle s.pending) ∧
      line.length = 2 * b.length + 4 ∧ line.take 2 = [0x45#8, 0x20#8] ∧ line.drop (2 * b.length + 2) = [0x0D#8, 0x0A#8] ∧
      ∀ j, j < b.length → let d (x : Nat) : Byte := BitVec.ofNat 8 (if x < 10 then 48 + x else 55 + x)
        line.getD (2 + 2 * j) 0 = d ((b.getD j 0).toNat / 16) ∧ line.getD (3 + 2 * j) 0 = d ((b.getD j 0).toNat % 16)) ∧
    (s.uart = [] → exec .uartLineSent s = .next (s.settle s.pending))

/-- Replay: at the end of the drain the cores are HALTED with their fence tags advanced, in a grove the rest waits for ABORT, else the dies' cells go back to the step's start and RES_LOST holds; a replay without a hold restarts and counts; RESUME and ABANDON answer by the state; resident repair copies into a HALTED core; scores decay once a second (R497, R499, R500, R501, R503, R504). -/
def Obligations.Replays : Prop :=
  ∀ (s : State),
    (∀ p d c, s.drains.find? (fun d => decide (d.kind = .replay p)) = some d → d.cores = [c] → isDie c.site = true → c.slot < 18 → s.bound c = true → s.coreState c ≠ 0 →
      let t := s.replayDrainEnd p
      (s.groveBound p = true → (s.rpOf p).stage = 1 → s.grRole = 1 → exec (.replayDrainEnd p) s = .next (t.followUp.settle s.pending) ∧ t.coreState c = 5 ∧ t.on (F.CORE_CTL_HALT.core c) = true ∧
        (t.core c).fence = ((s.core c).fence + 1) % 65536 ∧ (∀ r ∈ t.outst, ¬ (r.site = c.site ∧ r.unit = c.slot)) ∧ t.rpState p = 2 ∧ t.on (F.RP_STAT_HOLD_GROVE.at stw 0 p) = true) ∧
      (s.groveBound p = false → (s.rpOf p).stage ≠ 2 → (s.rpOf p).acts = [] → s.gfState = 0 → exec (.replayDrainEnd p) s = .next (t.followUp.settle s.pending) ∧ t.coreState c = 5 ∧ (t.rpOf p).stage = 3 ∧
        (∀ n ∈ s.ptDies p, ∀ j, s.cellValid n j = true → j < 2048 → t.rd (F.SY_VALUE_VALUE.at n 0 j) = s.rd (F.SY_STEPVAL_VALUE.at n 0 j) % 2 ^ 24) ∧
        (s.resLost p = true → t.rpState p = 2 ∧ t.on (F.RP_STAT_HOLD_RES.at stw 0 p) = true) ∧ ((s.rpOf p).input = true → t.rpState p = 2 ∧ t.on (F.RP_STAT_HOLD_INPUT.at stw 0 p) = true))) ∧
    (∀ p, (s.rpOf p).stage = 3 → s.resLost p = false → (s.rpOf p).input = false → s.graftWait p = false →
      [F.RP_STAT_HOLD_RES, F.RP_STAT_HOLD_INPUT, F.RP_STAT_HOLD_GROVE].any (fun f => s.on (f.at stw 0 p)) = false →
      ∃ t, exec (.replayRestart p) s = .next t ∧ t.rpState p = 0 ∧ t.rd (F.RP_STAT_COUNT.at stw 0 p) = min 15 (s.rd (F.RP_STAT_COUNT.at stw 0 p) + 1) ∧ t.rd (F.RP_STEP_STEP.at stw 0 p) = s.stepOf p % 2 ^ 32) ∧
    (∀ x v (c : CoreId), s.coreState c ≠ 0 → let t := s.restartCore (x, v, c)
      t.on (F.CORE_CTL_HALT.core c) = false ∧ (s.dispatchOf x v = none → t.coreState c = 1) ∧
        ((s.dispatchOf x v).isSome = true → s.regrow.contains c = false → t.coreState c = 2 ∧ (t.core c).loops = (s.core c).stepRec.loops ∧ (t.core c).calls = (s.core c).stepRec.calls)) ∧
    (s.takes s.steward 0x25 0x158 = true → let p := s.rd (F.RP_SEL_PART.at stw)
      (s.rpState p ≠ 2 ∨ s.resLost p = true → exec .rpResume s = .next ((s.wr (F.RP_CMD_RESULT.at stw 0 p) 0x5405).settle s.pending)) ∧
      (s.rpState p = 2 → s.resLost p = false → (s.rpOf p).input = false → ∃ t, exec .rpResume s = .next t ∧ t.on (F.RP_STAT_HOLD_RES.at stw 0 p) = false ∧ t.on (F.RP_STAT_HOLD_INPUT.at stw 0 p) = false ∧
        t.rd (F.RP_LOST_COUNT.at stw 0 p) = 0 ∧ t.rd (F.RP_CMD_RESULT.at stw 0 p) = 0 ∧ s.SameMem t ∧ t.cores = s.cores) ∧
      (s.replaying p = false → exec .rpAbandon s = .next ((s.wr (F.RP_CMD_RESULT.at stw 0 p) 0x5405).settle s.pending)) ∧
      (s.replaying p = true → ∃ t, exec .rpAbandon s = .next t ∧ t.rpState p = 0 ∧ t.rd (F.RP_STAT_COUNT.at stw 0 p) = 0 ∧ t.rd (F.RP_CMD_RESULT.at stw 0 p) = 0 ∧ ∀ x ∈ s.ctxsIn p [2], t.cxState x = 6)) ∧
    (let n := s.rd (F.LR_LEN_LEN.at stw); let c : CoreId := ⟨s.rd (F.LR_DST_SITE.at stw), s.rd (F.LR_DST_SLOT.at stw)⟩
      let off := 64 * s.rd (F.LR_OFF_OFF.at stw); let sp := s.rd (F.LR_DST_SPACE.at stw); let src := s.rd (F.LR_SRC.at stw) <<< 6
      (s.takes s.steward 0x25 0x184 = true → s.on (F.LR_CMD_GO.at stw) = false →
        (s.coreState c ≠ 5 ∨ n = 0 ∨ n % 64 ≠ 0 ∨ (sp ≠ 1 ∧ sp ≠ 2) ∨ s.partOfSite c.site = none → exec .lrGo s = .next ((s.lrResult 0x5405).settle s.pending)) ∧
        (∀ p, s.coreState c = 5 → 0 < n → n % 64 = 0 → ((sp = 1 ∧ off + n ≤ 0x400000) ∨ (sp = 2 ∧ off + n ≤ 0x3000000)) → isDie c.site = true → c.slot < 18 → s.partOfSite c.site = some p → s.rpState p = 2 →
          (∀ e ∈ sectorPieces src n, ∃ a, s.xlate c.site e.1 = .ok a) → exec .lrGo s = .next (((s.wr (F.LR_CMD_RESULT.at stw) 0).wr (F.LR_CMD_GO.at stw) 1).settle s.pending))) ∧
      (s.on (F.LR_CMD_GO.at stw) = true → ∀ b u, s.panelRead (s.saveAsker c 1) src n = (.ok b, u) →
        exec .lrCopyDone s = .next ((((if sp = 1 then u.corePut c off b else u.diePut c.site off b).wr (F.LR_CMD_RESULT.at stw) 0).wr (F.LR_CMD_GO.at stw) 0).settle s.pending))) ∧
    (s.scored.Nodup → ∃ t, exec .healthDecay s = .next t ∧ s.SameMem t ∧ t.cores = s.cores ∧
      (∀ n, let v := s.rd (HUnit.site n).score; t.rd (HUnit.site n).score = (v - max 1 (v / 64)) % 2 ^ 16) ∧
      ∀ c : CoreId, isDie c.site = true → let v := s.rd (HUnit.core c).score; t.rd (HUnit.core c).score = (v - max 1 (v / 64)) % 2 ^ 16)

/-- Grafting: a graft begins only from an IN_SERVICE source into a STANDBY destination and journals its sites GRAFT_PENDING; its destination is powered with every core OFF, tested, zeroed and, in a plot graft, compared, every core of it that is not retired, with a reference core before its stack is migrated; a failure ends it, and ABORT gives the sites their former states before the commit and is discarded at it (R509, R510, R512, R518). -/
def Obligations.Grafting : Prop :=
  ∀ (s : State),
    (s.takes s.steward 0x25 0x1A4 = true →
      (∀ p q, s.grafting = true ∨ 72 ≤ p → exec (.gfPlot p q) s = .next ((s.wr (F.GF_RESULT_CODE.at stw) 0x5405).settle s.pending) ∧ exec (.gfStack p q) s = .next ((s.wr (F.GF_RESULT_CODE.at stw) 0x5405).settle s.pending)) ∧
      (∀ p q, s.grafting = false → p < 72 → s.inService (4 * p + 3) = true → let dest := if q = 0x7F then s.choosePlot p else if q < 72 ∧ s.plotStandby q then some q else none
        (dest = none → exec (.gfPlot p q) s = .next ((s.wr (F.GF_RESULT_CODE.at stw) 0x5405).settle s.pending)) ∧
        (∀ x, x < 72 → dest = some x → ∃ t, exec (.gfPlot p q) s = .next t ∧ t.gfState = 1 ∧ t.gfP = p ∧ t.gfQ = x ∧ t.gfStack = false ∧ t.on (F.OR_GRAFT_OPEN.at stw) = true ∧
          (∀ n ∈ graftSites false p x, s.mapState n ≠ 3 → t.mapState n = 4) ∧ ∃ r, .errec r ∈ t.msgs ∧ r.code = 0xB303)) ∧
      (∀ p q, s.grafting = false → p < 72 → s.inService (4 * p + 2) = true → let dest := if q = 0x7F then s.chooseStack p else if q < 72 ∧ s.mapState (4 * q + 2) = 2 then some q else none
        (dest = none → exec (.gfStack p q) s = .next ((s.wr (F.GF_RESULT_CODE.at stw) 0x5405).settle s.pending)) ∧
        (∀ x, x < 72 → dest = some x → ∃ t, exec (.gfStack p q) s = .next t ∧ t.gfState = 1 ∧ t.gfP = p ∧ t.gfQ = x ∧ t.gfStack = true ∧ (∀ n ∈ graftSites true p x, s.mapState n ≠ 3 → t.mapState n = 4))) ∧
      (s.grafting = true → s.gfState ≠ 5 → s.on (F.GF_CFG_AUTO.at stw) = false → ∃ t, exec .gfAbort s = .next t ∧ t.gfState = 0 ∧ t.on (F.OR_GRAFT_OPEN.at stw) = false ∧
        ((s.gf.former.map (fun e => e.1)).Nodup → ∀ e ∈ s.gf.former, e.1 < 324 → e.2 < 8 → s.mapState e.1 ≠ 3 → t.mapState e.1 = e.2)) ∧
      (s.gfState = 5 → exec .gfAbort s = .next (s.settle s.pending))) ∧
    (∀ p, p < 72 → (∀ q, s.choosePlot p = some q → q < 72 ∧ s.plotStandby q = true) ∧ (s.plotStandby (9 * (p / 9) + 8) = true → s.choosePlot p = some (9 * (p / 9) + 8)) ∧
      (s.choosePlot p = none → ∀ row, row < 8 → s.plotStandby (9 * row + 8) = false)) ∧
    (s.gfState = 1 → s.gf.stage = 0 → s.gfStack = false → s.gfQ < 72 → let t := s.graftPowerDone []
      exec (.graftPowerDone []) s = .next (t.followUp.settle s.pending) ∧ (∀ g, g < 5 → t.rd (F.RG_STAT_STATE.at (4 * s.gfQ + 3) 0 g) = 1 ∨ t.rd (F.RG_STAT_STATE.at (4 * s.gfQ + 3) 0 g) = 2) ∧
        ∀ k j, k < 2 → j < 18 → t.coreState ⟨4 * s.gfQ + k, j⟩ = 0) ∧
    (s.gfState = 2 → s.gfStack = false → ∃ t, exec (.graftTestDone []) s = .next t ∧ t.gfState = 3 ∧ (∀ o, o < stackBytes → mget t.mem (stkAddr s.gfQ o) = 0) ∧ ∃ r, t.msgs = s.msgs ++ [.errec r] ∧ r.code = 0xB303) ∧
    (∀ n, s.gfState = 2 → s.gf.tried = true → s.on (F.GF_CFG_AUTO.at stw) = false → n < 288 → ∃ t, exec (.graftTestDone [n]) s = .next t ∧ t.gfState = 6 ∧ t.rd (F.GF_RESULT_CODE.at stw) = 0xB105 ∧ t.mapState n = 3) ∧
    (s.gfState = 3 → ∀ ref l,
      ((∀ e ∈ l, plotOf e.1.site = s.gfQ → digestNear 12 e.2 ref = true) → exec (.shadowCompare ref l) s = .next (s.settle s.pending)) ∧
      (∀ c ∈ s.qualified, (∀ e ∈ l, e.1 ≠ c) → exec (.shadowCompare ref l) s = .next (s.settle s.pending)) ∧
      (∀ e ∈ l, (∀ c ∈ s.qualified, ∃ x ∈ l, x.1 = c) → e.1 ∈ s.qualified → digestNear 12 e.2 ref = false → s.gf.tried = true → s.on (F.GF_CFG_AUTO.at stw) = false → ∃ t, exec (.shadowCompare ref l) s = .next t ∧ t.gfState = 6 ∧ t.rd (F.GF_RESULT_CODE.at stw) = 0xD401)) ∧
    (s.gfState = 3 → let src := 4 * s.gfP + 2; let t := s.graftSoakEnd
      (s.dark src = true → exec .graftSoakEnd s = .next (t.followUp.settle s.pending) ∧ t.gfState = 4 ∧ t.gf.stage = 1 ∧ s.SameMem t) ∧
      (s.dark src = false → s.siteState (4 * s.gfQ + 2) = 4 → s.gfQ < 72 → s.gfP ≠ s.gfQ → s.on (F.NM_STAT_MG_ACTIVE.at src) = false → s.quiesced src 0x22 = false →
        exec .graftSoakEnd s = .next (t.followUp.settle s.pending) ∧ t.gfState = 4 ∧ t.gf.stage = 0 ∧ t.on (F.NM_STAT_MG_ACTIVE.at src) = true ∧ t.rd (F.MG_CTL_DEST.at src) = s.gfQ ∧ t.rd (F.MG_PTR.at src) = 0))

/-- Bring-up and resets: a step begins only in order and on the steward in charge, and ends with STEP or with its failure's record; AUTO goes on and is stopped by ABORT; a panel reset puts every context into reset and begins its drain; the reset register starts a core's reset or refuses it, and while a reset it started runs a write of GO does nothing, and after the drain the core's memory is zero (R519, R520, R521, R522, R534, R535, R538, R540, R543, R544). -/
def Obligations.BringUpAndResets : Prop :=
  ∀ (s : State),
    (∀ n, n = 306 ∨ n = 307 → s.inReset = false → s.dark n = false → s.takes n 0x20 0x104 = true →
      let no (i : Instr) : Prop := exec i s = .next ((s.wr (F.BR_STAT_RESULT.at n) 0x5405).settle s.pending)
      (∀ k, (k < 3 ∨ 10 < k ∨ s.brStep + 1 ≠ k ∨ s.brBusy = true ∨ s.br.failed ≠ 0 ∨ (3 < k ∧ n ≠ s.steward) → no (.brStep n k)) ∧
        (3 ≤ k → k < 10 → s.brStep + 1 = k → s.brBusy = false → s.br.failed = 0 → (3 < k → n = s.steward) → ∃ t, exec (.brStep n k) s = .next t ∧ t.brBusy = true ∧ t.br.run = k ∧ t.br.site = n ∧ t.br.auto = false ∧ t.brStep = k - 1 ∧
          t.on (F.BR_STAT_FAILED.at n) = false ∧ t.rd (F.BR_STAT_RESULT.at n) = 0)) ∧
      (s.brStep = 9 → s.brBusy = false → s.br.failed = 0 → n = s.steward → ∃ t, exec (.brStep n 10) s = .next t ∧ t.brStep = 10 ∧ t.stwLive 0x22 = true ∧ t.stwLive 0x23 = true ∧ t.stwLive 0x24 = true ∧ t.brBusy = false) ∧
      (s.brStep < 3 ∨ s.brBusy = true ∨ s.br.failed ≠ 0 ∨ n ≠ s.steward → no (.brAuto n)) ∧
      (3 ≤ s.brStep → s.brStep < 9 → s.brBusy = false → s.br.failed = 0 → n = s.steward → ∃ t, exec (.brAuto n) s = .next t ∧ t.br.auto = true ∧ t.br.run = s.brStep + 1 ∧ t.brBusy = true) ∧
      (s.br.auto = false → no (.brAbort n)) ∧
      (s.br.auto = true → exec (.brAbort n) s = .next (({ s with br := { s.br with auto := false } } : State).settle s.pending)) ∧
      (s.brStep < 4 ∨ n ≠ s.steward ∨ s.resetShut .warm = true → no (.brPanelReset n)) ∧
      (4 ≤ s.brStep → n = s.steward → s.resetShut .warm = false → s.br.failed ≠ 9 → ∃ t, exec (.brPanelReset n) s = .next t ∧ t.brStep = (if 9 ≤ s.brStep then 9 else 4) ∧ t.brBusy = true ∧ (∃ d ∈ t.drains, d.kind = .warm) ∧
        ∀ x, x < 1024 → s.cxState x ≠ 0 → t.cxState x = 6)) ∧
    (∀ n v, n = 306 ∨ n = 307 → s.inReset = false → s.dark n = false → s.takes n 0x20 0x110 = true → let a := s.rd (F.BR_FW_ADDR_ADDR.at n)
      exec (.brFwDataWrite n v) s = .next ((({ s with fwbuf := mputNat s.fwbuf ((n - 306) * 0x1000000 + 4 * a) 4 v } : State).wr (F.BR_FW_ADDR_ADDR.at n) (a + 1)).settle s.pending)) ∧
    (∀ r, s.inReset = false →
      (s.br.run = 0 → s.brStep < 2 → ∃ t, exec (.bringupStepDone r) s = .next t ∧ t.rd (F.BR_STAT_STEP.at 306) = 2 ∧ t.rd (F.BR_STAT_STEP.at 307) = 2) ∧
      (s.br.run = 3 → s.br.site = 306 ∨ s.br.site = 307 → s.br.auto = false →
        ((s.loadFirmware s.br.site).1 = 0 → ∃ t, exec (.bringupStepDone r) s = .next t ∧ t.brStep = 3 ∧ t.brBusy = false ∧ t.steward = (if r.romOk then s.br.site else 613 - s.br.site) ∧ t.stwLive 0x21 = true ∧ t.stwLive 0x25 = true) ∧
        ((s.loadFirmware s.br.site).1 ≠ 0 → s.brStep = 2 → ∃ t, exec (.bringupStepDone r) s = .next t ∧ t.brStep = 2 ∧ t.brBusy = false ∧ t.on (F.BR_STAT_FAILED.at 306) = true ∧ t.rd (F.BR_STAT_RESULT.at 306) = 0xB102 ∧ t.br.failed = 0 ∧
          (∃ r, .errec r ∈ t.msgs ∧ r.code = 0xB102) ∧ ∃ r, .errec r ∈ t.msgs ∧ r.code = 0xB101)) ∧
      (s.br.run = 4 → s.on (F.SEC_STAT_IDENT_OK.at 308) = false → ∃ t, exec (.bringupStepDone r) s = .next t ∧ t.brBusy = false ∧ t.br.failed = 4 ∧ t.rd (F.BR_STAT_RESULT.at 306) = 0xB103 ∧ ∃ r, .errec r ∈ t.msgs ∧ r.code = 0xB103 ∧ r.sev = 3) ∧
      (s.br.run = 7 → r.badSites = [] → s.br.auto = false → (∀ n ∈ s.poweredSites, s.trained n = true) →
        (s.anyPlot = true → ∃ t, exec (.bringupStepDone r) s = .next t ∧ t.brStep = 7 ∧ t.brBusy = false ∧ t.br.run = 0) ∧
        (s.anyPlot = false → ∃ t, exec (.bringupStepDone r) s = .next t ∧ t.on (F.BR_STAT_FAILED.at 306) = true ∧ t.rd (F.BR_STAT_RESULT.at 306) = 0xB101 ∧ t.br.failed = 7))) ∧
    (s.inReset = false → s.stwLive 0x21 = true → s.takes s.steward 0x20 0x118 = true → (s.rstGoing = true → exec .brRstGo s = .next (s.settle s.pending)) ∧ (s.rstGoing = false → let n := s.rd (F.BR_RST_SITE.at s.steward); let c : CoreId := ⟨n, s.rd (F.BR_RST_SLOT.at s.steward)⟩
      (s.rd (F.BR_RST_SCOPE.at s.steward) = 0 →
        (isDie n = false ∨ s.bound c = true → exec .brRstGo s = .next ((s.wr (F.BR_RST_STAT_RESULT.at s.steward) 0x5405).settle s.pending)) ∧
        (isDie n = true → c.slot < 18 → s.dark n = false → s.bound c = false → s.resetShut (.core c) = false → ∃ t, exec .brRstGo s = .next t ∧ t.rd (F.BR_RST_STAT_RESULT.at s.steward) = 0 ∧ t.on (F.BR_RST_STAT_BUSY.at s.steward) = true ∧
          t.drains = s.drains ++ [{ kind := .core c, cores := [c], start := s.time }] ∧ t.rstGoing = true ∧ ∀ k, k < 4 → t.on (F.PG_STAT_FENCED.at n (0x40 + 4 * c.slot + k)) = true)) ∧
      (s.rd (F.BR_RST_SCOPE.at s.steward) = 1 → isDie n = true → s.dieOwners n ≠ [] → s.on (F.BR_RST_FORCE.at s.steward) = false → exec .brRstGo s = .next ((s.wr (F.BR_RST_STAT_RESULT.at s.steward) 0x5405).settle s.pending)))) ∧
    (∀ j d c, s.drains[j]? = some d → d.kind = .core c → d.cores = [c] → isDie c.site = true → c.slot < 18 →
      let r := ({ s with drains := s.drains.eraseIdx j } : State).drainCores [c]
      let u := (r.2.drainLate d 0 0 r.1).resetEffects d r.1
      let busy := (s.drains.eraseIdx j).any (fun e => match e.kind with | .core _ | .cluster _ | .partition _ => true | _ => false)
      exec (.resetDrainEnd j) s = .next (((((u.scopeOpen [(c.site, corePages c)]).wr (F.BR_RST_STAT_BUSY.at s.steward) (bnat busy)).kick.graftGo.holdsAll)).settle s.pending) ∧
        u.coreState c = (if s.coreState c = 0 then 0 else 1) ∧ (u.core c).fence = ((s.core c).fence + 1) % 65536 ∧ (∀ a, a < 0x400000 → mget u.cmem (coreAddr c a) = 0) ∧ ∃ r, .errec r ∈ u.msgs ∧ r.code = 0xB401 ∧ r.site = c.site ∧ r.unit = c.slot) ∧
    (s.sec.running = true → s.inReset = false → s.elog.length < 4096 → ∃ t, exec .stewardLostTimeout s = .next t ∧ t.fatal = true ∧ s.SameMem t ∧ t.msgs = s.msgs ∧ ∃ r, t.elog = s.elog ++ [r] ∧ r.code = 0xB501 ∧ r.sev = 3 ∧ r.site = 613 - s.steward)

/-- The orchard map: waiting records become one commit group while none is being written and the ring has room; a commit written counts in GEN and chains its digest, and an image switch names the other slot in both words and keeps every byte of the map (R525, R526, R530, R531, R545). -/
def Obligations.OrchardMap : Prop :=
  ∀ (s : State),
    (∀ i ∈ ([.orchardCommitTimer, .orCommit] : List Instr), (i = .orCommit → s.takes s.steward 0x21 0x120 = true) →
      (s.jpend ≠ [] → s.jopen = [] → s.jUsed + groupBytes s.jpend.length ≤ ringSize → ∃ t, exec i s = .next t ∧ t.jopen = s.jpend ∧ t.jpend = [] ∧ t.on (F.OR_STAT_COMMITTING.at stw) = true ∧ t.on (F.OR_STAT_PENDING.at stw) = false ∧ t.store = tidy s.store ∧ s.SameMem t) ∧
      (s.jpend ≠ [] → s.jopen ≠ [] ∨ ringSize < s.jUsed + groupBytes s.jpend.length → exec i s = .next (({ s with jwant := true } : State).settle s.pending)) ∧
      (s.jpend = [] → exec i s = .next (s.settle s.pending))) ∧
    (s.jopen ≠ [] → let t := s.jCommitDone; let k := s.jopen.length
      exec .orchardCommitDone s = .next (t.followUp.settle s.pending) ∧ t.rd (F.OR_GEN_GEN.at stw) = (s.rd (F.OR_GEN_GEN.at stw) + 1) % 2 ^ 32 ∧ t.jseq = (s.jseq + k + 1) % 2 ^ 32 ∧
        ((∀ r ∈ s.jopen, r.data.length = 32) → t.jtail = (s.jtail + groupBytes k) % ringSize) ∧
        ∃ close : JRec, close.kind = 8 ∧ close.data.take 8 = natLe ((s.rd (F.OR_GEN_GEN.at stw) + 1) % 2 ^ 32) 4 ++ natLe k 4 ∧
          t.jprev = sha3 (s.jprev ++ (s.jopen.zipIdx).flatMap (fun e => jrecBytes ((s.jseq + e.2) % 2 ^ 32) e.1) ++ jrecBytes ((s.jseq + k) % 2 ^ 32) close)) ∧
    (s.takes s.steward 0x21 0x120 = true → s.jimg = none → s.jopen = [] → ∃ t, exec .orCompact s = .next t ∧ t.jimg = some (s.jseq % 2 ^ 32, s.jtail) ∧ t.on (F.OR_STAT_COMMITTING.at stw) = true ∧ t.store = tidy s.store) ∧
    (∀ seq at_, s.jimg = some (seq, at_) → s.slotNow < 2 → s.Sound → ∃ t, exec .imageSwitchDone s = .next t ∧ t.slotNow = 1 - s.slotNow ∧ t.storeNat 0 4 = 1 - s.slotNow ∧ t.storeNat 4 4 = 1 - s.slotNow ∧ t.jimg = none ∧ t.jhead = at_ % ringSize ∧
      (∀ a, (8 ≤ a ∧ a < 24) ∨ (64 ≤ a ∧ a < imageBytes) → t.mapByte a = s.mapByte a) ∧ s.SameMem t) ∧
    (s.takes s.steward 0x21 0x11C = true → let a := s.rd (F.OR_RADDR_ADDR.at stw)
      ∃ t, exec .orRdataRead s = .next t ∧ t.msgs = s.msgs ++ [.regValue s.steward 0x21 0x11C (s.storeNat (4 * a) 4)] ∧
        t.rd (F.OR_RADDR_ADDR.at stw) = (if s.on (F.OR_RADDR_INC.at stw) then (a + 1) % 2 ^ 21 else a) ∧ s.SameRegs t [F.OR_RADDR_ADDR.at stw])
end

