-- ==== Sys2Proof/Laws/State.lean ====
section
/-! SUPPORT. What each update of the state leaves in each field: one lemma a field, true by unfolding. -/

namespace Sys2Proof.Machine

@[simp] theorem State.wr_pending (s : State) (l : Loc) (v : Nat) : (s.wr l v).pending = s.pending := rfl
@[simp] theorem State.wr_nonce (s : State) (l : Loc) (v : Nat) : (s.wr l v).nonce = s.nonce := rfl
@[simp] theorem State.wr_msgs (s : State) (l : Loc) (v : Nat) : (s.wr l v).msgs = s.msgs := rfl
@[simp] theorem State.wr_time (s : State) (l : Loc) (v : Nat) : (s.wr l v).time = s.time := rfl
@[simp] theorem State.wr_drift (s : State) (l : Loc) (v : Nat) : (s.wr l v).drift = s.drift := rfl
@[simp] theorem State.wr_fld (s : State) (l : Loc) (v : Nat) : (s.wr l v).fld = tset 0 s.fld l.key (packField l.rst (v % 2 ^ l.width)) := rfl
@[simp] theorem State.wr_bank (s : State) (l : Loc) (v : Nat) : (s.wr l v).bank = s.bank := rfl
@[simp] theorem State.wr_mem (s : State) (l : Loc) (v : Nat) : (s.wr l v).mem = s.mem := rfl
@[simp] theorem State.wr_failing (s : State) (l : Loc) (v : Nat) : (s.wr l v).failing = s.failing := rfl
@[simp] theorem State.wr_lastDeny (s : State) (l : Loc) (v : Nat) : (s.wr l v).lastDeny = s.lastDeny := rfl
@[simp] theorem State.wr_cmem (s : State) (l : Loc) (v : Nat) : (s.wr l v).cmem = s.cmem := rfl
@[simp] theorem State.wr_ework (s : State) (l : Loc) (v : Nat) : (s.wr l v).ework = s.ework := rfl
@[simp] theorem State.wr_dmem (s : State) (l : Loc) (v : Nat) : (s.wr l v).dmem = s.dmem := rfl
@[simp] theorem State.wr_parBad (s : State) (l : Loc) (v : Nat) : (s.wr l v).parBad = s.parBad := rfl
@[simp] theorem State.wr_dmReread (s : State) (l : Loc) (v : Nat) : (s.wr l v).dmReread = s.dmReread := rfl
@[simp] theorem State.wr_regionPend (s : State) (l : Loc) (v : Nat) : (s.wr l v).regionPend = s.regionPend := rfl
@[simp] theorem State.wr_cores (s : State) (l : Loc) (v : Nat) : (s.wr l v).cores = s.cores := rfl
@[simp] theorem State.wr_waiters (s : State) (l : Loc) (v : Nat) : (s.wr l v).waiters = s.waiters := rfl
@[simp] theorem State.wr_xlt (s : State) (l : Loc) (v : Nat) : (s.wr l v).xlt = s.xlt := rfl
@[simp] theorem State.wr_cache (s : State) (l : Loc) (v : Nat) : (s.wr l v).cache = s.cache := rfl
@[simp] theorem State.wr_plru (s : State) (l : Loc) (v : Nat) : (s.wr l v).plru = s.plru := rfl
@[simp] theorem State.wr_pfs (s : State) (l : Loc) (v : Nat) : (s.wr l v).pfs = s.pfs := rfl
@[simp] theorem State.wr_stkRecs (s : State) (l : Loc) (v : Nat) : (s.wr l v).stkRecs = s.stkRecs := rfl
@[simp] theorem State.wr_outst (s : State) (l : Loc) (v : Nat) : (s.wr l v).outst = s.outst := rfl
@[simp] theorem State.wr_tagNext (s : State) (l : Loc) (v : Nat) : (s.wr l v).tagNext = s.tagNext := rfl
@[simp] theorem State.wr_accOut (s : State) (l : Loc) (v : Nat) : (s.wr l v).accOut = s.accOut := rfl
@[simp] theorem State.wr_mcGot (s : State) (l : Loc) (v : Nat) : (s.wr l v).mcGot = s.mcGot := rfl
@[simp] theorem State.wr_mcBad (s : State) (l : Loc) (v : Nat) : (s.wr l v).mcBad = s.mcBad := rfl
@[simp] theorem State.wr_mcFrom (s : State) (l : Loc) (v : Nat) : (s.wr l v).mcFrom = s.mcFrom := rfl
@[simp] theorem State.wr_holds (s : State) (l : Loc) (v : Nat) : (s.wr l v).holds = s.holds := rfl
@[simp] theorem State.wr_eaUsed (s : State) (l : Loc) (v : Nat) : (s.wr l v).eaUsed = s.eaUsed := rfl
@[simp] theorem State.wr_active (s : State) (l : Loc) (v : Nat) : (s.wr l v).active = s.active := rfl
@[simp] theorem State.wr_eqs (s : State) (l : Loc) (v : Nat) : (s.wr l v).eqs = s.eqs := rfl
@[simp] theorem State.wr_msixTab (s : State) (l : Loc) (v : Nat) : (s.wr l v).msixTab = s.msixTab := rfl
@[simp] theorem State.wr_msixPend (s : State) (l : Loc) (v : Nat) : (s.wr l v).msixPend = s.msixPend := rfl
@[simp] theorem State.wr_ramps (s : State) (l : Loc) (v : Nat) : (s.wr l v).ramps = s.ramps := rfl
@[simp] theorem State.wr_ctxs (s : State) (l : Loc) (v : Nat) : (s.wr l v).ctxs = s.ctxs := rfl
@[simp] theorem State.wr_queues (s : State) (l : Loc) (v : Nat) : (s.wr l v).queues = s.queues := rfl
@[simp] theorem State.wr_rr (s : State) (l : Loc) (v : Nat) : (s.wr l v).rr = s.rr := rfl
@[simp] theorem State.wr_held (s : State) (l : Loc) (v : Nat) : (s.wr l v).held = s.held := rfl
@[simp] theorem State.wr_flists (s : State) (l : Loc) (v : Nat) : (s.wr l v).flists = s.flists := rfl
@[simp] theorem State.wr_lifted (s : State) (l : Loc) (v : Nat) : (s.wr l v).lifted = s.lifted := rfl
@[simp] theorem State.wr_drains (s : State) (l : Loc) (v : Nat) : (s.wr l v).drains = s.drains := rfl
@[simp] theorem State.wr_rstRun (s : State) (l : Loc) (v : Nat) : (s.wr l v).rstRun = s.rstRun := rfl
@[simp] theorem State.wr_admq (s : State) (l : Loc) (v : Nat) : (s.wr l v).admq = s.admq := rfl
@[simp] theorem State.wr_substCore (s : State) (l : Loc) (v : Nat) : (s.wr l v).substCore = s.substCore := rfl
@[simp] theorem State.wr_substSite (s : State) (l : Loc) (v : Nat) : (s.wr l v).substSite = s.substSite := rfl
@[simp] theorem State.wr_substStack (s : State) (l : Loc) (v : Nat) : (s.wr l v).substStack = s.substStack := rfl
@[simp] theorem State.wr_rot (s : State) (l : Loc) (v : Nat) : (s.wr l v).rot = s.rot := rfl
@[simp] theorem State.wr_arrived (s : State) (l : Loc) (v : Nat) : (s.wr l v).arrived = s.arrived := rfl
@[simp] theorem State.wr_crds (s : State) (l : Loc) (v : Nat) : (s.wr l v).crds = s.crds := rfl
@[simp] theorem State.wr_crdWait (s : State) (l : Loc) (v : Nat) : (s.wr l v).crdWait = s.crdWait := rfl
@[simp] theorem State.wr_hostReqs (s : State) (l : Loc) (v : Nat) : (s.wr l v).hostReqs = s.hostReqs := rfl
@[simp] theorem State.wr_hostNext (s : State) (l : Loc) (v : Nat) : (s.wr l v).hostNext = s.hostNext := rfl
@[simp] theorem State.wr_ctlTag (s : State) (l : Loc) (v : Nat) : (s.wr l v).ctlTag = s.ctlTag := rfl
@[simp] theorem State.wr_bells (s : State) (l : Loc) (v : Nat) : (s.wr l v).bells = s.bells := rfl
@[simp] theorem State.wr_bellsOut (s : State) (l : Loc) (v : Nat) : (s.wr l v).bellsOut = s.bellsOut := rfl
@[simp] theorem State.wr_aer (s : State) (l : Loc) (v : Nat) : (s.wr l v).aer = s.aer := rfl
@[simp] theorem State.wr_hdm (s : State) (l : Loc) (v : Nat) : (s.wr l v).hdm = s.hdm := rfl
@[simp] theorem State.wr_d3 (s : State) (l : Loc) (v : Nat) : (s.wr l v).d3 = s.d3 := rfl
@[simp] theorem State.wr_cfg (s : State) (l : Loc) (v : Nat) : (s.wr l v).cfg = s.cfg := rfl
@[simp] theorem State.wr_doe (s : State) (l : Loc) (v : Nat) : (s.wr l v).doe = s.doe := rfl
@[simp] theorem State.wr_store (s : State) (l : Loc) (v : Nat) : (s.wr l v).store = s.store := rfl
@[simp] theorem State.wr_omap (s : State) (l : Loc) (v : Nat) : (s.wr l v).omap = s.omap := rfl
@[simp] theorem State.wr_jpend (s : State) (l : Loc) (v : Nat) : (s.wr l v).jpend = s.jpend := rfl
@[simp] theorem State.wr_jopen (s : State) (l : Loc) (v : Nat) : (s.wr l v).jopen = s.jopen := rfl
@[simp] theorem State.wr_jwant (s : State) (l : Loc) (v : Nat) : (s.wr l v).jwant = s.jwant := rfl
@[simp] theorem State.wr_jseq (s : State) (l : Loc) (v : Nat) : (s.wr l v).jseq = s.jseq := rfl
@[simp] theorem State.wr_jhead (s : State) (l : Loc) (v : Nat) : (s.wr l v).jhead = s.jhead := rfl
@[simp] theorem State.wr_jtail (s : State) (l : Loc) (v : Nat) : (s.wr l v).jtail = s.jtail := rfl
@[simp] theorem State.wr_jprev (s : State) (l : Loc) (v : Nat) : (s.wr l v).jprev = s.jprev := rfl
@[simp] theorem State.wr_jimg (s : State) (l : Loc) (v : Nat) : (s.wr l v).jimg = s.jimg := rfl
@[simp] theorem State.wr_jtold (s : State) (l : Loc) (v : Nat) : (s.wr l v).jtold = s.jtold := rfl
@[simp] theorem State.wr_jgen (s : State) (l : Loc) (v : Nat) : (s.wr l v).jgen = s.jgen := rfl
@[simp] theorem State.wr_jbad (s : State) (l : Loc) (v : Nat) : (s.wr l v).jbad = s.jbad := rfl
@[simp] theorem State.wr_ends (s : State) (l : Loc) (v : Nat) : (s.wr l v).ends = s.ends := rfl
@[simp] theorem State.wr_lanes (s : State) (l : Loc) (v : Nat) : (s.wr l v).lanes = s.lanes := rfl
@[simp] theorem State.wr_guestTold (s : State) (l : Loc) (v : Nat) : (s.wr l v).guestTold = s.guestTold := rfl
@[simp] theorem State.wr_conns (s : State) (l : Loc) (v : Nat) : (s.wr l v).conns = s.conns := rfl
@[simp] theorem State.wr_miss (s : State) (l : Loc) (v : Nat) : (s.wr l v).miss = s.miss := rfl
@[simp] theorem State.wr_xchans (s : State) (l : Loc) (v : Nat) : (s.wr l v).xchans = s.xchans := rfl
@[simp] theorem State.wr_grove (s : State) (l : Loc) (v : Nat) : (s.wr l v).grove = s.grove := rfl
@[simp] theorem State.wr_ticks (s : State) (l : Loc) (v : Nat) : (s.wr l v).ticks = s.ticks := rfl
@[simp] theorem State.wr_pllLost (s : State) (l : Loc) (v : Nat) : (s.wr l v).pllLost = s.pllLost := rfl
@[simp] theorem State.wr_ladder (s : State) (l : Loc) (v : Nat) : (s.wr l v).ladder = s.ladder := rfl
@[simp] theorem State.wr_ep (s : State) (l : Loc) (v : Nat) : (s.wr l v).ep = s.ep := rfl
@[simp] theorem State.wr_caps (s : State) (l : Loc) (v : Nat) : (s.wr l v).caps = s.caps := rfl
@[simp] theorem State.wr_shed (s : State) (l : Loc) (v : Nat) : (s.wr l v).shed = s.shed := rfl
@[simp] theorem State.wr_offSites (s : State) (l : Loc) (v : Nat) : (s.wr l v).offSites = s.offSites := rfl
@[simp] theorem State.wr_cracked (s : State) (l : Loc) (v : Nat) : (s.wr l v).cracked = s.cracked := rfl
@[simp] theorem State.wr_ppLow (s : State) (l : Loc) (v : Nat) : (s.wr l v).ppLow = s.ppLow := rfl
@[simp] theorem State.wr_ppOver (s : State) (l : Loc) (v : Nat) : (s.wr l v).ppOver = s.ppOver := rfl
@[simp] theorem State.wr_ppFell (s : State) (l : Loc) (v : Nat) : (s.wr l v).ppFell = s.ppFell := rfl
@[simp] theorem State.wr_ppRose (s : State) (l : Loc) (v : Nat) : (s.wr l v).ppRose = s.ppRose := rfl
@[simp] theorem State.wr_ppMilli (s : State) (l : Loc) (v : Nat) : (s.wr l v).ppMilli = s.ppMilli := rfl
@[simp] theorem State.wr_gf (s : State) (l : Loc) (v : Nat) : (s.wr l v).gf = s.gf := rfl
@[simp] theorem State.wr_regrow (s : State) (l : Loc) (v : Nat) : (s.wr l v).regrow = s.regrow := rfl
@[simp] theorem State.wr_rp (s : State) (l : Loc) (v : Nat) : (s.wr l v).rp = s.rp := rfl
@[simp] theorem State.wr_elog (s : State) (l : Loc) (v : Nat) : (s.wr l v).elog = s.elog := rfl
@[simp] theorem State.wr_intakeUntil (s : State) (l : Loc) (v : Nat) : (s.wr l v).intakeUntil = s.intakeUntil := rfl
@[simp] theorem State.wr_intakeLost (s : State) (l : Loc) (v : Nat) : (s.wr l v).intakeLost = s.intakeLost := rfl
@[simp] theorem State.wr_uart (s : State) (l : Loc) (v : Nat) : (s.wr l v).uart = s.uart := rfl
@[simp] theorem State.wr_uartLost (s : State) (l : Loc) (v : Nat) : (s.wr l v).uartLost = s.uartLost := rfl
@[simp] theorem State.wr_raEff (s : State) (l : Loc) (v : Nat) : (s.wr l v).raEff = s.raEff := rfl
@[simp] theorem State.wr_fatal (s : State) (l : Loc) (v : Nat) : (s.wr l v).fatal = s.fatal := rfl
@[simp] theorem State.wr_ptp (s : State) (l : Loc) (v : Nat) : (s.wr l v).ptp = s.ptp := rfl
@[simp] theorem State.wr_th (s : State) (l : Loc) (v : Nat) : (s.wr l v).th = s.th := rfl
@[simp] theorem State.wr_tray (s : State) (l : Loc) (v : Nat) : (s.wr l v).tray = s.tray := rfl
@[simp] theorem State.wr_pins (s : State) (l : Loc) (v : Nat) : (s.wr l v).pins = s.pins := rfl
@[simp] theorem State.wr_br (s : State) (l : Loc) (v : Nat) : (s.wr l v).br = s.br := rfl
@[simp] theorem State.wr_fwbuf (s : State) (l : Loc) (v : Nat) : (s.wr l v).fwbuf = s.fwbuf := rfl
@[simp] theorem State.wr_sec (s : State) (l : Loc) (v : Nat) : (s.wr l v).sec = s.sec := rfl
@[simp] theorem State.wr_logMark (s : State) (l : Loc) (v : Nat) : (s.wr l v).logMark = s.logMark := rfl

@[simp] theorem State.send_pending (s : State) (m : Msg) : (s.send m).pending = s.pending := rfl
@[simp] theorem State.send_nonce (s : State) (m : Msg) : (s.send m).nonce = s.nonce := rfl
@[simp] theorem State.send_msgs (s : State) (m : Msg) : (s.send m).msgs = s.msgs ++ [m] := rfl
@[simp] theorem State.send_time (s : State) (m : Msg) : (s.send m).time = s.time := rfl
@[simp] theorem State.send_drift (s : State) (m : Msg) : (s.send m).drift = s.drift := rfl
@[simp] theorem State.send_fld (s : State) (m : Msg) : (s.send m).fld = s.fld := rfl
@[simp] theorem State.send_bank (s : State) (m : Msg) : (s.send m).bank = s.bank := rfl
@[simp] theorem State.send_mem (s : State) (m : Msg) : (s.send m).mem = s.mem := rfl
@[simp] theorem State.send_failing (s : State) (m : Msg) : (s.send m).failing = s.failing := rfl
@[simp] theorem State.send_lastDeny (s : State) (m : Msg) : (s.send m).lastDeny = s.lastDeny := rfl
@[simp] theorem State.send_cmem (s : State) (m : Msg) : (s.send m).cmem = s.cmem := rfl
@[simp] theorem State.send_ework (s : State) (m : Msg) : (s.send m).ework = s.ework := rfl
@[simp] theorem State.send_dmem (s : State) (m : Msg) : (s.send m).dmem = s.dmem := rfl
@[simp] theorem State.send_parBad (s : State) (m : Msg) : (s.send m).parBad = s.parBad := rfl
@[simp] theorem State.send_dmReread (s : State) (m : Msg) : (s.send m).dmReread = s.dmReread := rfl
@[simp] theorem State.send_regionPend (s : State) (m : Msg) : (s.send m).regionPend = s.regionPend := rfl
@[simp] theorem State.send_cores (s : State) (m : Msg) : (s.send m).cores = s.cores := rfl
@[simp] theorem State.send_waiters (s : State) (m : Msg) : (s.send m).waiters = s.waiters := rfl
@[simp] theorem State.send_xlt (s : State) (m : Msg) : (s.send m).xlt = s.xlt := rfl
@[simp] theorem State.send_cache (s : State) (m : Msg) : (s.send m).cache = s.cache := rfl
@[simp] theorem State.send_plru (s : State) (m : Msg) : (s.send m).plru = s.plru := rfl
@[simp] theorem State.send_pfs (s : State) (m : Msg) : (s.send m).pfs = s.pfs := rfl
@[simp] theorem State.send_stkRecs (s : State) (m : Msg) : (s.send m).stkRecs = s.stkRecs := rfl
@[simp] theorem State.send_outst (s : State) (m : Msg) : (s.send m).outst = s.outst := rfl
@[simp] theorem State.send_tagNext (s : State) (m : Msg) : (s.send m).tagNext = s.tagNext := rfl
@[simp] theorem State.send_accOut (s : State) (m : Msg) : (s.send m).accOut = s.accOut := rfl
@[simp] theorem State.send_mcGot (s : State) (m : Msg) : (s.send m).mcGot = s.mcGot := rfl
@[simp] theorem State.send_mcBad (s : State) (m : Msg) : (s.send m).mcBad = s.mcBad := rfl
@[simp] theorem State.send_mcFrom (s : State) (m : Msg) : (s.send m).mcFrom = s.mcFrom := rfl
@[simp] theorem State.send_holds (s : State) (m : Msg) : (s.send m).holds = s.holds := rfl
@[simp] theorem State.send_eaUsed (s : State) (m : Msg) : (s.send m).eaUsed = s.eaUsed := rfl
@[simp] theorem State.send_active (s : State) (m : Msg) : (s.send m).active = s.active := rfl
@[simp] theorem State.send_eqs (s : State) (m : Msg) : (s.send m).eqs = s.eqs := rfl
@[simp] theorem State.send_msixTab (s : State) (m : Msg) : (s.send m).msixTab = s.msixTab := rfl
@[simp] theorem State.send_msixPend (s : State) (m : Msg) : (s.send m).msixPend = s.msixPend := rfl
@[simp] theorem State.send_ramps (s : State) (m : Msg) : (s.send m).ramps = s.ramps := rfl
@[simp] theorem State.send_ctxs (s : State) (m : Msg) : (s.send m).ctxs = s.ctxs := rfl
@[simp] theorem State.send_queues (s : State) (m : Msg) : (s.send m).queues = s.queues := rfl
@[simp] theorem State.send_rr (s : State) (m : Msg) : (s.send m).rr = s.rr := rfl
@[simp] theorem State.send_held (s : State) (m : Msg) : (s.send m).held = s.held := rfl
@[simp] theorem State.send_flists (s : State) (m : Msg) : (s.send m).flists = s.flists := rfl
@[simp] theorem State.send_lifted (s : State) (m : Msg) : (s.send m).lifted = s.lifted := rfl
@[simp] theorem State.send_drains (s : State) (m : Msg) : (s.send m).drains = s.drains := rfl
@[simp] theorem State.send_rstRun (s : State) (m : Msg) : (s.send m).rstRun = s.rstRun := rfl
@[simp] theorem State.send_admq (s : State) (m : Msg) : (s.send m).admq = s.admq := rfl
@[simp] theorem State.send_substCore (s : State) (m : Msg) : (s.send m).substCore = s.substCore := rfl
@[simp] theorem State.send_substSite (s : State) (m : Msg) : (s.send m).substSite = s.substSite := rfl
@[simp] theorem State.send_substStack (s : State) (m : Msg) : (s.send m).substStack = s.substStack := rfl
@[simp] theorem State.send_rot (s : State) (m : Msg) : (s.send m).rot = s.rot := rfl
@[simp] theorem State.send_arrived (s : State) (m : Msg) : (s.send m).arrived = s.arrived := rfl
@[simp] theorem State.send_crds (s : State) (m : Msg) : (s.send m).crds = s.crds := rfl
@[simp] theorem State.send_crdWait (s : State) (m : Msg) : (s.send m).crdWait = s.crdWait := rfl
@[simp] theorem State.send_hostReqs (s : State) (m : Msg) : (s.send m).hostReqs = s.hostReqs := rfl
@[simp] theorem State.send_hostNext (s : State) (m : Msg) : (s.send m).hostNext = s.hostNext := rfl
@[simp] theorem State.send_ctlTag (s : State) (m : Msg) : (s.send m).ctlTag = s.ctlTag := rfl
@[simp] theorem State.send_bells (s : State) (m : Msg) : (s.send m).bells = s.bells := rfl
@[simp] theorem State.send_bellsOut (s : State) (m : Msg) : (s.send m).bellsOut = s.bellsOut := rfl
@[simp] theorem State.send_aer (s : State) (m : Msg) : (s.send m).aer = s.aer := rfl
@[simp] theorem State.send_hdm (s : State) (m : Msg) : (s.send m).hdm = s.hdm := rfl
@[simp] theorem State.send_d3 (s : State) (m : Msg) : (s.send m).d3 = s.d3 := rfl
@[simp] theorem State.send_cfg (s : State) (m : Msg) : (s.send m).cfg = s.cfg := rfl
@[simp] theorem State.send_doe (s : State) (m : Msg) : (s.send m).doe = s.doe := rfl
@[simp] theorem State.send_store (s : State) (m : Msg) : (s.send m).store = s.store := rfl
@[simp] theorem State.send_omap (s : State) (m : Msg) : (s.send m).omap = s.omap := rfl
@[simp] theorem State.send_jpend (s : State) (m : Msg) : (s.send m).jpend = s.jpend := rfl
@[simp] theorem State.send_jopen (s : State) (m : Msg) : (s.send m).jopen = s.jopen := rfl
@[simp] theorem State.send_jwant (s : State) (m : Msg) : (s.send m).jwant = s.jwant := rfl
@[simp] theorem State.send_jseq (s : State) (m : Msg) : (s.send m).jseq = s.jseq := rfl
@[simp] theorem State.send_jhead (s : State) (m : Msg) : (s.send m).jhead = s.jhead := rfl
@[simp] theorem State.send_jtail (s : State) (m : Msg) : (s.send m).jtail = s.jtail := rfl
@[simp] theorem State.send_jprev (s : State) (m : Msg) : (s.send m).jprev = s.jprev := rfl
@[simp] theorem State.send_jimg (s : State) (m : Msg) : (s.send m).jimg = s.jimg := rfl
@[simp] theorem State.send_jtold (s : State) (m : Msg) : (s.send m).jtold = s.jtold := rfl
@[simp] theorem State.send_jgen (s : State) (m : Msg) : (s.send m).jgen = s.jgen := rfl
@[simp] theorem State.send_jbad (s : State) (m : Msg) : (s.send m).jbad = s.jbad := rfl
@[simp] theorem State.send_ends (s : State) (m : Msg) : (s.send m).ends = s.ends := rfl
@[simp] theorem State.send_lanes (s : State) (m : Msg) : (s.send m).lanes = s.lanes := rfl
@[simp] theorem State.send_guestTold (s : State) (m : Msg) : (s.send m).guestTold = s.guestTold := rfl
@[simp] theorem State.send_conns (s : State) (m : Msg) : (s.send m).conns = s.conns := rfl
@[simp] theorem State.send_miss (s : State) (m : Msg) : (s.send m).miss = s.miss := rfl
@[simp] theorem State.send_xchans (s : State) (m : Msg) : (s.send m).xchans = s.xchans := rfl
@[simp] theorem State.send_grove (s : State) (m : Msg) : (s.send m).grove = s.grove := rfl
@[simp] theorem State.send_ticks (s : State) (m : Msg) : (s.send m).ticks = s.ticks := rfl
@[simp] theorem State.send_pllLost (s : State) (m : Msg) : (s.send m).pllLost = s.pllLost := rfl
@[simp] theorem State.send_ladder (s : State) (m : Msg) : (s.send m).ladder = s.ladder := rfl
@[simp] theorem State.send_ep (s : State) (m : Msg) : (s.send m).ep = s.ep := rfl
@[simp] theorem State.send_caps (s : State) (m : Msg) : (s.send m).caps = s.caps := rfl
@[simp] theorem State.send_shed (s : State) (m : Msg) : (s.send m).shed = s.shed := rfl
@[simp] theorem State.send_offSites (s : State) (m : Msg) : (s.send m).offSites = s.offSites := rfl
@[simp] theorem State.send_cracked (s : State) (m : Msg) : (s.send m).cracked = s.cracked := rfl
@[simp] theorem State.send_ppLow (s : State) (m : Msg) : (s.send m).ppLow = s.ppLow := rfl
@[simp] theorem State.send_ppOver (s : State) (m : Msg) : (s.send m).ppOver = s.ppOver := rfl
@[simp] theorem State.send_ppFell (s : State) (m : Msg) : (s.send m).ppFell = s.ppFell := rfl
@[simp] theorem State.send_ppRose (s : State) (m : Msg) : (s.send m).ppRose = s.ppRose := rfl
@[simp] theorem State.send_ppMilli (s : State) (m : Msg) : (s.send m).ppMilli = s.ppMilli := rfl
@[simp] theorem State.send_gf (s : State) (m : Msg) : (s.send m).gf = s.gf := rfl
@[simp] theorem State.send_regrow (s : State) (m : Msg) : (s.send m).regrow = s.regrow := rfl
@[simp] theorem State.send_rp (s : State) (m : Msg) : (s.send m).rp = s.rp := rfl
@[simp] theorem State.send_elog (s : State) (m : Msg) : (s.send m).elog = s.elog := rfl
@[simp] theorem State.send_intakeUntil (s : State) (m : Msg) : (s.send m).intakeUntil = s.intakeUntil := rfl
@[simp] theorem State.send_intakeLost (s : State) (m : Msg) : (s.send m).intakeLost = s.intakeLost := rfl
@[simp] theorem State.send_uart (s : State) (m : Msg) : (s.send m).uart = s.uart := rfl
@[simp] theorem State.send_uartLost (s : State) (m : Msg) : (s.send m).uartLost = s.uartLost := rfl
@[simp] theorem State.send_raEff (s : State) (m : Msg) : (s.send m).raEff = s.raEff := rfl
@[simp] theorem State.send_fatal (s : State) (m : Msg) : (s.send m).fatal = s.fatal := rfl
@[simp] theorem State.send_ptp (s : State) (m : Msg) : (s.send m).ptp = s.ptp := rfl
@[simp] theorem State.send_th (s : State) (m : Msg) : (s.send m).th = s.th := rfl
@[simp] theorem State.send_tray (s : State) (m : Msg) : (s.send m).tray = s.tray := rfl
@[simp] theorem State.send_pins (s : State) (m : Msg) : (s.send m).pins = s.pins := rfl
@[simp] theorem State.send_br (s : State) (m : Msg) : (s.send m).br = s.br := rfl
@[simp] theorem State.send_fwbuf (s : State) (m : Msg) : (s.send m).fwbuf = s.fwbuf := rfl
@[simp] theorem State.send_sec (s : State) (m : Msg) : (s.send m).sec = s.sec := rfl
@[simp] theorem State.send_logMark (s : State) (m : Msg) : (s.send m).logMark = s.logMark := rfl

@[simp] theorem State.take_pending (s : State) (m : Msg) : (s.take m).pending = s.pending := rfl
@[simp] theorem State.take_nonce (s : State) (m : Msg) : (s.take m).nonce = s.nonce := rfl
@[simp] theorem State.take_msgs (s : State) (m : Msg) : (s.take m).msgs = s.msgs.erase m := rfl
@[simp] theorem State.take_time (s : State) (m : Msg) : (s.take m).time = s.time := rfl
@[simp] theorem State.take_drift (s : State) (m : Msg) : (s.take m).drift = s.drift := rfl
@[simp] theorem State.take_fld (s : State) (m : Msg) : (s.take m).fld = s.fld := rfl
@[simp] theorem State.take_bank (s : State) (m : Msg) : (s.take m).bank = s.bank := rfl
@[simp] theorem State.take_mem (s : State) (m : Msg) : (s.take m).mem = s.mem := rfl
@[simp] theorem State.take_failing (s : State) (m : Msg) : (s.take m).failing = s.failing := rfl
@[simp] theorem State.take_lastDeny (s : State) (m : Msg) : (s.take m).lastDeny = s.lastDeny := rfl
@[simp] theorem State.take_cmem (s : State) (m : Msg) : (s.take m).cmem = s.cmem := rfl
@[simp] theorem State.take_ework (s : State) (m : Msg) : (s.take m).ework = s.ework := rfl
@[simp] theorem State.take_dmem (s : State) (m : Msg) : (s.take m).dmem = s.dmem := rfl
@[simp] theorem State.take_parBad (s : State) (m : Msg) : (s.take m).parBad = s.parBad := rfl
@[simp] theorem State.take_dmReread (s : State) (m : Msg) : (s.take m).dmReread = s.dmReread := rfl
@[simp] theorem State.take_regionPend (s : State) (m : Msg) : (s.take m).regionPend = s.regionPend := rfl
@[simp] theorem State.take_cores (s : State) (m : Msg) : (s.take m).cores = s.cores := rfl
@[simp] theorem State.take_waiters (s : State) (m : Msg) : (s.take m).waiters = s.waiters := rfl
@[simp] theorem State.take_xlt (s : State) (m : Msg) : (s.take m).xlt = s.xlt := rfl
@[simp] theorem State.take_cache (s : State) (m : Msg) : (s.take m).cache = s.cache := rfl
@[simp] theorem State.take_plru (s : State) (m : Msg) : (s.take m).plru = s.plru := rfl
@[simp] theorem State.take_pfs (s : State) (m : Msg) : (s.take m).pfs = s.pfs := rfl
@[simp] theorem State.take_stkRecs (s : State) (m : Msg) : (s.take m).stkRecs = s.stkRecs := rfl
@[simp] theorem State.take_outst (s : State) (m : Msg) : (s.take m).outst = s.outst := rfl
@[simp] theorem State.take_tagNext (s : State) (m : Msg) : (s.take m).tagNext = s.tagNext := rfl
@[simp] theorem State.take_accOut (s : State) (m : Msg) : (s.take m).accOut = s.accOut := rfl
@[simp] theorem State.take_mcGot (s : State) (m : Msg) : (s.take m).mcGot = s.mcGot := rfl
@[simp] theorem State.take_mcBad (s : State) (m : Msg) : (s.take m).mcBad = s.mcBad := rfl
@[simp] theorem State.take_mcFrom (s : State) (m : Msg) : (s.take m).mcFrom = s.mcFrom := rfl
@[simp] theorem State.take_holds (s : State) (m : Msg) : (s.take m).holds = s.holds := rfl
@[simp] theorem State.take_eaUsed (s : State) (m : Msg) : (s.take m).eaUsed = s.eaUsed := rfl
@[simp] theorem State.take_active (s : State) (m : Msg) : (s.take m).active = s.active := rfl
@[simp] theorem State.take_eqs (s : State) (m : Msg) : (s.take m).eqs = s.eqs := rfl
@[simp] theorem State.take_msixTab (s : State) (m : Msg) : (s.take m).msixTab = s.msixTab := rfl
@[simp] theorem State.take_msixPend (s : State) (m : Msg) : (s.take m).msixPend = s.msixPend := rfl
@[simp] theorem State.take_ramps (s : State) (m : Msg) : (s.take m).ramps = s.ramps := rfl
@[simp] theorem State.take_ctxs (s : State) (m : Msg) : (s.take m).ctxs = s.ctxs := rfl
@[simp] theorem State.take_queues (s : State) (m : Msg) : (s.take m).queues = s.queues := rfl
@[simp] theorem State.take_rr (s : State) (m : Msg) : (s.take m).rr = s.rr := rfl
@[simp] theorem State.take_held (s : State) (m : Msg) : (s.take m).held = s.held := rfl
@[simp] theorem State.take_flists (s : State) (m : Msg) : (s.take m).flists = s.flists := rfl
@[simp] theorem State.take_lifted (s : State) (m : Msg) : (s.take m).lifted = s.lifted := rfl
@[simp] theorem State.take_drains (s : State) (m : Msg) : (s.take m).drains = s.drains := rfl
@[simp] theorem State.take_rstRun (s : State) (m : Msg) : (s.take m).rstRun = s.rstRun := rfl
@[simp] theorem State.take_admq (s : State) (m : Msg) : (s.take m).admq = s.admq := rfl
@[simp] theorem State.take_substCore (s : State) (m : Msg) : (s.take m).substCore = s.substCore := rfl
@[simp] theorem State.take_substSite (s : State) (m : Msg) : (s.take m).substSite = s.substSite := rfl
@[simp] theorem State.take_substStack (s : State) (m : Msg) : (s.take m).substStack = s.substStack := rfl
@[simp] theorem State.take_rot (s : State) (m : Msg) : (s.take m).rot = s.rot := rfl
@[simp] theorem State.take_arrived (s : State) (m : Msg) : (s.take m).arrived = s.arrived := rfl
@[simp] theorem State.take_crds (s : State) (m : Msg) : (s.take m).crds = s.crds := rfl
@[simp] theorem State.take_crdWait (s : State) (m : Msg) : (s.take m).crdWait = s.crdWait := rfl
@[simp] theorem State.take_hostReqs (s : State) (m : Msg) : (s.take m).hostReqs = s.hostReqs := rfl
@[simp] theorem State.take_hostNext (s : State) (m : Msg) : (s.take m).hostNext = s.hostNext := rfl
@[simp] theorem State.take_ctlTag (s : State) (m : Msg) : (s.take m).ctlTag = s.ctlTag := rfl
@[simp] theorem State.take_bells (s : State) (m : Msg) : (s.take m).bells = s.bells := rfl
@[simp] theorem State.take_bellsOut (s : State) (m : Msg) : (s.take m).bellsOut = s.bellsOut := rfl
@[simp] theorem State.take_aer (s : State) (m : Msg) : (s.take m).aer = s.aer := rfl
@[simp] theorem State.take_hdm (s : State) (m : Msg) : (s.take m).hdm = s.hdm := rfl
@[simp] theorem State.take_d3 (s : State) (m : Msg) : (s.take m).d3 = s.d3 := rfl
@[simp] theorem State.take_cfg (s : State) (m : Msg) : (s.take m).cfg = s.cfg := rfl
@[simp] theorem State.take_doe (s : State) (m : Msg) : (s.take m).doe = s.doe := rfl
@[simp] theorem State.take_store (s : State) (m : Msg) : (s.take m).store = s.store := rfl
@[simp] theorem State.take_omap (s : State) (m : Msg) : (s.take m).omap = s.omap := rfl
@[simp] theorem State.take_jpend (s : State) (m : Msg) : (s.take m).jpend = s.jpend := rfl
@[simp] theorem State.take_jopen (s : State) (m : Msg) : (s.take m).jopen = s.jopen := rfl
@[simp] theorem State.take_jwant (s : State) (m : Msg) : (s.take m).jwant = s.jwant := rfl
@[simp] theorem State.take_jseq (s : State) (m : Msg) : (s.take m).jseq = s.jseq := rfl
@[simp] theorem State.take_jhead (s : State) (m : Msg) : (s.take m).jhead = s.jhead := rfl
@[simp] theorem State.take_jtail (s : State) (m : Msg) : (s.take m).jtail = s.jtail := rfl
@[simp] theorem State.take_jprev (s : State) (m : Msg) : (s.take m).jprev = s.jprev := rfl
@[simp] theorem State.take_jimg (s : State) (m : Msg) : (s.take m).jimg = s.jimg := rfl
@[simp] theorem State.take_jtold (s : State) (m : Msg) : (s.take m).jtold = s.jtold := rfl
@[simp] theorem State.take_jgen (s : State) (m : Msg) : (s.take m).jgen = s.jgen := rfl
@[simp] theorem State.take_jbad (s : State) (m : Msg) : (s.take m).jbad = s.jbad := rfl
@[simp] theorem State.take_ends (s : State) (m : Msg) : (s.take m).ends = s.ends := rfl
@[simp] theorem State.take_lanes (s : State) (m : Msg) : (s.take m).lanes = s.lanes := rfl
@[simp] theorem State.take_guestTold (s : State) (m : Msg) : (s.take m).guestTold = s.guestTold := rfl
@[simp] theorem State.take_conns (s : State) (m : Msg) : (s.take m).conns = s.conns := rfl
@[simp] theorem State.take_miss (s : State) (m : Msg) : (s.take m).miss = s.miss := rfl
@[simp] theorem State.take_xchans (s : State) (m : Msg) : (s.take m).xchans = s.xchans := rfl
@[simp] theorem State.take_grove (s : State) (m : Msg) : (s.take m).grove = s.grove := rfl
@[simp] theorem State.take_ticks (s : State) (m : Msg) : (s.take m).ticks = s.ticks := rfl
@[simp] theorem State.take_pllLost (s : State) (m : Msg) : (s.take m).pllLost = s.pllLost := rfl
@[simp] theorem State.take_ladder (s : State) (m : Msg) : (s.take m).ladder = s.ladder := rfl
@[simp] theorem State.take_ep (s : State) (m : Msg) : (s.take m).ep = s.ep := rfl
@[simp] theorem State.take_caps (s : State) (m : Msg) : (s.take m).caps = s.caps := rfl
@[simp] theorem State.take_shed (s : State) (m : Msg) : (s.take m).shed = s.shed := rfl
@[simp] theorem State.take_offSites (s : State) (m : Msg) : (s.take m).offSites = s.offSites := rfl
@[simp] theorem State.take_cracked (s : State) (m : Msg) : (s.take m).cracked = s.cracked := rfl
@[simp] theorem State.take_ppLow (s : State) (m : Msg) : (s.take m).ppLow = s.ppLow := rfl
@[simp] theorem State.take_ppOver (s : State) (m : Msg) : (s.take m).ppOver = s.ppOver := rfl
@[simp] theorem State.take_ppFell (s : State) (m : Msg) : (s.take m).ppFell = s.ppFell := rfl
@[simp] theorem State.take_ppRose (s : State) (m : Msg) : (s.take m).ppRose = s.ppRose := rfl
@[simp] theorem State.take_ppMilli (s : State) (m : Msg) : (s.take m).ppMilli = s.ppMilli := rfl
@[simp] theorem State.take_gf (s : State) (m : Msg) : (s.take m).gf = s.gf := rfl
@[simp] theorem State.take_regrow (s : State) (m : Msg) : (s.take m).regrow = s.regrow := rfl
@[simp] theorem State.take_rp (s : State) (m : Msg) : (s.take m).rp = s.rp := rfl
@[simp] theorem State.take_elog (s : State) (m : Msg) : (s.take m).elog = s.elog := rfl
@[simp] theorem State.take_intakeUntil (s : State) (m : Msg) : (s.take m).intakeUntil = s.intakeUntil := rfl
@[simp] theorem State.take_intakeLost (s : State) (m : Msg) : (s.take m).intakeLost = s.intakeLost := rfl
@[simp] theorem State.take_uart (s : State) (m : Msg) : (s.take m).uart = s.uart := rfl
@[simp] theorem State.take_uartLost (s : State) (m : Msg) : (s.take m).uartLost = s.uartLost := rfl
@[simp] theorem State.take_raEff (s : State) (m : Msg) : (s.take m).raEff = s.raEff := rfl
@[simp] theorem State.take_fatal (s : State) (m : Msg) : (s.take m).fatal = s.fatal := rfl
@[simp] theorem State.take_ptp (s : State) (m : Msg) : (s.take m).ptp = s.ptp := rfl
@[simp] theorem State.take_th (s : State) (m : Msg) : (s.take m).th = s.th := rfl
@[simp] theorem State.take_tray (s : State) (m : Msg) : (s.take m).tray = s.tray := rfl
@[simp] theorem State.take_pins (s : State) (m : Msg) : (s.take m).pins = s.pins := rfl
@[simp] theorem State.take_br (s : State) (m : Msg) : (s.take m).br = s.br := rfl
@[simp] theorem State.take_fwbuf (s : State) (m : Msg) : (s.take m).fwbuf = s.fwbuf := rfl
@[simp] theorem State.take_sec (s : State) (m : Msg) : (s.take m).sec = s.sec := rfl
@[simp] theorem State.take_logMark (s : State) (m : Msg) : (s.take m).logMark = s.logMark := rfl

@[simp] theorem State.setCore_pending (s : State) (c : CoreId) (r : CoreSt) : (s.setCore c r).pending = s.pending := rfl
@[simp] theorem State.setCore_nonce (s : State) (c : CoreId) (r : CoreSt) : (s.setCore c r).nonce = s.nonce := rfl
@[simp] theorem State.setCore_msgs (s : State) (c : CoreId) (r : CoreSt) : (s.setCore c r).msgs = s.msgs := rfl
@[simp] theorem State.setCore_time (s : State) (c : CoreId) (r : CoreSt) : (s.setCore c r).time = s.time := rfl
@[simp] theorem State.setCore_drift (s : State) (c : CoreId) (r : CoreSt) : (s.setCore c r).drift = s.drift := rfl
@[simp] theorem State.setCore_fld (s : State) (c : CoreId) (r : CoreSt) : (s.setCore c r).fld = s.fld := rfl
@[simp] theorem State.setCore_bank (s : State) (c : CoreId) (r : CoreSt) : (s.setCore c r).bank = s.bank := rfl
@[simp] theorem State.setCore_mem (s : State) (c : CoreId) (r : CoreSt) : (s.setCore c r).mem = s.mem := rfl
@[simp] theorem State.setCore_failing (s : State) (c : CoreId) (r : CoreSt) : (s.setCore c r).failing = s.failing := rfl
@[simp] theorem State.setCore_lastDeny (s : State) (c : CoreId) (r : CoreSt) : (s.setCore c r).lastDeny = s.lastDeny := rfl
@[simp] theorem State.setCore_cmem (s : State) (c : CoreId) (r : CoreSt) : (s.setCore c r).cmem = s.cmem := rfl
@[simp] theorem State.setCore_ework (s : State) (c : CoreId) (r : CoreSt) : (s.setCore c r).ework = s.ework := rfl
@[simp] theorem State.setCore_dmem (s : State) (c : CoreId) (r : CoreSt) : (s.setCore c r).dmem = s.dmem := rfl
@[simp] theorem State.setCore_parBad (s : State) (c : CoreId) (r : CoreSt) : (s.setCore c r).parBad = s.parBad := rfl
@[simp] theorem State.setCore_dmReread (s : State) (c : CoreId) (r : CoreSt) : (s.setCore c r).dmReread = s.dmReread := rfl
@[simp] theorem State.setCore_regionPend (s : State) (c : CoreId) (r : CoreSt) : (s.setCore c r).regionPend = s.regionPend := rfl
@[simp] theorem State.setCore_cores (s : State) (c : CoreId) (r : CoreSt) : (s.setCore c r).cores = tset coreReset s.cores [c.site, c.slot] r := rfl
@[simp] theorem State.setCore_waiters (s : State) (c : CoreId) (r : CoreSt) : (s.setCore c r).waiters = s.waiters := rfl
@[simp] theorem State.setCore_xlt (s : State) (c : CoreId) (r : CoreSt) : (s.setCore c r).xlt = s.xlt := rfl
@[simp] theorem State.setCore_cache (s : State) (c : CoreId) (r : CoreSt) : (s.setCore c r).cache = s.cache := rfl
@[simp] theorem State.setCore_plru (s : State) (c : CoreId) (r : CoreSt) : (s.setCore c r).plru = s.plru := rfl
@[simp] theorem State.setCore_pfs (s : State) (c : CoreId) (r : CoreSt) : (s.setCore c r).pfs = s.pfs := rfl
@[simp] theorem State.setCore_stkRecs (s : State) (c : CoreId) (r : CoreSt) : (s.setCore c r).stkRecs = s.stkRecs := rfl
@[simp] theorem State.setCore_outst (s : State) (c : CoreId) (r : CoreSt) : (s.setCore c r).outst = s.outst := rfl
@[simp] theorem State.setCore_tagNext (s : State) (c : CoreId) (r : CoreSt) : (s.setCore c r).tagNext = s.tagNext := rfl
@[simp] theorem State.setCore_accOut (s : State) (c : CoreId) (r : CoreSt) : (s.setCore c r).accOut = s.accOut := rfl
@[simp] theorem State.setCore_mcGot (s : State) (c : CoreId) (r : CoreSt) : (s.setCore c r).mcGot = s.mcGot := rfl
@[simp] theorem State.setCore_mcBad (s : State) (c : CoreId) (r : CoreSt) : (s.setCore c r).mcBad = s.mcBad := rfl
@[simp] theorem State.setCore_mcFrom (s : State) (c : CoreId) (r : CoreSt) : (s.setCore c r).mcFrom = s.mcFrom := rfl
@[simp] theorem State.setCore_holds (s : State) (c : CoreId) (r : CoreSt) : (s.setCore c r).holds = s.holds := rfl
@[simp] theorem State.setCore_eaUsed (s : State) (c : CoreId) (r : CoreSt) : (s.setCore c r).eaUsed = s.eaUsed := rfl
@[simp] theorem State.setCore_active (s : State) (c : CoreId) (r : CoreSt) : (s.setCore c r).active = s.active := rfl
@[simp] theorem State.setCore_eqs (s : State) (c : CoreId) (r : CoreSt) : (s.setCore c r).eqs = s.eqs := rfl
@[simp] theorem State.setCore_msixTab (s : State) (c : CoreId) (r : CoreSt) : (s.setCore c r).msixTab = s.msixTab := rfl
@[simp] theorem State.setCore_msixPend (s : State) (c : CoreId) (r : CoreSt) : (s.setCore c r).msixPend = s.msixPend := rfl
@[simp] theorem State.setCore_ramps (s : State) (c : CoreId) (r : CoreSt) : (s.setCore c r).ramps = s.ramps := rfl
@[simp] theorem State.setCore_ctxs (s : State) (c : CoreId) (r : CoreSt) : (s.setCore c r).ctxs = s.ctxs := rfl
@[simp] theorem State.setCore_queues (s : State) (c : CoreId) (r : CoreSt) : (s.setCore c r).queues = s.queues := rfl
@[simp] theorem State.setCore_rr (s : State) (c : CoreId) (r : CoreSt) : (s.setCore c r).rr = s.rr := rfl
@[simp] theorem State.setCore_held (s : State) (c : CoreId) (r : CoreSt) : (s.setCore c r).held = s.held := rfl
@[simp] theorem State.setCore_flists (s : State) (c : CoreId) (r : CoreSt) : (s.setCore c r).flists = s.flists := rfl
@[simp] theorem State.setCore_lifted (s : State) (c : CoreId) (r : CoreSt) : (s.setCore c r).lifted = s.lifted := rfl
@[simp] theorem State.setCore_drains (s : State) (c : CoreId) (r : CoreSt) : (s.setCore c r).drains = s.drains := rfl
@[simp] theorem State.setCore_rstRun (s : State) (c : CoreId) (r : CoreSt) : (s.setCore c r).rstRun = s.rstRun := rfl
@[simp] theorem State.setCore_admq (s : State) (c : CoreId) (r : CoreSt) : (s.setCore c r).admq = s.admq := rfl
@[simp] theorem State.setCore_substCore (s : State) (c : CoreId) (r : CoreSt) : (s.setCore c r).substCore = s.substCore := rfl
@[simp] theorem State.setCore_substSite (s : State) (c : CoreId) (r : CoreSt) : (s.setCore c r).substSite = s.substSite := rfl
@[simp] theorem State.setCore_substStack (s : State) (c : CoreId) (r : CoreSt) : (s.setCore c r).substStack = s.substStack := rfl
@[simp] theorem State.setCore_rot (s : State) (c : CoreId) (r : CoreSt) : (s.setCore c r).rot = s.rot := rfl
@[simp] theorem State.setCore_arrived (s : State) (c : CoreId) (r : CoreSt) : (s.setCore c r).arrived = s.arrived := rfl
@[simp] theorem State.setCore_crds (s : State) (c : CoreId) (r : CoreSt) : (s.setCore c r).crds = s.crds := rfl
@[simp] theorem State.setCore_crdWait (s : State) (c : CoreId) (r : CoreSt) : (s.setCore c r).crdWait = s.crdWait := rfl
@[simp] theorem State.setCore_hostReqs (s : State) (c : CoreId) (r : CoreSt) : (s.setCore c r).hostReqs = s.hostReqs := rfl
@[simp] theorem State.setCore_hostNext (s : State) (c : CoreId) (r : CoreSt) : (s.setCore c r).hostNext = s.hostNext := rfl
@[simp] theorem State.setCore_ctlTag (s : State) (c : CoreId) (r : CoreSt) : (s.setCore c r).ctlTag = s.ctlTag := rfl
@[simp] theorem State.setCore_bells (s : State) (c : CoreId) (r : CoreSt) : (s.setCore c r).bells = s.bells := rfl
@[simp] theorem State.setCore_bellsOut (s : State) (c : CoreId) (r : CoreSt) : (s.setCore c r).bellsOut = s.bellsOut := rfl
@[simp] theorem State.setCore_aer (s : State) (c : CoreId) (r : CoreSt) : (s.setCore c r).aer = s.aer := rfl
@[simp] theorem State.setCore_hdm (s : State) (c : CoreId) (r : CoreSt) : (s.setCore c r).hdm = s.hdm := rfl
@[simp] theorem State.setCore_d3 (s : State) (c : CoreId) (r : CoreSt) : (s.setCore c r).d3 = s.d3 := rfl
@[simp] theorem State.setCore_cfg (s : State) (c : CoreId) (r : CoreSt) : (s.setCore c r).cfg = s.cfg := rfl
@[simp] theorem State.setCore_doe (s : State) (c : CoreId) (r : CoreSt) : (s.setCore c r).doe = s.doe := rfl
@[simp] theorem State.setCore_store (s : State) (c : CoreId) (r : CoreSt) : (s.setCore c r).store = s.store := rfl
@[simp] theorem State.setCore_omap (s : State) (c : CoreId) (r : CoreSt) : (s.setCore c r).omap = s.omap := rfl
@[simp] theorem State.setCore_jpend (s : State) (c : CoreId) (r : CoreSt) : (s.setCore c r).jpend = s.jpend := rfl
@[simp] theorem State.setCore_jopen (s : State) (c : CoreId) (r : CoreSt) : (s.setCore c r).jopen = s.jopen := rfl
@[simp] theorem State.setCore_jwant (s : State) (c : CoreId) (r : CoreSt) : (s.setCore c r).jwant = s.jwant := rfl
@[simp] theorem State.setCore_jseq (s : State) (c : CoreId) (r : CoreSt) : (s.setCore c r).jseq = s.jseq := rfl
@[simp] theorem State.setCore_jhead (s : State) (c : CoreId) (r : CoreSt) : (s.setCore c r).jhead = s.jhead := rfl
@[simp] theorem State.setCore_jtail (s : State) (c : CoreId) (r : CoreSt) : (s.setCore c r).jtail = s.jtail := rfl
@[simp] theorem State.setCore_jprev (s : State) (c : CoreId) (r : CoreSt) : (s.setCore c r).jprev = s.jprev := rfl
@[simp] theorem State.setCore_jimg (s : State) (c : CoreId) (r : CoreSt) : (s.setCore c r).jimg = s.jimg := rfl
@[simp] theorem State.setCore_jtold (s : State) (c : CoreId) (r : CoreSt) : (s.setCore c r).jtold = s.jtold := rfl
@[simp] theorem State.setCore_jgen (s : State) (c : CoreId) (r : CoreSt) : (s.setCore c r).jgen = s.jgen := rfl
@[simp] theorem State.setCore_jbad (s : State) (c : CoreId) (r : CoreSt) : (s.setCore c r).jbad = s.jbad := rfl
@[simp] theorem State.setCore_ends (s : State) (c : CoreId) (r : CoreSt) : (s.setCore c r).ends = s.ends := rfl
@[simp] theorem State.setCore_lanes (s : State) (c : CoreId) (r : CoreSt) : (s.setCore c r).lanes = s.lanes := rfl
@[simp] theorem State.setCore_guestTold (s : State) (c : CoreId) (r : CoreSt) : (s.setCore c r).guestTold = s.guestTold := rfl
@[simp] theorem State.setCore_conns (s : State) (c : CoreId) (r : CoreSt) : (s.setCore c r).conns = s.conns := rfl
@[simp] theorem State.setCore_miss (s : State) (c : CoreId) (r : CoreSt) : (s.setCore c r).miss = s.miss := rfl
@[simp] theorem State.setCore_xchans (s : State) (c : CoreId) (r : CoreSt) : (s.setCore c r).xchans = s.xchans := rfl
@[simp] theorem State.setCore_grove (s : State) (c : CoreId) (r : CoreSt) : (s.setCore c r).grove = s.grove := rfl
@[simp] theorem State.setCore_ticks (s : State) (c : CoreId) (r : CoreSt) : (s.setCore c r).ticks = s.ticks := rfl
@[simp] theorem State.setCore_pllLost (s : State) (c : CoreId) (r : CoreSt) : (s.setCore c r).pllLost = s.pllLost := rfl
@[simp] theorem State.setCore_ladder (s : State) (c : CoreId) (r : CoreSt) : (s.setCore c r).ladder = s.ladder := rfl
@[simp] theorem State.setCore_ep (s : State) (c : CoreId) (r : CoreSt) : (s.setCore c r).ep = s.ep := rfl
@[simp] theorem State.setCore_caps (s : State) (c : CoreId) (r : CoreSt) : (s.setCore c r).caps = s.caps := rfl
@[simp] theorem State.setCore_shed (s : State) (c : CoreId) (r : CoreSt) : (s.setCore c r).shed = s.shed := rfl
@[simp] theorem State.setCore_offSites (s : State) (c : CoreId) (r : CoreSt) : (s.setCore c r).offSites = s.offSites := rfl
@[simp] theorem State.setCore_cracked (s : State) (c : CoreId) (r : CoreSt) : (s.setCore c r).cracked = s.cracked := rfl
@[simp] theorem State.setCore_ppLow (s : State) (c : CoreId) (r : CoreSt) : (s.setCore c r).ppLow = s.ppLow := rfl
@[simp] theorem State.setCore_ppOver (s : State) (c : CoreId) (r : CoreSt) : (s.setCore c r).ppOver = s.ppOver := rfl
@[simp] theorem State.setCore_ppFell (s : State) (c : CoreId) (r : CoreSt) : (s.setCore c r).ppFell = s.ppFell := rfl
@[simp] theorem State.setCore_ppRose (s : State) (c : CoreId) (r : CoreSt) : (s.setCore c r).ppRose = s.ppRose := rfl
@[simp] theorem State.setCore_ppMilli (s : State) (c : CoreId) (r : CoreSt) : (s.setCore c r).ppMilli = s.ppMilli := rfl
@[simp] theorem State.setCore_gf (s : State) (c : CoreId) (r : CoreSt) : (s.setCore c r).gf = s.gf := rfl
@[simp] theorem State.setCore_regrow (s : State) (c : CoreId) (r : CoreSt) : (s.setCore c r).regrow = s.regrow := rfl
@[simp] theorem State.setCore_rp (s : State) (c : CoreId) (r : CoreSt) : (s.setCore c r).rp = s.rp := rfl
@[simp] theorem State.setCore_elog (s : State) (c : CoreId) (r : CoreSt) : (s.setCore c r).elog = s.elog := rfl
@[simp] theorem State.setCore_intakeUntil (s : State) (c : CoreId) (r : CoreSt) : (s.setCore c r).intakeUntil = s.intakeUntil := rfl
@[simp] theorem State.setCore_intakeLost (s : State) (c : CoreId) (r : CoreSt) : (s.setCore c r).intakeLost = s.intakeLost := rfl
@[simp] theorem State.setCore_uart (s : State) (c : CoreId) (r : CoreSt) : (s.setCore c r).uart = s.uart := rfl
@[simp] theorem State.setCore_uartLost (s : State) (c : CoreId) (r : CoreSt) : (s.setCore c r).uartLost = s.uartLost := rfl
@[simp] theorem State.setCore_raEff (s : State) (c : CoreId) (r : CoreSt) : (s.setCore c r).raEff = s.raEff := rfl
@[simp] theorem State.setCore_fatal (s : State) (c : CoreId) (r : CoreSt) : (s.setCore c r).fatal = s.fatal := rfl
@[simp] theorem State.setCore_ptp (s : State) (c : CoreId) (r : CoreSt) : (s.setCore c r).ptp = s.ptp := rfl
@[simp] theorem State.setCore_th (s : State) (c : CoreId) (r : CoreSt) : (s.setCore c r).th = s.th := rfl
@[simp] theorem State.setCore_tray (s : State) (c : CoreId) (r : CoreSt) : (s.setCore c r).tray = s.tray := rfl
@[simp] theorem State.setCore_pins (s : State) (c : CoreId) (r : CoreSt) : (s.setCore c r).pins = s.pins := rfl
@[simp] theorem State.setCore_br (s : State) (c : CoreId) (r : CoreSt) : (s.setCore c r).br = s.br := rfl
@[simp] theorem State.setCore_fwbuf (s : State) (c : CoreId) (r : CoreSt) : (s.setCore c r).fwbuf = s.fwbuf := rfl
@[simp] theorem State.setCore_sec (s : State) (c : CoreId) (r : CoreSt) : (s.setCore c r).sec = s.sec := rfl
@[simp] theorem State.setCore_logMark (s : State) (c : CoreId) (r : CoreSt) : (s.setCore c r).logMark = s.logMark := rfl

@[simp] theorem State.settle_pending (s : State) (l : List Instr) : (s.settle l).pending = l := rfl
@[simp] theorem State.settle_nonce (s : State) (l : List Instr) : (s.settle l).nonce = s.nonce := rfl
@[simp] theorem State.settle_msgs (s : State) (l : List Instr) : (s.settle l).msgs = s.msgs := rfl
@[simp] theorem State.settle_time (s : State) (l : List Instr) : (s.settle l).time = s.time % 2 ^ 64 := rfl
@[simp] theorem State.settle_drift (s : State) (l : List Instr) : (s.settle l).drift = s.drift := rfl
@[simp] theorem State.settle_fld (s : State) (l : List Instr) : (s.settle l).fld = s.fld := rfl
@[simp] theorem State.settle_bank (s : State) (l : List Instr) : (s.settle l).bank = s.bank := rfl
@[simp] theorem State.settle_mem (s : State) (l : List Instr) : (s.settle l).mem = tidy s.mem := rfl
@[simp] theorem State.settle_failing (s : State) (l : List Instr) : (s.settle l).failing = s.failing := rfl
@[simp] theorem State.settle_lastDeny (s : State) (l : List Instr) : (s.settle l).lastDeny = s.lastDeny := rfl
@[simp] theorem State.settle_cmem (s : State) (l : List Instr) : (s.settle l).cmem = tidy s.cmem := rfl
@[simp] theorem State.settle_ework (s : State) (l : List Instr) : (s.settle l).ework = s.ework := rfl
@[simp] theorem State.settle_dmem (s : State) (l : List Instr) : (s.settle l).dmem = tidy s.dmem := rfl
@[simp] theorem State.settle_parBad (s : State) (l : List Instr) : (s.settle l).parBad = s.parBad := rfl
@[simp] theorem State.settle_dmReread (s : State) (l : List Instr) : (s.settle l).dmReread = s.dmReread := rfl
@[simp] theorem State.settle_regionPend (s : State) (l : List Instr) : (s.settle l).regionPend = s.regionPend := rfl
@[simp] theorem State.settle_cores (s : State) (l : List Instr) : (s.settle l).cores = s.cores := rfl
@[simp] theorem State.settle_waiters (s : State) (l : List Instr) : (s.settle l).waiters = s.waiters := rfl
@[simp] theorem State.settle_xlt (s : State) (l : List Instr) : (s.settle l).xlt = s.xlt := rfl
@[simp] theorem State.settle_cache (s : State) (l : List Instr) : (s.settle l).cache = s.cache := rfl
@[simp] theorem State.settle_plru (s : State) (l : List Instr) : (s.settle l).plru = s.plru := rfl
@[simp] theorem State.settle_pfs (s : State) (l : List Instr) : (s.settle l).pfs = s.pfs := rfl
@[simp] theorem State.settle_stkRecs (s : State) (l : List Instr) : (s.settle l).stkRecs = s.stkRecs := rfl
@[simp] theorem State.settle_outst (s : State) (l : List Instr) : (s.settle l).outst = s.outst := rfl
@[simp] theorem State.settle_tagNext (s : State) (l : List Instr) : (s.settle l).tagNext = s.tagNext := rfl
@[simp] theorem State.settle_accOut (s : State) (l : List Instr) : (s.settle l).accOut = s.accOut := rfl
@[simp] theorem State.settle_mcGot (s : State) (l : List Instr) : (s.settle l).mcGot = s.mcGot := rfl
@[simp] theorem State.settle_mcBad (s : State) (l : List Instr) : (s.settle l).mcBad = s.mcBad := rfl
@[simp] theorem State.settle_mcFrom (s : State) (l : List Instr) : (s.settle l).mcFrom = s.mcFrom := rfl
@[simp] theorem State.settle_holds (s : State) (l : List Instr) : (s.settle l).holds = s.holds := rfl
@[simp] theorem State.settle_eaUsed (s : State) (l : List Instr) : (s.settle l).eaUsed = s.eaUsed := rfl
@[simp] theorem State.settle_active (s : State) (l : List Instr) : (s.settle l).active = s.active := rfl
@[simp] theorem State.settle_eqs (s : State) (l : List Instr) : (s.settle l).eqs = s.eqs := rfl
@[simp] theorem State.settle_msixTab (s : State) (l : List Instr) : (s.settle l).msixTab = tidy s.msixTab := rfl
@[simp] theorem State.settle_msixPend (s : State) (l : List Instr) : (s.settle l).msixPend = s.msixPend := rfl
@[simp] theorem State.settle_ramps (s : State) (l : List Instr) : (s.settle l).ramps = s.ramps := rfl
@[simp] theorem State.settle_ctxs (s : State) (l : List Instr) : (s.settle l).ctxs = s.ctxs := rfl
@[simp] theorem State.settle_queues (s : State) (l : List Instr) : (s.settle l).queues = s.queues := rfl
@[simp] theorem State.settle_rr (s : State) (l : List Instr) : (s.settle l).rr = s.rr := rfl
@[simp] theorem State.settle_held (s : State) (l : List Instr) : (s.settle l).held = s.held := rfl
@[simp] theorem State.settle_flists (s : State) (l : List Instr) : (s.settle l).flists = s.flists := rfl
@[simp] theorem State.settle_lifted (s : State) (l : List Instr) : (s.settle l).lifted = s.lifted := rfl
@[simp] theorem State.settle_drains (s : State) (l : List Instr) : (s.settle l).drains = s.drains := rfl
@[simp] theorem State.settle_rstRun (s : State) (l : List Instr) : (s.settle l).rstRun = s.rstRun := rfl
@[simp] theorem State.settle_admq (s : State) (l : List Instr) : (s.settle l).admq = s.admq := rfl
@[simp] theorem State.settle_substCore (s : State) (l : List Instr) : (s.settle l).substCore = s.substCore := rfl
@[simp] theorem State.settle_substSite (s : State) (l : List Instr) : (s.settle l).substSite = s.substSite := rfl
@[simp] theorem State.settle_substStack (s : State) (l : List Instr) : (s.settle l).substStack = s.substStack := rfl
@[simp] theorem State.settle_rot (s : State) (l : List Instr) : (s.settle l).rot = s.rot := rfl
@[simp] theorem State.settle_arrived (s : State) (l : List Instr) : (s.settle l).arrived = s.arrived := rfl
@[simp] theorem State.settle_crds (s : State) (l : List Instr) : (s.settle l).crds = s.crds := rfl
@[simp] theorem State.settle_crdWait (s : State) (l : List Instr) : (s.settle l).crdWait = s.crdWait := rfl
@[simp] theorem State.settle_hostReqs (s : State) (l : List Instr) : (s.settle l).hostReqs = s.hostReqs := rfl
@[simp] theorem State.settle_hostNext (s : State) (l : List Instr) : (s.settle l).hostNext = s.hostNext := rfl
@[simp] theorem State.settle_ctlTag (s : State) (l : List Instr) : (s.settle l).ctlTag = s.ctlTag := rfl
@[simp] theorem State.settle_bells (s : State) (l : List Instr) : (s.settle l).bells = s.bells := rfl
@[simp] theorem State.settle_bellsOut (s : State) (l : List Instr) : (s.settle l).bellsOut = s.bellsOut := rfl
@[simp] theorem State.settle_aer (s : State) (l : List Instr) : (s.settle l).aer = s.aer := rfl
@[simp] theorem State.settle_hdm (s : State) (l : List Instr) : (s.settle l).hdm = s.hdm := rfl
@[simp] theorem State.settle_d3 (s : State) (l : List Instr) : (s.settle l).d3 = s.d3 := rfl
@[simp] theorem State.settle_cfg (s : State) (l : List Instr) : (s.settle l).cfg = s.cfg := rfl
@[simp] theorem State.settle_doe (s : State) (l : List Instr) : (s.settle l).doe = s.doe := rfl
@[simp] theorem State.settle_store (s : State) (l : List Instr) : (s.settle l).store = tidy s.store := rfl
@[simp] theorem State.settle_omap (s : State) (l : List Instr) : (s.settle l).omap = s.omap := rfl
@[simp] theorem State.settle_jpend (s : State) (l : List Instr) : (s.settle l).jpend = s.jpend := rfl
@[simp] theorem State.settle_jopen (s : State) (l : List Instr) : (s.settle l).jopen = s.jopen := rfl
@[simp] theorem State.settle_jwant (s : State) (l : List Instr) : (s.settle l).jwant = s.jwant := rfl
@[simp] theorem State.settle_jseq (s : State) (l : List Instr) : (s.settle l).jseq = s.jseq := rfl
@[simp] theorem State.settle_jhead (s : State) (l : List Instr) : (s.settle l).jhead = s.jhead := rfl
@[simp] theorem State.settle_jtail (s : State) (l : List Instr) : (s.settle l).jtail = s.jtail := rfl
@[simp] theorem State.settle_jprev (s : State) (l : List Instr) : (s.settle l).jprev = s.jprev := rfl
@[simp] theorem State.settle_jimg (s : State) (l : List Instr) : (s.settle l).jimg = s.jimg := rfl
@[simp] theorem State.settle_jtold (s : State) (l : List Instr) : (s.settle l).jtold = s.jtold := rfl
@[simp] theorem State.settle_jgen (s : State) (l : List Instr) : (s.settle l).jgen = s.jgen := rfl
@[simp] theorem State.settle_jbad (s : State) (l : List Instr) : (s.settle l).jbad = s.jbad := rfl
@[simp] theorem State.settle_ends (s : State) (l : List Instr) : (s.settle l).ends = s.ends := rfl
@[simp] theorem State.settle_lanes (s : State) (l : List Instr) : (s.settle l).lanes = s.lanes := rfl
@[simp] theorem State.settle_guestTold (s : State) (l : List Instr) : (s.settle l).guestTold = s.guestTold := rfl
@[simp] theorem State.settle_conns (s : State) (l : List Instr) : (s.settle l).conns = s.conns := rfl
@[simp] theorem State.settle_miss (s : State) (l : List Instr) : (s.settle l).miss = s.miss := rfl
@[simp] theorem State.settle_xchans (s : State) (l : List Instr) : (s.settle l).xchans = s.xchans := rfl
@[simp] theorem State.settle_grove (s : State) (l : List Instr) : (s.settle l).grove = s.grove := rfl
@[simp] theorem State.settle_ticks (s : State) (l : List Instr) : (s.settle l).ticks = s.ticks := rfl
@[simp] theorem State.settle_pllLost (s : State) (l : List Instr) : (s.settle l).pllLost = s.pllLost := rfl
@[simp] theorem State.settle_ladder (s : State) (l : List Instr) : (s.settle l).ladder = s.ladder := rfl
@[simp] theorem State.settle_ep (s : State) (l : List Instr) : (s.settle l).ep = s.ep := rfl
@[simp] theorem State.settle_caps (s : State) (l : List Instr) : (s.settle l).caps = s.caps := rfl
@[simp] theorem State.settle_shed (s : State) (l : List Instr) : (s.settle l).shed = s.shed := rfl
@[simp] theorem State.settle_offSites (s : State) (l : List Instr) : (s.settle l).offSites = s.offSites := rfl
@[simp] theorem State.settle_cracked (s : State) (l : List Instr) : (s.settle l).cracked = s.cracked := rfl
@[simp] theorem State.settle_ppLow (s : State) (l : List Instr) : (s.settle l).ppLow = s.ppLow := rfl
@[simp] theorem State.settle_ppOver (s : State) (l : List Instr) : (s.settle l).ppOver = s.ppOver := rfl
@[simp] theorem State.settle_ppFell (s : State) (l : List Instr) : (s.settle l).ppFell = s.ppFell := rfl
@[simp] theorem State.settle_ppRose (s : State) (l : List Instr) : (s.settle l).ppRose = s.ppRose := rfl
@[simp] theorem State.settle_ppMilli (s : State) (l : List Instr) : (s.settle l).ppMilli = s.ppMilli := rfl
@[simp] theorem State.settle_gf (s : State) (l : List Instr) : (s.settle l).gf = s.gf := rfl
@[simp] theorem State.settle_regrow (s : State) (l : List Instr) : (s.settle l).regrow = s.regrow := rfl
@[simp] theorem State.settle_rp (s : State) (l : List Instr) : (s.settle l).rp = s.rp := rfl
@[simp] theorem State.settle_elog (s : State) (l : List Instr) : (s.settle l).elog = s.elog := rfl
@[simp] theorem State.settle_intakeUntil (s : State) (l : List Instr) : (s.settle l).intakeUntil = s.intakeUntil := rfl
@[simp] theorem State.settle_intakeLost (s : State) (l : List Instr) : (s.settle l).intakeLost = s.intakeLost := rfl
@[simp] theorem State.settle_uart (s : State) (l : List Instr) : (s.settle l).uart = s.uart := rfl
@[simp] theorem State.settle_uartLost (s : State) (l : List Instr) : (s.settle l).uartLost = s.uartLost := rfl
@[simp] theorem State.settle_raEff (s : State) (l : List Instr) : (s.settle l).raEff = s.raEff := rfl
@[simp] theorem State.settle_fatal (s : State) (l : List Instr) : (s.settle l).fatal = s.fatal := rfl
@[simp] theorem State.settle_ptp (s : State) (l : List Instr) : (s.settle l).ptp = s.ptp := rfl
@[simp] theorem State.settle_th (s : State) (l : List Instr) : (s.settle l).th = s.th := rfl
@[simp] theorem State.settle_tray (s : State) (l : List Instr) : (s.settle l).tray = s.tray := rfl
@[simp] theorem State.settle_pins (s : State) (l : List Instr) : (s.settle l).pins = s.pins := rfl
@[simp] theorem State.settle_br (s : State) (l : List Instr) : (s.settle l).br = s.br := rfl
@[simp] theorem State.settle_fwbuf (s : State) (l : List Instr) : (s.settle l).fwbuf = tidy s.fwbuf := rfl
@[simp] theorem State.settle_sec (s : State) (l : List Instr) : (s.settle l).sec = s.sec := rfl
@[simp] theorem State.settle_logMark (s : State) (l : List Instr) : (s.settle l).logMark = s.logMark := rfl

end Sys2Proof.Machine
end

