-- ==== Sys2Proof/Laws/Tab.lean ====
section
/-! SUPPORT. The laws of the sparse maps and memories: a read after a write, and the canonical form kept by every operation. -/

namespace Sys2Proof.Machine

variable {κ α : Type} [DecidableEq κ]

/-- A strict order of keys, any two different keys being in it one way. -/
structure Order (lt : κ → κ → Bool) : Prop where
  trans : ∀ {a b c}, lt a b = true → lt b c = true → lt a c = true
  total : ∀ {a b}, lt a b = false → a ≠ b → lt b a = true
  irrefl : ∀ a, lt a a = false

theorem addrLt_order : Order addrLt where
  trans := by intro a b c; simp only [addrLt, decide_eq_true_eq]; omega
  total := by intro a b; simp only [addrLt, decide_eq_true_eq, decide_eq_false_iff_not]; omega
  irrefl := by intro a; simp [addrLt]

theorem keyLt_order : Order keyLt where
  trans := by
    intro a
    induction a with
    | nil => intro b c h g; cases b <;> cases c <;> simp_all [keyLt]
    | cons x a ih =>
      intro b c h g
      cases b with
      | nil => simp [keyLt] at h
      | cons y b =>
        cases c with
        | nil => simp [keyLt] at g
        | cons z c =>
          simp only [keyLt] at h g ⊢
          split at h
          · split at g
            · simp [show x < z by omega]
            · split at g
              · simp at g
              · simp [show x < z by omega]
          · split at h
            · simp at h
            · split at g
              · simp [show x < z by omega]
              · split at g
                · simp at g
                · simp [show ¬ x < z by omega, show ¬ z < x by omega, ih h g]
  total := by
    intro a
    induction a with
    | nil => intro b h g; cases b <;> simp_all [keyLt]
    | cons x a ih =>
      intro b h g
      cases b with
      | nil => simp [keyLt]
      | cons y b =>
        simp only [keyLt] at h ⊢
        split at h
        · simp at h
        · by_cases hyx : y < x
          · simp [hyx]
          · have : x = y := by omega
            subst this
            simp only [Nat.lt_irrefl, if_false] at h ⊢
            exact ih h (by intro e; exact g (by rw [e]))
  irrefl := by intro a; induction a with
    | nil => rfl
    | cons x a ih => simp [keyLt, ih]

theorem lookup_without_same (d : α) (t : List (κ × α)) (k : κ) : lookup d (without t k) k = d := by
  induction t with
  | nil => rfl
  | cons e r ih =>
    obtain ⟨a, v⟩ := e
    simp only [without, List.filter_cons] at ih ⊢
    split
    · next h => simp only [ne_eq, decide_eq_true_eq] at h; simpa [lookup, h] using ih
    · exact ih

theorem lookup_without_ne (d : α) (t : List (κ × α)) {k j : κ} (h : j ≠ k) : lookup d (without t k) j = lookup d t j := by
  induction t with
  | nil => rfl
  | cons e r ih =>
    obtain ⟨a, v⟩ := e
    simp only [without, List.filter_cons] at ih ⊢
    split
    · simp only [lookup, ih]
    · next g =>
      simp only [ne_eq, decide_not, Bool.not_eq_true', decide_eq_false_iff_not, Decidable.not_not] at g
      simp only [lookup, ih]
      rw [if_neg (by rw [g]; exact fun e => h e.symm)]

theorem lookup_place_same (lt : κ → κ → Bool) (d : α) (t : List (κ × α)) (k : κ) (v : α) (h : ∀ e ∈ t, e.1 ≠ k) :
    lookup d (place lt k v t) k = v := by
  induction t with
  | nil => simp [place, lookup]
  | cons e r ih =>
    simp only [place]
    split
    · simp [lookup]
    · obtain ⟨a, w⟩ := e
      have : a ≠ k := h (a, w) (by simp)
      simp only [lookup, this, if_false]
      exact ih (fun x hx => h x (by simp [hx]))

theorem lookup_place_ne (lt : κ → κ → Bool) (d : α) (t : List (κ × α)) {k j : κ} (v : α) (h : j ≠ k) :
    lookup d (place lt k v t) j = lookup d t j := by
  induction t with
  | nil => simp [place, lookup, Ne.symm h]
  | cons e r ih =>
    simp only [place]
    split
    · simp [lookup, Ne.symm h]
    · obtain ⟨a, w⟩ := e
      simp only [lookup, ih]

theorem without_no_key (t : List (κ × α)) (k : κ) : ∀ e ∈ without t k, e.1 ≠ k := by
  intro e he
  simp only [without, List.mem_filter, decide_eq_true_eq] at he
  exact he.2

theorem without_place (lt : κ → κ → Bool) (k : κ) (v : α) (t : List (κ × α)) : without (place lt k v t) k = without t k := by
  induction t with
  | nil => simp [place, without]
  | cons e r ih =>
    simp only [place]
    split
    · simp [without]
    · simp only [without, List.filter_cons] at ih ⊢
      rw [ih]

theorem without_without (k : κ) (t : List (κ × α)) : without (without t k) k = without t k := by
  simp [without]

/-- The last of two writes at one key is the one that stands. -/
theorem assign_assign [DecidableEq α] (lt : κ → κ → Bool) (d : α) (t : List (κ × α)) (k : κ) (v w : α) :
    assign lt d (assign lt d t k v) k w = assign lt d t k w := by
  have : without (assign lt d t k v) k = without t k := by
    simp only [assign]; split
    · exact without_without k t
    · rw [without_place, without_without]
  rw [assign, this, assign]

/-- A read after a write at the same key. -/
theorem lookup_assign_same [DecidableEq α] (lt : κ → κ → Bool) (d : α) (t : List (κ × α)) (k : κ) (v : α) :
    lookup d (assign lt d t k v) k = v := by
  simp only [assign]
  split
  · next h => rw [lookup_without_same, h]
  · exact lookup_place_same _ _ _ _ _ (without_no_key t k)

/-- A write leaves every other key alone. -/
theorem lookup_assign_ne [DecidableEq α] (lt : κ → κ → Bool) (d : α) (t : List (κ × α)) {k j : κ} (v : α) (h : j ≠ k) :
    lookup d (assign lt d t k v) j = lookup d t j := by
  simp only [assign]
  split
  · exact lookup_without_ne _ _ h
  · rw [lookup_place_ne _ _ _ _ h, lookup_without_ne _ _ h]

/-- The canonical form, said of all pairs of entries. -/
theorem canonical_iff [DecidableEq α] {lt : κ → κ → Bool} (o : Order lt) (d : α) (t : List (κ × α)) :
    canonical lt d t = true ↔ t.Pairwise (fun e f => lt e.1 f.1 = true) ∧ ∀ e ∈ t, e.2 ≠ d := by
  induction t with
  | nil => simp [canonical]
  | cons e r ih =>
    cases r with
    | nil => simp [canonical]
    | cons f r =>
      simp only [canonical, Bool.and_eq_true, decide_eq_true_eq, ih, List.pairwise_cons, List.mem_cons, forall_eq_or_imp]
      constructor
      · rintro ⟨⟨he, hl⟩, ⟨⟨hf, hr⟩, hd, hs⟩⟩
        exact ⟨⟨⟨hl, fun x hx => o.trans hl (hf x hx)⟩, hf, hr⟩, he, hd, hs⟩
      · rintro ⟨⟨⟨hl, _⟩, hf, hr⟩, he, hd, hs⟩
        exact ⟨⟨he, hl⟩, ⟨hf, hr⟩, hd, hs⟩

theorem canonical_filter [DecidableEq α] {lt : κ → κ → Bool} (o : Order lt) (d : α) (t : List (κ × α)) (p : κ × α → Bool)
    (h : canonical lt d t = true) : canonical lt d (t.filter p) = true := by
  rw [canonical_iff o] at h ⊢
  exact ⟨h.1.filter p, fun e he => h.2 e (List.mem_filter.1 he).1⟩

theorem mem_place (lt : κ → κ → Bool) (k : κ) (v : α) (t : List (κ × α)) (e : κ × α) :
    e ∈ place lt k v t ↔ e = (k, v) ∨ e ∈ t := by
  induction t with
  | nil => simp [place]
  | cons f r ih =>
    simp only [place]
    split
    · simp
    · simp only [List.mem_cons, ih]
      constructor
      · rintro (h | h | h) <;> simp [h]
      · rintro (h | h | h) <;> simp [h]

theorem canonical_place [DecidableEq α] {lt : κ → κ → Bool} (o : Order lt) (d : α) (t : List (κ × α)) (k : κ) (v : α)
    (hv : v ≠ d) (hk : ∀ e ∈ t, e.1 ≠ k) (h : canonical lt d t = true) : canonical lt d (place lt k v t) = true := by
  rw [canonical_iff o] at h ⊢
  refine ⟨?_, fun e he => ((mem_place lt k v t e).1 he).elim (fun g => by rw [g]; exact hv) (h.2 e)⟩
  have hp := h.1
  clear h hv
  induction t with
  | nil => simp [place]
  | cons f r ih =>
    have hf := List.pairwise_cons.1 hp
    simp only [place]
    split
    · next g =>
      refine List.pairwise_cons.2 ⟨fun x hx => ?_, hp⟩
      rcases List.mem_cons.1 hx with rfl | hx
      · exact g
      · exact o.trans g (hf.1 x hx)
    · next g =>
      refine List.pairwise_cons.2 ⟨fun x hx => ?_, ih (fun e he => hk e (by simp [he])) hf.2⟩
      rcases (mem_place lt k v r x).1 hx with rfl | hx
      · exact o.total (by simpa using g) (fun e => hk f (by simp) e.symm)
      · exact hf.1 x hx

/-- A write keeps the canonical form. -/
theorem canonical_assign [DecidableEq α] {lt : κ → κ → Bool} (o : Order lt) (d : α) (t : List (κ × α)) (k : κ) (v : α)
    (h : canonical lt d t = true) : canonical lt d (assign lt d t k v) = true := by
  simp only [assign]
  split
  · exact canonical_filter o d t _ h
  · next hv => exact canonical_place o d _ k v hv (without_no_key t k) (canonical_filter o d t _ h)

theorem lookup_place_canonical [DecidableEq α] {lt : κ → κ → Bool} (o : Order lt) (t : List (κ × α)) (k : κ) (v : α)
    (h : ∀ e ∈ t, lt k e.1 = true) : place lt k v t = (k, v) :: t := by
  cases t with
  | nil => rfl
  | cons e r => simp [place, h e (by simp)]

@[simp] theorem tget_tset_same [DecidableEq α] (d : α) (t : Tab α) (k : Key) (v : α) : tget d (tset d t k v) k = v :=
  lookup_assign_same _ _ _ _ _

theorem tget_tset_ne [DecidableEq α] (d : α) (t : Tab α) {k j : Key} (v : α) (h : j ≠ k) : tget d (tset d t k v) j = tget d t j :=
  lookup_assign_ne _ _ _ _ h

@[simp] theorem mget_mset_same (m : Memory) (a : Nat) (b : Byte) : mget (mset m a b) a = b := lookup_assign_same _ _ _ _ _

theorem mget_mset_ne (m : Memory) {a x : Nat} (b : Byte) (h : x ≠ a) : mget (mset m a b) x = mget m x := lookup_assign_ne _ _ _ _ h

theorem mset_wf (m : Memory) (a : Nat) (b : Byte) (h : Memory.wf m = true) : Memory.wf (mset m a b) = true := canonical_assign addrLt_order _ _ _ _ h

theorem msetN_wf (l : List Byte) : ∀ (m : Memory) (a : Nat), Memory.wf m = true → Memory.wf (msetN m a l) = true := by
  induction l with
  | nil => intro m a h; simpa [msetN] using h
  | cons b l ih => intro m a h; simp only [msetN]; exact ih _ _ (mset_wf m a b h)

theorem mputNat_wf (m : Memory) (a n v : Nat) (h : Memory.wf m = true) : Memory.wf (mputNat m a n v) = true := msetN_wf _ _ _ h

theorem mzero_wf (m : Memory) (a n : Nat) (h : Memory.wf m = true) : Memory.wf (mzero m a n) = true := canonical_filter addrLt_order _ _ _ h

/-- Bytes outside a written range read as before. -/
theorem mget_msetN_out (l : List Byte) : ∀ (m : Memory) (a x : Nat), x < a ∨ a + l.length ≤ x → mget (msetN m a l) x = mget m x := by
  induction l with
  | nil => intro m a x _; simp [msetN]
  | cons b l ih =>
    intro m a x h
    simp only [msetN, List.length_cons] at h ⊢
    rw [ih _ _ _ (by omega), mget_mset_ne _ _ (by omega)]

/-- A written range reads back. -/
theorem mget_msetN_in (l : List Byte) : ∀ (m : Memory) (a i : Nat) (h : i < l.length), mget (msetN m a l) (a + i) = l[i] := by
  induction l with
  | nil => intro m a i h; simp at h
  | cons b l ih =>
    intro m a i h
    simp only [msetN]
    cases i with
    | zero => simp only [Nat.add_zero, List.getElem_cons_zero]; rw [mget_msetN_out _ _ _ _ (by omega)]; simp
    | succ i =>
      rw [show a + (i + 1) = (a + 1) + i by omega, ih _ _ _ (by simpa using h)]
      simp

theorem tidy_wf (m : Memory) : Memory.wf (tidy m) = true := by
  unfold tidy
  induction m with
  | nil => rfl
  | cons e r ih => exact mset_wf _ _ _ ih

@[simp] theorem mget_tidy (m : Memory) (a : Nat) : mget (tidy m) a = mget m a := by
  unfold tidy
  induction m with
  | nil => rfl
  | cons e r ih =>
    obtain ⟨k, v⟩ := e
    simp only [List.foldr_cons]
    by_cases h : a = k
    · subst h; rw [mget_mset_same]; simp [mget, lookup]
    · rw [mget_mset_ne _ _ h, ih]; simp [mget, lookup, Ne.symm h]

/-- A memory in canonical form is left as it is. -/
theorem tidy_eq (m : Memory) (h : Memory.wf m = true) : tidy m = m := by
  unfold tidy
  induction m with
  | nil => rfl
  | cons e r ih =>
    have hc := (canonical_iff addrLt_order (0 : Byte) (e :: r)).1 h
    have hp := List.pairwise_cons.1 hc.1
    have hr : Memory.wf r = true := (canonical_iff addrLt_order (0 : Byte) r).2 ⟨hp.2, fun x hx => hc.2 x (by simp [hx])⟩
    simp only [List.foldr_cons, ih hr]
    have hw : without r e.1 = r := by
      simp only [without, List.filter_eq_self]
      intro x hx
      have := hp.1 x hx
      simp only [addrLt, decide_eq_true_eq] at this
      simp only [ne_eq, decide_not, Bool.not_eq_true', decide_eq_false_iff_not]
      omega
    simp only [mset, assign, hc.2 e (by simp), if_false, hw]
    exact lookup_place_canonical addrLt_order r e.1 e.2 hp.1

end Sys2Proof.Machine
end

