-- ==== Sys2Proof/Laws/Ops.lean ====
section
/-! SUPPORT. The laws of the shared operations: register fields, cores, and how a row reaches its page and ends. -/

namespace Sys2Proof.Machine

theorem unpack_pack (r v : Nat) : unpackField r (packField r v) = v := by
  simp only [packField]
  split
  · next h => simp [unpackField, h]
  · simp [unpackField]

/-- A register field reads back what was written, cut to its width. -/
@[simp] theorem State.rd_wr_same (s : State) (l : Loc) (v : Nat) : (s.wr l v).rd l = v % 2 ^ l.width := by
  simp [State.rd, unpack_pack]

/-- A write leaves every field at another place alone. -/
theorem State.rd_wr_ne (s : State) {l k : Loc} (v : Nat) (h : k.key ≠ l.key) : (s.wr l v).rd k = s.rd k := by
  simp [State.rd, tget_tset_ne _ _ _ h]

@[simp] theorem State.rd_send (s : State) (m : Msg) (l : Loc) : (s.send m).rd l = s.rd l := rfl
@[simp] theorem State.rd_take (s : State) (m : Msg) (l : Loc) : (s.take m).rd l = s.rd l := rfl
@[simp] theorem State.rd_setCore (s : State) (c : CoreId) (r : CoreSt) (l : Loc) : (s.setCore c r).rd l = s.rd l := rfl
@[simp] theorem State.rd_onCore (s : State) (c : CoreId) (f : CoreSt → CoreSt) (l : Loc) : (s.onCore c f).rd l = s.rd l := rfl
@[simp] theorem State.rd_settle (s : State) (q : List Instr) (l : Loc) : (s.settle q).rd l = s.rd l := rfl

/-- A core's record reads back. -/
@[simp] theorem State.core_setCore_same (s : State) (c : CoreId) (r : CoreSt) : (s.setCore c r).core c = r := by
  simp [State.core]

/-- The last of two records put for a core is the one that stands. -/
@[simp] theorem State.setCore_setCore (s : State) (c : CoreId) (r q : CoreSt) : (s.setCore c r).setCore c q = s.setCore c q := by
  simp only [State.setCore, tset, assign_assign]

/-- Another core's record is left alone. -/
theorem State.core_setCore_ne (s : State) {c d : CoreId} (r : CoreSt) (h : d ≠ c) : (s.setCore c r).core d = s.core d := by
  simp only [State.core, State.setCore_cores]
  refine tget_tset_ne _ _ _ (fun e => h ?_)
  cases c; cases d; simpa using e

@[simp] theorem State.core_wr (s : State) (l : Loc) (v : Nat) (c : CoreId) : (s.wr l v).core c = s.core c := rfl
@[simp] theorem State.core_send (s : State) (m : Msg) (c : CoreId) : (s.send m).core c = s.core c := rfl
@[simp] theorem State.core_settle (s : State) (q : List Instr) (c : CoreId) : (s.settle q).core c = s.core c := rfl
@[simp] theorem State.on_settle (s : State) (q : List Instr) (l : Loc) : (s.settle q).on l = s.on l := rfl

/-- All that an end of a command can be. -/
theorem onward_next (s : State) (f : State → State) : onward s f = .next ((f s).settle s.pending) := rfl

/-- A row whose page takes the write has its effect. -/
theorem State.onPage_takes (s : State) {n page off : Nat} (f : State → State) (h : s.takes n page off = true) :
    s.onPage n page off f = f s := by simp [State.onPage, h]

/-- A row whose page does not take the write changes nothing. -/
theorem State.onPage_not (s : State) {n page off : Nat} (f : State → State) (h : s.takes n page off = false) :
    s.onPage n page off f = s := by simp [State.onPage, h]

/-- A core whose clock runs does what it does. -/
theorem State.whenClocked_on (s : State) {c : CoreId} (f : State → State) (h : s.clocked c = true) : s.whenClocked c f = f s := by
  simp [State.whenClocked, h]

/-- A core whose clock stands keeps its state. -/
theorem State.whenClocked_off (s : State) {c : CoreId} (f : State → State) (h : s.clocked c = false) : s.whenClocked c f = s := by
  simp [State.whenClocked, h]

/-- A state in canonical form is left as it is by the end of a command. -/
theorem State.settle_sound (s : State) (hm : Memory.wf s.mem = true) (hc : Memory.wf s.cmem = true) (hd : Memory.wf s.dmem = true)
    (hs : Memory.wf s.store = true) (hx : Memory.wf s.msixTab = true) (hf : Memory.wf s.fwbuf = true) (ht : s.time < 2 ^ 64) :
    s.settle s.pending = s := by
  simp only [State.settle, tidy_eq _ hm, tidy_eq _ hc, tidy_eq _ hd, tidy_eq _ hs, tidy_eq _ hx, tidy_eq _ hf, Nat.mod_eq_of_lt ht]

end Sys2Proof.Machine
end

