-- ==== Sys2Proof/Laws/Exec.lean ====
section
/-! SUPPORT. What holds of every command at once: it answers a next state that has been settled. -/

namespace Sys2Proof.Machine

/-- Every command ends in a settled next state. -/
theorem exec_ends (i : Instr) (s : State) : ∃ u : State, exec i s = .next (u.settle s.pending) := by
  cases i <;> exact ⟨_, rfl⟩

theorem idle_ends (s : State) : ∃ u : State, idle s = .next (u.settle s.pending) := ⟨_, rfl⟩

theorem settle_sound (u : State) (l : List Instr) (h : ∀ i ∈ l, i.wf = true) : (u.settle l).Sound where
  mem := tidy_wf _
  cmem := tidy_wf _
  dmem := tidy_wf _
  store := tidy_wf _
  msixTab := tidy_wf _
  fwbuf := tidy_wf _
  waiting := h
  time := by simpa using Nat.mod_lt _ (by decide)

end Sys2Proof.Machine
end

