-- ==== Sys2Proof/Laws/Lane.lean ====
section
/-! SUPPORT. The laws of the lane registers and of the one step that every lane instruction takes. -/

namespace Sys2Proof.Machine

theorem laneAddr_inj {l r m q : Nat} (hl : l < 64) (hm : m < 64) (h : laneAddr l r = laneAddr m q) : l = m ∧ r = q := by
  simp only [laneAddr] at h; omega

/-- A word of the engine stores reads back. -/
@[simp] theorem State.eng_engSet_same (s : State) (c : CoreId) (a v : Nat) : (s.engSet c a v).eng c a = v % 2 ^ 32 := by
  simp [State.eng, State.engSet]

/-- A word of the engine stores written leaves every other one alone. -/
theorem State.eng_engSet_ne (s : State) {c d : CoreId} {a b : Nat} (v : Nat) (h : ¬ (d = c ∧ b = a)) : (s.engSet c a v).eng d b = s.eng d b := by
  simp only [State.eng, State.engSet]
  refine tget_tset_ne _ _ _ (fun e => h ?_)
  cases c; cases d
  simp only [List.cons.injEq, and_true] at e
  obtain ⟨h1, h2, h3⟩ := e
  exact ⟨by simp [h1, h2], h3⟩

@[simp] theorem State.vreg_setVreg_same (s : State) (c : CoreId) (l r v : Nat) : (s.setVreg c l r v).vreg c l r = v % 2 ^ 32 :=
  State.eng_engSet_same _ _ _ _

/-- A lane register written leaves every other lane register alone. -/
theorem State.vreg_setVreg_ne (s : State) {c d : CoreId} {l r m q : Nat} (v : Nat) (hl : l < 64) (hm : m < 64)
    (h : ¬ (d = c ∧ m = l ∧ q = r)) : (s.setVreg c l r v).vreg d m q = s.vreg d m q :=
  State.eng_engSet_ne _ _ (fun e => h ⟨e.1, laneAddr_inj hm hl e.2⟩)

/-- Registers written in a list of lanes. -/
theorem vreg_each (c : CoreId) (r : Nat) (g : Nat → Nat) (ls : List Nat) : ∀ (s : State) (d : CoreId) (m q : Nat), (∀ l ∈ ls, l < 64) → m < 64 →
    (each ls (fun l t => t.setVreg c l r (g l)) s).vreg d m q = if d = c ∧ q = r ∧ m ∈ ls then g m % 2 ^ 32 else s.vreg d m q := by
  induction ls with
  | nil => intro s d m q _ _; simp [each]
  | cons l ls ih =>
    intro s d m q h hm
    have hl : l < 64 := h l (by simp)
    simp only [each, List.foldl_cons] at ih ⊢
    rw [ih _ d m q (fun x hx => h x (by simp [hx])) hm]
    by_cases hin : m ∈ ls
    · simp only [hin, and_true, List.mem_cons, or_true]
      split
      · rfl
      · next hd => rw [State.vreg_setVreg_ne _ _ hl hm (by rintro ⟨a, _, b⟩; exact hd ⟨a, b⟩)]
    · by_cases e : m = l
      · subst e
        by_cases hd : d = c ∧ q = r
        · obtain ⟨rfl, rfl⟩ := hd; simp [hin]
        · rw [State.vreg_setVreg_ne _ _ hl hm (by rintro ⟨a, _, b⟩; exact hd ⟨a, b⟩)]
          simp [hin]; intro a b; exact absurd ⟨a, b⟩ hd
      · rw [State.vreg_setVreg_ne _ _ hl hm (by rintro ⟨_, a, _⟩; exact e a)]
        simp [hin, e]

/-- Registers written leave all but the engine's words and their parity alone. -/
theorem each_setVreg_rest (c : CoreId) (r : Nat) (g : Nat → Nat) (ls : List Nat) : ∀ s : State,
    each ls (fun l t => t.setVreg c l r (g l)) s = { s with ework := (each ls (fun l t => t.setVreg c l r (g l)) s).ework, parBad := (each ls (fun l t => t.setVreg c l r (g l)) s).parBad } := by
  induction ls with
  | nil => intro s; rfl
  | cons l ls ih =>
    intro s
    simp only [each, List.foldl_cons] at ih ⊢
    rw [ih]
    rfl

/-- Registers written make the parity of their own words good and leave every other mark as it is (R194). -/
theorem each_setVreg_parBad (c : CoreId) (r : Nat) (g : Nat → Nat) (ls : List Nat) : ∀ (s : State) (e : Nat × Nat),
    e ∈ (each ls (fun l t => t.setVreg c l r (g l)) s).parBad ↔ e ∈ s.parBad ∧ ∀ l ∈ ls, e ≠ (2, coreAddr c (laneAddr l r)) := by
  induction ls with
  | nil => intro s e; simp [each]
  | cons l ls ih =>
    intro s e
    simp only [each, List.foldl_cons] at ih ⊢
    rw [ih]
    simp [State.setVreg, State.engSet, and_assoc]

theorem progAddr_ne_laneAddr {n w l r : Nat} (hl : l < 64) (hr : r < 32) : progAddr n w ≠ laneAddr l r := by
  simp only [progAddr, laneAddr]; omega

/-- Registers written leave the program slots alone. -/
theorem progWord_each (c : CoreId) (r : Nat) (hr : r < 32) (g : Nat → Nat) (ls : List Nat) : ∀ (s : State) (d : CoreId) (n w : Nat), (∀ l ∈ ls, l < 64) →
    (each ls (fun l t => t.setVreg c l r (g l)) s).progWord d n w = s.progWord d n w := by
  induction ls with
  | nil => intro s d n w _; rfl
  | cons l ls ih =>
    intro s d n w h
    simp only [each, List.foldl_cons] at ih ⊢
    rw [ih _ d n w (fun x hx => h x (by simp [hx]))]
    exact State.eng_engSet_ne _ _ (fun e => progAddr_ne_laneAddr (h l (by simp)) hr e.2)

theorem enabled_lt (v : Vx) (w : Nat) : ∀ l ∈ enabled v w, l < 64 := by
  intro l h
  simp only [enabled, List.mem_filter, List.mem_range, activeLanes, bandRows] at h
  have := h.1
  omega

theorem iD_lt (w : Nat) : iD w < 32 := by
  simp only [iD, bits]; exact Nat.mod_lt _ (by decide)

/-- The bounds of a section rest on the section, the program slot and its words and length. -/
theorem bounds_congr {s t : State} {c : CoreId} (h1 : (t.core c).vx.section_ = (s.core c).vx.section_) (h2 : (t.core c).vx.desc = (s.core c).vx.desc)
    (h3 : ∀ n w, t.progWord c n w = s.progWord c n w) (h4 : ∀ n, t.rd (slotLenLoc c n) = s.rd (slotLenLoc c n)) : t.bounds c = s.bounds c := by
  simp only [State.bounds, State.vxHdr, State.vxPlen, Vx.slot, h1, h2, h3, h4]

theorem slotLen_ne_busy (c d : CoreId) (n : Nat) : (slotLenLoc c n).key ≠ (F.VX_BUSY.core d).key := by
  unfold slotLenLoc
  split <;> simp [Fld.core, Fld.at, F.VX_BUSY, F.VX_SLOTLEN01_LEN0, F.VX_SLOTLEN01_LEN1, F.VX_SLOTLEN23_LEN2, F.VX_SLOTLEN23_LEN3]

/-- A lane instruction that goes on inside its section: what its own effect gives, one instruction further, the busy count advanced. -/
theorem laneStep_next {s : State} {c : CoreId} {op w : Nat} (h : s.AtLane c op w) (f : Nat → State → LaneOut) (u : State) (hf : f w s = .next u)
    (hb : (u.bounds c).2 = (s.bounds c).2) :
    s.laneStep c op .clean f =
      ((u.add (F.VX_BUSY.core c) (issueCycles w)).onCore c (fun k => { k with vx := { k.vx with icount := k.vx.icount + 1 } })).onCore c
        (fun k => { k with vx := { k.vx with pc := (s.core c).vx.pc + 1 } }) := by
  have h1 := h.active
  have h2 := h.running
  have h3 := h.word
  have h4 := h.opcode
  have h5 := h.few
  have h6 := h.inside
  have h7 := h.sound
  unfold State.laneStep
  simp only [h1, h2, h3, h4, h7, Bool.not_true, Bool.false_eq_true, or_self, if_false, ne_eq, not_true, hf, Nat.add_zero, ge_iff_le, Nat.not_le.2 h5]
  simp only [State.goTo]
  rw [if_neg]
  have hc : ((u.add (F.VX_BUSY.core c) (issueCycles w)).onCore c (fun k => { k with vx := { k.vx with icount := k.vx.icount + 1 } })).bounds c = u.bounds c := by
    refine bounds_congr ?_ ?_ (fun _ _ => rfl) (fun n => ?_)
    · simp [State.onCore, State.add]
    · simp [State.onCore, State.add]
    · simp only [State.rd_onCore, State.add]
      exact State.rd_wr_ne _ _ (slotLen_ne_busy c c n)
  rw [hc, hb]; omega

/-- The state of a lane instruction that goes on, from the engine's words and the parity marks it leaves. -/
def State.laneGone (s : State) (c : CoreId) (n : Nat) (k : CoreSt) (e : Tab Nat) (p : List (Nat × Nat)) : State :=
  (({ s with ework := e, parBad := p } : State).add (F.VX_BUSY.core c) n).setCore c
    { k with vx := { k.vx with pc := (s.core c).vx.pc + 1, icount := (s.core c).vx.icount + 1 } }

theorem laneGone_went (s : State) (c : CoreId) (n : Nat) (k : CoreSt) (e : Tab Nat) {p : List (Nat × Nat)} (hp : ∀ x ∈ p, x ∈ s.parBad)
    (hq : ∀ x ∈ s.parBad, (∀ l < 64, ∀ r < 32, x ≠ (2, coreAddr c (laneAddr l r))) →
      (∀ l < 64, ∀ q < 8, x ≠ (2, coreAddr c (latchAddr l q))) → x ∈ p) :
    LaneWent s ((s.laneGone c n k e p).settle s.pending) c k n where
  cured := hp
  marks := hq
  core := by simp [State.laneGone]
  busy := by
    simp only [State.laneGone, State.add, State.rd_settle, State.rd_setCore, State.rd_wr_same]
    rfl
  regs := by
    intro l hl
    simp only [State.laneGone, State.add, State.rd_settle, State.rd_setCore]
    rw [State.rd_wr_ne _ _ (hl _ (by simp))]
    rfl
  cores := by
    intro d hd
    simp only [State.laneGone, State.core_settle]
    rw [State.core_setCore_ne _ _ hd]
    rfl
  rest := rfl

/-- What a lane instruction that writes register D of every enabled lane leaves, when it goes on. -/
theorem laneVal_law {s : State} {c : CoreId} {op w : Nat} (h : s.AtLane c op w) (g : Nat → Nat → State → Nat) :
    ∃ e p, s.laneVal c op .clean g = s.laneGone c (issueCycles w) (s.core c) e p ∧
      LaneRegs s ((s.laneGone c (issueCycles w) (s.core c) e p).settle s.pending) c w (fun l => g w l s % 2 ^ 32) ∧
      LaneWent s ((s.laneGone c (issueCycles w) (s.core c) e p).settle s.pending) c (s.core c) (issueCycles w) := by
  obtain ⟨e, p, he⟩ : ∃ e p, each (enabled (s.core c).vx w) (fun l t => t.setVreg c l (iD w) (g w l s)) s = { s with ework := e, parBad := p } :=
    ⟨_, _, each_setVreg_rest _ _ _ _ _⟩
  have hp : ∀ n x, ({ s with ework := e, parBad := p } : State).progWord c n x = s.progWord c n x := by
    intro n x; rw [← he]; exact progWord_each _ _ (iD_lt w) _ _ _ _ _ _ (enabled_lt _ _)
  have hm : ∀ x, x ∈ p ↔ x ∈ s.parBad ∧ ∀ l ∈ enabled (s.core c).vx w, x ≠ (2, coreAddr c (laneAddr l (iD w))) := by
    intro x
    have := each_setVreg_parBad c (iD w) (fun l => g w l s) (enabled (s.core c).vx w) s x
    rw [he] at this; exact this
  have hb : (({ s with ework := e, parBad := p } : State).bounds c).2 = (s.bounds c).2 := by
    rw [bounds_congr (s := s) (t := { s with ework := e, parBad := p }) (c := c) rfl rfl hp (fun _ => rfl)]
  refine ⟨e, p, ?_, ?_, laneGone_went s c _ _ e (fun x hx => ((hm x).1 hx).1)
    (fun x hx hn _ => (hm x).2 ⟨hx, fun l hl => hn l (enabled_lt _ _ l hl) _ (iD_lt w)⟩)⟩
  · rw [State.laneVal, laneStep_next h (fun w s => .next (each (enabled (s.core c).vx w) (fun l t => t.setVreg c l (iD w) (g w l s)) s)) _
      (by rw [he]) hb]
    simp only [State.onCore, State.laneGone, State.core_setCore_same, State.setCore_setCore]
    rfl
  · intro l r hl hr
    have := vreg_each c (iD w) (fun l => g w l s) (enabled (s.core c).vx w) s c l r (enabled_lt _ _) hl
    rw [he] at this
    refine Eq.trans this ?_
    simp only [true_and, State.lit, List.contains_eq_mem, decide_eq_true_eq]

end Sys2Proof.Machine
end

