-- ==== Sys2Proof/Laws/Sums.lean ====
section
/-! SUPPORT. Laws of the sums whose order and grouping the spec leaves open (R72, R74), and of the CRC kept with a sector (R222). -/

namespace Sys2Proof.Machine

/-- A partial sum of +0 is held as +0. -/
theorem heldSum_zero (f : Nat) : ∃ e, heldSum f (.fin false 0 0) = .fin false 0 e := by
  unfold heldSum
  split
  · exact ⟨-149, by decide⟩
  · have h : Nat.log2 0 + 1 - (24 + f / 2) = 0 := by simp; omega
    exact ⟨0, by simp only [roundSig, h, if_true]⟩

theorem heldSum_nan (f : Nat) : heldSum f .nan = .nan := by
  unfold heldSum
  split
  · decide
  · rfl

theorem addNum_nan_right (a : Num) : addNum a .nan = .nan := by cases a <;> rfl

theorem mem_eraseIdx_or {α : Type} (d : α) : ∀ (l : List α) (i : Nat) (x : α), x ∈ l → x = l.getD i d ∨ x ∈ l.eraseIdx i
  | [], _, _, h => nomatch h
  | a :: l, 0, x, h => by
    rcases List.mem_cons.mp h with rfl | h
    · exact .inl rfl
    · exact .inr h
  | a :: l, i + 1, x, h => by
    rcases List.mem_cons.mp h with rfl | h
    · exact .inr (by simp)
    · rcases mem_eraseIdx_or d l i x h with h | h
      · exact .inl (by simpa using h)
      · exact .inr (by simp [h])

/-- A NaN among the terms stays among them (R74). -/
theorem sumStep_nan (b32 : Bool) (w : Nat) (l : List Num) (h : Num.nan ∈ l) : Num.nan ∈ sumStep b32 w l := by
  unfold sumStep
  simp only
  rcases mem_eraseIdx_or (.fin false 0 0) l (w % l.length) _ h with e | e
  · rw [← e]; exact List.mem_cons.mpr (.inl (by simp [addNum, heldSum_nan]))
  · rcases mem_eraseIdx_or (.fin false 0 0) (l.eraseIdx (w % l.length)) (w / 2 ^ 24 % (l.eraseIdx (w % l.length)).length) _ e with e | e
    · rw [← e]; exact List.mem_cons.mpr (.inl (by rw [addNum_nan_right, heldSum_nan]))
    · exact List.mem_cons.mpr (.inr e)

theorem sumStep_length (b32 : Bool) (w : Nat) (l : List Num) (h : 2 ≤ l.length) : (sumStep b32 w l).length = l.length - 1 := by
  have a : w % l.length < l.length := Nat.mod_lt _ (by omega)
  have n : (l.eraseIdx (w % l.length)).length = l.length - 1 := List.length_eraseIdx_of_lt a
  have b : w / 2 ^ 24 % (l.length - 1) < l.length - 1 := Nat.mod_lt _ (by omega)
  simp only [sumStep, List.length_cons, n]
  rw [List.length_eraseIdx_of_lt (by omega), n]
  omega

/-- A sum with a NaN among its terms is NaN in every order and grouping (R74). -/
theorem openSum_nan (b32 : Bool) (nonce : Nat) : ∀ (k : Nat) (l : List Num), l.length ≤ k → Num.nan ∈ l → openSum b32 nonce k l = .nan
  | 0, l, h, m => by cases l with | nil => cases m | cons a l => simp at h
  | k + 1, l, h, m => by
    unfold openSum
    split
    · match l, m with
      | [x], m => simpa using (List.mem_singleton.mp m).symm
      | a :: b :: r, _ => simp at *
    · exact openSum_nan b32 nonce k _ (by rw [sumStep_length _ _ _ (by omega)]; omega) (sumStep_nan _ _ _ m)

/-- A sum of terms +0 is +0 in every order and grouping (R74). -/
theorem openSum_zeros (b32 : Bool) (nonce : Nat) : ∀ (k : Nat) (l : List Num), (∀ x ∈ l, ∃ e, x = .fin false 0 e) → ∃ e, openSum b32 nonce k l = .fin false 0 e
  | 0, l, m => by cases l with | nil => exact ⟨0, rfl⟩ | cons a l => exact m a (by simp)
  | k + 1, l, m => by
    unfold openSum
    split
    · cases l with | nil => exact ⟨0, rfl⟩ | cons a l => exact m a (by simp)
    · refine openSum_zeros b32 nonce k _ (fun x h => ?_)
      rcases List.mem_cons.mp h with rfl | h
      · have g : ∀ (q : List Num) (i : Nat), (∀ x ∈ q, ∃ e, x = .fin false 0 e) → ∃ e, q.getD i (.fin false 0 0) = .fin false 0 e := fun q i e => by
          rw [List.getD_eq_getElem?_getD]
          cases h : q[i]? with
          | none => exact ⟨0, rfl⟩
          | some v => exact e v (List.mem_of_getElem? h)
        obtain ⟨e, he⟩ := g _ (_ % _) m
        obtain ⟨d, hd⟩ := g _ (_ % _) (fun y hy => m y (List.mem_of_mem_eraseIdx hy))
        rw [he, hd]
        exact heldSum_zero _
      · exact m x (List.mem_of_mem_eraseIdx (List.mem_of_mem_eraseIdx h))

/-- The CRC kept with a sector passes exactly while the sector is not left failing (R222, R223). -/
theorem storedCrc_passes (s : State) (p sec : Nat) :
    s.storedCrc p sec = s.sectorCrc p sec ↔ s.failing.any (fun e => e.1 == p * 2 ^ 31 + sec) = false := by
  unfold State.storedCrc
  cases h : s.failing.any (fun e => e.1 == p * 2 ^ 31 + sec)
  · simp
  · simp; omega

/-- A sector's reads fail with the cause it was lost for, or with 4 where its channel is FAILED (R223, R224). -/
theorem lostCause_eq (s : State) (p sec : Nat) : s.lostCause p sec =
    if (s.stk p).failed.contains (chanOf (sec <<< 6)) then some 4 else (s.failing.find? (fun e => e.1 == p * 2 ^ 31 + sec)).map (fun e => e.2) := by
  unfold State.lostCause
  split
  · rfl
  · cases h : s.failing.find? (fun e => e.1 == p * 2 ^ 31 + sec) with
    | none => rfl
    | some e =>
      have a : s.failing.any (fun e => e.1 == p * 2 ^ 31 + sec) = true := List.any_eq_true.mpr ⟨e, List.mem_of_find?_eq_some h, by simpa using List.find?_some h⟩
      have n : ¬ s.storedCrc p sec = s.sectorCrc p sec := fun q => by rw [storedCrc_passes, a] at q; cases q
      simp [n]

end Sys2Proof.Machine
end

