-- ==== Sys2Proof/Tests/Slice0.lean ====
section
/-! SUPPORT. Tests: every statement's hypotheses are met by a small concrete state, clause by clause, and single steps on values that the spec gives. -/

namespace Sys2Proof.Tests
open Sys2Proof.Machine

/-- Register fields set one after another. -/
def up (s : State) (l : List (Loc × Nat)) : State := l.foldl (fun s e => s.wr e.1 e.2) s

/-- Core 0 of die 0. -/
def c0 : CoreId := ⟨0, 0⟩

/-- Plots 0 and 1 in service with power and clocks, the rind powered, and the active steward's pages in use; context 1, host master 1,024 and the steward may use both stacks: the fields, as lit0_fields names them. -/
def lit0 : State :=
  { State.reset with
    offSites := [],
    fld := [
      ([0, 0, 2112, 0], 2), ([0, 1, 2053, 0], 2), ([0, 4, 2276, 2], 2), ([0, 4, 2276, 6], 2), ([0, 9, 96, 0], 2), ([1, 0, 2112, 0], 2),
      ([1, 1, 2053, 0], 2), ([1, 4, 2276, 2], 2), ([1, 4, 2276, 6], 2), ([1, 9, 96, 0], 2), ([2, 0, 2112, 0], 2), ([2, 1, 2053, 0], 2),
      ([2, 10, 2080, 4097], 2), ([2, 10, 2080, 5120], 2), ([2, 10, 2080, 5184], 2), ([2, 10, 2144, 4097], 2), ([2, 10, 2144, 5120], 2), ([2, 10, 2144, 5184], 2),
      ([3, 0, 2112, 0], 2), ([3, 2, 2088, 0], 2), ([3, 2, 2088, 1], 2), ([3, 2, 2088, 2], 2), ([3, 2, 2088, 3], 2), ([3, 2, 2088, 4], 2),
      ([4, 0, 2112, 0], 2), ([4, 1, 2053, 0], 2), ([4, 4, 2276, 2], 2), ([4, 4, 2276, 6], 2), ([4, 9, 96, 0], 2), ([5, 0, 2112, 0], 2),
      ([5, 1, 2053, 0], 2), ([5, 4, 2276, 2], 2), ([5, 4, 2276, 6], 2), ([5, 9, 96, 0], 2), ([6, 0, 2112, 0], 2), ([6, 1, 2053, 0], 2),
      ([6, 10, 2080, 4097], 2), ([6, 10, 2080, 5120], 2), ([6, 10, 2080, 5184], 2), ([6, 10, 2144, 4097], 2), ([6, 10, 2144, 5120], 2), ([6, 10, 2144, 5184], 2),
      ([7, 0, 2112, 0], 2), ([7, 2, 2088, 0], 2), ([7, 2, 2088, 1], 2), ([7, 2, 2088, 2], 2), ([7, 2, 2088, 3], 2), ([7, 2, 2088, 4], 2),
      ([288, 0, 2112, 0], 2), ([288, 1, 2053, 0], 2), ([288, 4, 2276, 2], 2), ([288, 4, 2276, 6], 2), ([304, 0, 2112, 0], 2), ([304, 1, 2053, 0], 2),
      ([304, 4, 2276, 2], 2), ([304, 4, 2276, 6], 2), ([305, 0, 2112, 0], 2), ([306, 0, 2112, 0], 2), ([306, 4, 2276, 2], 2), ([306, 4, 2276, 6], 2),
      ([306, 32, 2055, 0], 1), ([306, 33, 96, 0], 2), ([306, 34, 96, 0], 2), ([306, 35, 96, 0], 2), ([306, 36, 96, 0], 2), ([306, 37, 96, 0], 2),
      ([307, 0, 2112, 0], 2), ([307, 32, 2055, 0], 1), ([308, 0, 2112, 0], 2), ([309, 0, 2112, 0], 2)] }

theorem lit0_fields : lit0 = up { State.reset with offSites := [] }
    ([(F.RG_STAT_STATE.at 3 0 0, 1), (F.RG_STAT_STATE.at 3 0 1, 1), (F.RG_STAT_STATE.at 3 0 2, 1), (F.RG_STAT_STATE.at 3 0 3, 1), (F.RG_STAT_STATE.at 3 0 4, 1),
      (F.RG_STAT_STATE.at 7 0 0, 1), (F.RG_STAT_STATE.at 7 0 1, 1), (F.RG_STAT_STATE.at 7 0 2, 1), (F.RG_STAT_STATE.at 7 0 3, 1), (F.RG_STAT_STATE.at 7 0 4, 1),
      (F.BR_STAT_ROM.at 306, 0), (F.BR_STAT_ROM.at 307, 0)] ++
     [0, 1, 2, 3, 4, 5, 6, 7, 288, 304, 305, 306, 307, 308, 309].map (fun n => (F.SITE_STATE_STATE.at n, 1)) ++
     [0, 1, 2, 4, 5, 6, 288, 304].map (fun n => (F.CK_STAT_LOCK.at n, 1)) ++
     [0, 1, 4, 5].map (fun n => (F.PG_STAT_READY.at n 9, 1)) ++
     [0x21, 0x22, 0x23, 0x24, 0x25].map (fun p => (F.PG_STAT_READY.at stw p, 1)) ++
     [0, 1, 4, 5, 288, 304, 306].flatMap (fun n => [2, 6].map (fun x => (F.BK_RT_ENTRY_VALID.at n 0 x, 1))) ++
     [2, 6].flatMap (fun x => [1, 1024, 1088].flatMap (fun m => [(F.AC_RD.at x 0 (aclIdx m 1), 1), (F.AC_WR.at x 0 (aclIdx m 1), 1)]))) := by decide +kernel

/-- A result that is not an error. -/
theorem ok_unit {ε : Type} (x : Except ε Unit) (h : (match x with | .ok _ => true | .error _ => false) = true) : x = .ok () := by
  cases x with
  | ok _ => rfl
  | error _ => simp at h

/-- A result with a state, where the result is not an error. -/
theorem ok_pair {α ε β : Type} [Inhabited α] (x : Except ε α × β) (h : (match x.1 with | .ok _ => true | .error _ => false) = true) :
    x = (.ok (match x.1 with | .ok a => a | .error _ => default), x.2) := by
  obtain ⟨y, b⟩ := x
  cases y with
  | ok _ => rfl
  | error _ => simp at h

/-- A result with a count, a flag and a state, where the result is not an error. -/
theorem ok_quad {ε β γ δ : Type} (x : Except ε Unit × β × γ × δ) (h : (match x.1 with | .ok _ => true | .error _ => false) = true) :
    x = (.ok (), x.2.1, x.2.2.1, x.2.2.2) := by
  obtain ⟨y, b⟩ := x
  cases y with
  | ok _ => rfl
  | error _ => simp at h

/-- A result of a value. -/
theorem ok_val {α ε : Type} [DecidableEq α] (x : Except ε α) (a : α) (h : (match x with | .ok b => decide (b = a) | .error _ => false) = true) : x = .ok a := by
  cases x with
  | ok b => rw [of_decide_eq_true h]
  | error _ => simp at h

/-- A result that is an error of a code. -/
theorem err_code {α : Type} (x : Except Nat α) (n : Nat) (h : (match x with | .error e => decide (e = n) | .ok _ => false) = true) : x = .error n := by
  cases x with
  | ok _ => simp at h
  | error e => rw [of_decide_eq_true h]

/-- A result with a state, where the result is no error and carries no value. -/
theorem did {ε β : Type} (x : Except ε Unit × β) (h : (match x.1 with | .ok _ => true | .error _ => false) = true) : x = (.ok (), x.2) := by
  obtain ⟨y, b⟩ := x
  cases y with
  | ok _ => rfl
  | error _ => simp at h

/-- A result with a state, where the result is a value. -/
theorem gave {α ε β : Type} [DecidableEq α] (x : Except ε α × β) (a : α) (h : (match x.1 with | .ok b => decide (b = a) | .error _ => false) = true) : x = (.ok a, x.2) :=
  Prod.ext (ok_val _ _ h) rfl

/-- A result with a state, where the result is an error of a code. -/
theorem failed {α β : Type} (x : Except Nat α × β) (n : Nat) (h : (match x.1 with | .error e => decide (e = n) | .ok _ => false) = true) : x = (.error n, x.2) :=
  Prod.ext (err_code _ _ h) rfl

/-- A result with a state, where the result is no error and the state is a given one. -/
theorem left {ε β : Type} [DecidableEq β] (x : Except ε Unit × β) (b : β) (h : ((match x.1 with | .ok _ => true | .error _ => false) && decide (x.2 = b)) = true) : x = (.ok (), b) := by
  rw [Bool.and_eq_true] at h
  rw [← of_decide_eq_true h.2]
  exact did x h.1


/-- Whatever follows from a statement at a concrete state, its hypotheses there discharged: that it can be written is what a witness shows. -/
abbrev Met {p : Prop} (_ : p) : Prop := True

/-- The vector engine of core 0 in the body of a program whose word 2 is `w`, sixty-four lanes holding numbers of their own. -/
def laneAt (w : Nat) : State :=
  { lit0.onCore c0 (fun k => { k with vx := { k.vx with active := true, section_ := 1, pc := 2, desc := 0x30 + 2 <<< 304 + 2 <<< 320, preds := [([0], 2), ([5], 6)] } }) with
    ework := [([0, 0, laneAddr 0 1], 0x3F800000), ([0, 0, laneAddr 1 1], 0x80000003), ([0, 0, laneAddr 5 1], 0x7F800000), ([0, 0, laneAddr 0 2], 0xC0000000), ([0, 0, laneAddr 1 2], 0x25),
      ([0, 0, laneAddr 5 2], 0xFF800000), ([0, 0, progAddr 0 0], 1 + 6 <<< 9), ([0, 0, progAddr 0 2], w)] }

/-- An instruction word: OP, D, A, B, C, PRED with PNEG and MOD. -/
def word (op d a b c low : Nat) : Nat := op <<< 26 + d <<< 21 + a <<< 16 + b <<< 11 + c <<< 6 + low

/-- The opcodes of the lanes that have a result of their own. -/
def laneOps : List Nat :=
  [0x05, 0x06, 0x07, 0x08, 0x0C, 0x0D, 0x0E, 0x0F, 0x10, 0x11, 0x12, 0x13, 0x14, 0x15, 0x16, 0x17, 0x1A, 0x1B, 0x1C, 0x1D, 0x1E, 0x1F, 0x20, 0x21, 0x22, 0x25, 0x26,
   0x27, 0x28, 0x29, 0x2A, 0x2D, 0x09, 0x24, 0x34, 0x35, 0x36, 0x18, 0x19, 0x23, 0x39, 0x3A, 0x3B, 0x2B, 0x2C, 0x2E, 0x2F, 0x30, 0x31, 0x32, 0x33, 0x37, 0x38]

/-- What puts the engine at an instruction, as one test. -/
theorem at_lane (s : State) (op w : Nat) (h : (s.clocked c0 && (s.core c0).vx.active && decide ((s.core c0).vx.section_ ≠ 3) && decide (s.progWord c0 (s.core c0).vx.slot (s.core c0).vx.pc = w) &&
      decide (iOp w = op) && decide (s.badProg c0 (s.core c0).vx.slot (s.core c0).vx.pc = none) && decide ((s.core c0).vx.icount < 65536) && decide ((s.core c0).vx.pc + 1 < (s.bounds c0).2)) = true) : s.AtLane c0 op w := by
  simp only [Bool.and_eq_true, decide_eq_true_eq] at h
  obtain ⟨⟨⟨⟨⟨⟨⟨a, b⟩, c⟩, d⟩, e⟩, n⟩, f⟩, g⟩ := h
  exact ⟨a, b, c, d, e, n, f, g⟩

theorem witness_lane_engine (op : Nat) (h : op ∈ laneOps) : (laneAt (word op 3 1 2 0 0)).AtLane c0 op (word op 3 1 2 0 0) :=
  at_lane _ _ _ ((by decide +kernel : ∀ op ∈ laneOps, (let w := word op 3 1 2 0 0
    let s := laneAt w
    s.clocked c0 && (s.core c0).vx.active && decide ((s.core c0).vx.section_ ≠ 3) && decide (s.progWord c0 (s.core c0).vx.slot (s.core c0).vx.pc = w) &&
      decide (iOp w = op) && decide (s.badProg c0 (s.core c0).vx.slot (s.core c0).vx.pc = none) && decide ((s.core c0).vx.icount < 65536) && decide ((s.core c0).vx.pc + 1 < (s.bounds c0).2)) = true) op h)

theorem witness_lane_seed : (enabled ((laneAt (word 0x38 3 1 2 0 0)).core c0).vx (word 0x38 3 1 2 0 0)).head? = some 0 := by decide +kernel

/-- A byte field of a descriptor. -/
def at8 (byte v : Nat) : Nat := v <<< (8 * byte)

/-- An issued descriptor at 0x1000, named by no completion record. -/
def issued0 (d : Nat) (l : List (Option TRef)) : Issued :=
  { id := 1, addr := 0x1000, desc := d + at8 4 0xFFFF, agent := agentOf d, phase := .waiting, ix := [0, 0, 0, 0, 0, 0, 0], trefs := l, sigSite := 0, sigCell := 0, acks := 0, bad := 0,
    cur := 0, cnt0 := 0, cnt1 := 0, cells := [] }

/-- A core in RUN, bound to context 1, its virtual IDs 2 and 3 translated to cells 5 and 6 of die 0. -/
def bound0 : State :=
  { up lit0 [(F.CORE_BIND_BOUND.core c0, 1), (F.CORE_BIND_CTX.core c0, 1), (F.CORE_STATE_STATE.core c0, 2)] with
    xlt := [([0], [(1, 2, 0x80000000 + 5 <<< 9), (1, 3, 0x80000000 + 6 <<< 9)])] }

/-- The core with a descriptor of the sequencer's ready, inside a loop and a call. -/
def seqAt (d : Nat) : State :=
  bound0.onCore c0 (fun k => { k with ready := some (issued0 d []), calls := [0x2000], loops := [{ first := 0xF00, body := 8, ix := 1, left := 2, depth := 1, stride := 4 }] })

/-- SIGNAL and WAIT of two entries. -/
def pair (op : Nat) : Nat := op + at8 16 2 + at8 24 2 + at8 28 7 + at8 32 3 + at8 36 1

theorem witness_SequencerAtOnce_1 (h : Obligations.SequencerAtOnce) :
    Met ((h (seqAt 0x01) c0 _ (by decide +kernel) rfl).1 (by decide +kernel)) ∧
    Met ((h (seqAt (0x04 + at8 16 1)) c0 _ (by decide +kernel) rfl).2.1 (by decide +kernel)) ∧
    Met ((h (seqAt (0x05 + at8 20 3)) c0 _ (by decide +kernel) rfl).2.2.1 (by decide +kernel)) := ⟨trivial, trivial, trivial⟩

theorem witness_SequencerAtOnce_2 (h : Obligations.SequencerAtOnce) :
    Met ((h (seqAt (0x06 + at8 16 1 + at8 24 0x4000)) c0 _ (by decide +kernel) rfl).2.2.2.1 (by decide +kernel)) ∧
    Met ((h (seqAt 0x07) c0 _ (by decide +kernel) rfl).2.2.2.2.1 0x2000 (by decide +kernel) (by decide +kernel)) ∧
    Met ((h (seqAt (0x08 + at8 20 2 + at8 22 3)) c0 _ (by decide +kernel) rfl).2.2.2.2.2.1 (by decide +kernel) (by decide +kernel)) := ⟨trivial, trivial, trivial⟩

theorem witness_SequencerAtOnce_3 (h : Obligations.SequencerAtOnce) :
    Met ((h (seqAt (0x08 + at8 16 5 + at8 20 2 + at8 22 3)) c0 _ (by decide +kernel) rfl).2.2.2.2.2.2.1 (by decide +kernel) (by decide +kernel)) ∧
    Met ((h (seqAt 0x09) c0 _ (by decide +kernel) rfl).2.2.2.2.2.2.2 _ (by decide +kernel) rfl) := ⟨trivial, trivial⟩
theorem witness_SequencerFrame_1 (h : Obligations.SequencerFrame) :
    Met (h (seqAt 0x01) c0 _ (by decide +kernel) rfl (by decide +kernel) (by decide +kernel) (of_decide_eq_true (by decide +kernel)) (by decide +kernel) (by decide +kernel) (of_decide_eq_true (by decide +kernel)) (.nop c0) 0x1040 (.inl (by decide +kernel))) ∧
    Met (h (seqAt (0x05 + at8 20 3)) c0 _ (by decide +kernel) rfl (by decide +kernel) (by decide +kernel) (of_decide_eq_true (by decide +kernel)) (by decide +kernel) (by decide +kernel) (of_decide_eq_true (by decide +kernel)) (.jump c0) 0x10C0 (.inr (.inl (by decide +kernel)))) ∧
    Met (h (seqAt (0x06 + at8 16 1 + at8 24 0x4000)) c0 _ (by decide +kernel) rfl (by decide +kernel) (by decide +kernel) (of_decide_eq_true (by decide +kernel)) (by decide +kernel) (by decide +kernel) (of_decide_eq_true (by decide +kernel)) (.call c0) 0x4000 (.inr (.inr (.inl (by decide +kernel))))) := ⟨trivial, trivial, trivial⟩

theorem witness_SequencerFrame_2 (h : Obligations.SequencerFrame) :
    Met (h (seqAt 0x07) c0 _ (by decide +kernel) rfl (by decide +kernel) (by decide +kernel) (of_decide_eq_true (by decide +kernel)) (by decide +kernel) (by decide +kernel) (of_decide_eq_true (by decide +kernel)) (.ret c0) 0x2000 (.inr (.inr (.inr (by decide +kernel))))) := trivial
theorem witness_CompletionRecord (h : Obligations.CompletionRecord) :
    Met ((h bound0 c0 0x1000 (0x01 + at8 4 0xFFFF) 0 0 0 0 0).2.2 (.inl (by decide +kernel))) ∧
    Met ((h (up bound0 [(F.SQ_CREC_LIM_LIMIT.core c0, 4)]) c0 0x1000 0x80000001 0 5 0 0 0).2.2 (.inr (ok_unit _ (by decide +kernel)))) ∧
    Met ((h (up bound0 [(F.SQ_CREC_LIM_LIMIT.core c0, 4), (F.SQ_CREC.core c0, 2 ^ 40)]) c0 0x1000 0x80000001 0 5 0 0 0).2.1 0x2202 (by decide +kernel) (err_code _ _ (by decide +kernel))) := ⟨trivial, trivial, trivial⟩
/-- The core with a SIGNAL, WAIT or BARRIER ready, its virtual IDs translated at issue. -/
def syncAt (d : Nat) : State := bound0.onCore c0 (fun k => { k with ready := some { issued0 d [] with cells := [(2, 0, 5), (3, 0, 6)] } })

theorem witness_SequencerSyncs (h : Obligations.SequencerSyncs) :
    Met ((h (syncAt (pair 0x10)) c0 _ (by decide +kernel) rfl).1 (by decide +kernel)) ∧
    Met ((h (syncAt (pair 0x11)) c0 _ (by decide +kernel) rfl).2.1 (by decide +kernel)) ∧
    Met ((h (syncAt (0x12 + at8 16 3 + at8 20 4)) c0 _ (by decide +kernel) rfl).2.2 (by decide +kernel)) := ⟨trivial, trivial, trivial⟩
theorem witness_SequencerHolds (h : Obligations.SequencerHolds) :
    Met ((h (seqAt (0x03 + at8 16 9)) c0 _ (by decide +kernel) rfl).1 _ (by decide +kernel) (did _ (by decide +kernel))) ∧
    Met ((h (seqAt (0x18 + at8 16 4)) c0 _ (by decide +kernel) rfl).2.1 (by decide +kernel) (by decide +kernel)) ∧
    Met ((h (seqAt 0x02) c0 _ (by decide +kernel) rfl).2.2 (by decide +kernel) (by decide +kernel) (of_decide_eq_true (by decide +kernel))) := ⟨trivial, trivial, trivial⟩
/-- A descriptor that the sequencer evaluates, with a wait set. -/
def candAt (d : Nat) (ents : List WEntry) : State :=
  bound0.onCore c0 (fun k => { k with cand := some { addr := 0x1000, desc := d + at8 4 0xFFFF, ents := ents, sigSite := 0, sigCell := 0, expired := false, withdrawn := false, since := 0, cells := [] } })

/-- A wait-set entry on cell 5. -/
def ent0 (st : EntrySt) : WEntry := { ix := 0, vid := 2, thresh := 7, cons := false, site := 0, cell := 5, st := st }

/-- A FILL of one block of tensor 0, whose reference names one E4M3 block at 0x10000. -/
def fill0 : State :=
  { candAt (0x23 + at8 28 1 + at8 30 1) [] with mem := msetN [] 0 (natLe 0x10000 6 ++ natLe 0 12 ++ natLe (3 + 1 <<< 6 + 1 <<< 19) 6) }

/-- A core that holds a WAIT, a BARRIER or an ENQ. -/
def heldAt (op stage : Nat) (d : Nat) (ents : List WEntry) : State :=
  bound0.onCore c0 (fun k => { k with held := some { id := 1, op := op, addr := 0x1000, desc := op + d, ents := ents, sigSite := 0, sigCell := 0, since := 0, slot := 0, stage := stage, expired := false, withdrawn := false, bad := 0 } })

theorem witness_WaitSets_1 (h : Obligations.WaitSets) :
    Met (((h.1 (candAt 1 [ent0 .sent]) c0 (by decide +kernel) (by decide +kernel) (of_decide_eq_true (by decide +kernel)) (by decide +kernel) (by decide +kernel) (of_decide_eq_true (by decide +kernel)) (by decide +kernel)).1 _ rfl rfl rfl).1 (by decide +kernel)) ∧
    Met (((h.1 ((candAt (0x23 + at8 1 0x20) []).onCore c0 (fun k => { k with window := [issued0 0x20 []] })) c0 (by decide +kernel) (by decide +kernel) (of_decide_eq_true (by decide +kernel)) (by decide +kernel) (by decide +kernel) (of_decide_eq_true (by decide +kernel)) (by decide +kernel)).1 _ rfl rfl rfl).2.1 (by decide +kernel) (by decide +kernel)) ∧
    Met (((h.1 (candAt 1 [ent0 .satisfied]) c0 (by decide +kernel) (by decide +kernel) (of_decide_eq_true (by decide +kernel)) (by decide +kernel) (by decide +kernel) (of_decide_eq_true (by decide +kernel)) (by decide +kernel)).1 _ rfl rfl rfl).2.2.1 (by decide +kernel) (by decide +kernel) (of_decide_eq_true (by decide +kernel))) := ⟨trivial, trivial, trivial⟩

theorem witness_WaitSets_2 (h : Obligations.WaitSets) :
    Met (((h.1 fill0 c0 (by decide +kernel) (by decide +kernel) (of_decide_eq_true (by decide +kernel)) (by decide +kernel) (by decide +kernel) (of_decide_eq_true (by decide +kernel)) (by decide +kernel)).1 _ rfl rfl rfl).2.2.2 _ _ (by decide +kernel) (by decide +kernel) (of_decide_eq_true (by decide +kernel)) (ok_pair _ (by decide +kernel)) (by decide +kernel)) ∧
    Met ((h.1 bound0 c0 (by decide +kernel) (by decide +kernel) (of_decide_eq_true (by decide +kernel)) (by decide +kernel) (by decide +kernel) (of_decide_eq_true (by decide +kernel)) (by decide +kernel)).2 0 0 (by decide +kernel) (by decide +kernel) (of_decide_eq_true (by decide +kernel)) (ok_val _ _ (by decide +kernel))) ∧
    Met ((h.2 (up (candAt 1 [ent0 .sent]) [(F.SQ_HDR_TMO_TMO.core c0, 9)]) c0 (by decide +kernel)).1 _ rfl rfl rfl (by decide +kernel) (by decide +kernel)) := ⟨trivial, trivial, trivial⟩

theorem witness_WaitSets_3 (h : Obligations.WaitSets) :
    Met ((h.2 (heldAt 0x11 0 (at8 18 9) [ent0 .sent]) c0 (by decide +kernel)).2.1 _ rfl rfl rfl (.inl rfl) (by decide +kernel)) ∧
    Met ((h.2 (heldAt 0x12 0 (at8 24 9) [ent0 .noroom]) c0 (by decide +kernel)).2.1 _ rfl rfl rfl (.inr rfl) (by decide +kernel)) ∧
    Met ((h.2 (heldAt 0x18 2 (at8 20 9) []) c0 (by decide +kernel)).2.2 _ rfl rfl rfl (by decide +kernel) (by decide +kernel)) := ⟨trivial, trivial, trivial⟩
/-- The engine at LDS or STS on a stream, an input block of stream 0 fetched for lane 0. -/
def streamAt (op st : Nat) : State :=
  (laneAt (word op 3 1 st 0 8)).onCore c0 (fun k => { k with vx := { k.vx with preds := [([0], 2)], ins := [([0, 0, 0], [9, 8, 7])], buf := [(bufKey st 0 0 0 0, 11)] } })

theorem witness_LaneStreams (h : Obligations.LaneStreams) :
    Met (h.1 (streamAt 0x0B 2) c0 _ (at_lane _ _ (word 0x0B 3 1 2 0 8) (by decide +kernel)) (by decide +kernel) (by decide +kernel)) ∧
    Met ((h.2 (streamAt 0x0A 2) c0 _ (at_lane _ _ (word 0x0A 3 1 2 0 8) (by decide +kernel))).1 (by decide +kernel) (.inl (by decide +kernel))) ∧
    Met ((h.2 (streamAt 0x0A 0) c0 _ (at_lane _ _ (word 0x0A 3 1 0 0 8) (by decide +kernel))).2 (by decide +kernel)
      (fun l hl => (by decide +kernel : ∀ l ∈ enabled ((streamAt 0x0A 0).core c0).vx (word 0x0A 3 1 0 0 8),
        ((streamAt 0x0A 0).core c0).vx.ins.any (fun e => e.1 == [iB (word 0x0A 3 1 0 0 8) % 4, 0 / 32, l / 32]) = true ∧ (streamAt 0x0A 0).overlapped c0 ((streamAt 0x0A 0).core c0).vx 0
          (32 * (vxOrg ((streamAt 0x0A 0).core c0).vx.desc ((streamAt 0x0A 0).core c0).vx.ix).1 + 64 * 0 + l) (32 * (vxOrg ((streamAt 0x0A 0).core c0).vx.desc ((streamAt 0x0A 0).core c0).vx.ix).2 + 0) = false) l
        (by simpa [State.lit] using hl))) := ⟨trivial, trivial, trivial⟩
/-- A reference to one block at an address of a space: 0 panel memory, 1 core memory. -/
def ref0 (base space fmt : Nat) : TRef := { base := base, scale := 0, freeze := 0, fmt := fmt, space := space, brows := 1, bcols := 1, pitch := 0 }

/-- A core with one data descriptor in the issue window. -/
def dataAt (e : Issued) : State := bound0.onCore c0 (fun k => { k with window := [e] })

/-- A data descriptor of one block and its references. -/
def data0 (d : Nat) (a b : TRef) : Issued := issued0 (d + at8 28 1 + at8 30 1) [some a, some b]

/-- Group 0 with the dies 0 and 4, its root at die 0. -/
def group0 : List (Loc × Nat) :=
  [(F.BK_MC_ENTRY_VALID.at 0 0 0, 1), (F.BK_MC_ENTRY_ROOTSITE.at 0 0 0, 0), (F.BK_MC_NDIES_NDIES.at 0 0 0, 2)]

/-- Two blocks of panel memory. -/
def fillP : Issued := data0 0x23 (ref0 0 0 3) (ref0 0x20000 0 3)
/-- A FILL of core memory. -/
def fillC : Issued := data0 0x23 (ref0 0 0 3) (ref0 0x20000 1 3)
/-- A LOAD of one block. -/
def loadD : Issued := data0 0x20 (ref0 0x10000 0 3) (ref0 0x20000 1 3)
/-- A LOAD from beyond panel memory. -/
def loadX : Issued := data0 0x20 (ref0 (2 ^ 40) 0 3) (ref0 0x20000 1 3)
/-- A STORE of one block. -/
def storeD : Issued := data0 0x21 (ref0 0x20000 1 3) (ref0 0x10000 0 3)
/-- A STORE beyond panel memory. -/
def storeX : Issued := data0 0x21 (ref0 0x20000 1 3) (ref0 (2 ^ 40) 0 3)
/-- A COPY of one block of panel memory. -/
def copyP : Issued := data0 0x22 (ref0 0x10000 0 3) (ref0 0x20000 0 3)
/-- A COPY of one block of core memory. -/
def copyC : Issued := data0 0x22 (ref0 0x10000 1 3) (ref0 0x20000 1 3)
/-- An ACCUM of one block. -/
def accumD : Issued := data0 0x24 (ref0 0x10000 1 0) (ref0 0x20000 0 0)
/-- A GATHER of two rows. -/
def gatherD : Issued := data0 (0x26 + at8 40 0x4000 + at8 44 2) (ref0 0x10000 0 3) (ref0 0x20000 0 3)
/-- A SCATTER of two rows. -/
def scatterD : Issued := data0 (0x27 + at8 40 0x4000 + at8 44 2) (ref0 0x10000 0 3) (ref0 0x20000 0 3)
/-- An MCAST of one block to group 0. -/
def mcastD : Issued := data0 0x25 (ref0 0x10000 0 3) (ref0 0x20000 1 3)

theorem witness_DataDescriptors_1 (h : Obligations.DataDescriptors) :
    Met ((h.1 (dataAt fillP) _ c0 fillP (ref0 0x20000 0 3) (by decide +kernel) (by decide +kernel) (of_decide_eq_true (by decide +kernel)) (by decide +kernel)).1 (by decide +kernel) (did _ (by decide +kernel))) ∧
    Met ((h.1 (dataAt fillC) bound0 c0 fillC (ref0 0x20000 1 3) (by decide +kernel) (by decide +kernel) (of_decide_eq_true (by decide +kernel)) (by decide +kernel)).2 (by decide +kernel) (by decide +kernel) (of_decide_eq_true (by decide +kernel))) ∧
    Met ((h.2 (dataAt loadD) _ c0 loadD _ _ (by decide +kernel) (by decide +kernel) (of_decide_eq_true (by decide +kernel)) rfl rfl).1 (by decide +kernel) |>.1 (did _ (by decide +kernel))) := ⟨trivial, trivial, trivial⟩

theorem witness_DataDescriptors_2 (h : Obligations.DataDescriptors) :
    Met ((h.2 (dataAt loadX) _ c0 loadX _ _ (by decide +kernel) (by decide +kernel) (of_decide_eq_true (by decide +kernel)) rfl rfl).1 (by decide +kernel) |>.2 0x2202 (failed _ _ (by decide +kernel))) ∧
    Met ((h.2 (dataAt storeD) _ c0 storeD _ _ (by decide +kernel) (by decide +kernel) (of_decide_eq_true (by decide +kernel)) rfl rfl).2.1 (by decide +kernel) |>.1 (did _ (by decide +kernel))) ∧
    Met ((h.2 (dataAt storeX) _ c0 storeX _ _ (by decide +kernel) (by decide +kernel) (of_decide_eq_true (by decide +kernel)) rfl rfl).2.1 (by decide +kernel) |>.2 0x2202 (failed _ _ (by decide +kernel))) := ⟨trivial, trivial, trivial⟩

theorem witness_DataDescriptors_3 (h : Obligations.DataDescriptors) :
    Met ((h.2 (dataAt copyP) _ c0 copyP _ _ (by decide +kernel) (by decide +kernel) (of_decide_eq_true (by decide +kernel)) rfl rfl).2.2.1 (by decide +kernel) |>.1 rfl (did _ (by decide +kernel))) ∧
    Met ((h.2 (dataAt copyC) bound0 c0 copyC _ _ (by decide +kernel) (by decide +kernel) (of_decide_eq_true (by decide +kernel)) rfl rfl).2.2.1 (by decide +kernel) |>.2 (by decide +kernel) rfl (by decide +kernel)) ∧
    Met ((h.2 { dataAt accumD with accOut := [([0, 0], 2 ^ 40), ([0, 1], 2 ^ 40)] } _ c0 accumD _ _ (by decide +kernel) (by decide +kernel) (of_decide_eq_true (by decide +kernel)) rfl rfl).2.2.2.1 _ _ (by decide +kernel) (ok_quad _ (by decide +kernel))) := ⟨trivial, trivial, trivial⟩

theorem witness_DataDescriptors_4 (h : Obligations.DataDescriptors) :
    Met ((h.2 (dataAt gatherD) _ c0 gatherD _ _ (by decide +kernel) (by decide +kernel) (of_decide_eq_true (by decide +kernel)) rfl rfl).2.2.2.2.1 _ _ _ _ (.inl (by decide +kernel)) (ok_pair _ (by decide +kernel)) (by decide +kernel) (ok_quad _ (by decide +kernel))) ∧
    Met ((h.2 (dataAt scatterD) _ c0 scatterD _ _ (by decide +kernel) (by decide +kernel) (of_decide_eq_true (by decide +kernel)) rfl rfl).2.2.2.2.1 _ _ _ _ (.inr (by decide +kernel)) (ok_pair _ (by decide +kernel)) (by decide +kernel) (ok_quad _ (by decide +kernel))) ∧
    Met ((h.2 (up (dataAt mcastD) group0) _ c0 mcastD _ _ (by decide +kernel) (by decide +kernel) (of_decide_eq_true (by decide +kernel)) rfl rfl).2.2.2.2.2 _ (by decide +kernel) rfl (ok_pair _ (by decide +kernel)) (by decide +kernel)) := ⟨trivial, trivial, trivial⟩
/-- A request of core 0. -/
def who0 : Who := whoOf (issued0 0x20 [])

theorem witness_TiledBlocks_1 (h : Obligations.TiledBlocks) :
    Met (h.1 bound0 _ _ c0 who0 (ref0 0 0 3) (ref0 0x8000 0 3) 0 0 0 0 false false (List.replicate 1024 0) [] rfl rfl (gave _ _ (by decide +kernel)) (did _ (by decide +kernel))) ∧
    Met ((h.2.1 (List.replicate 1024 3) List.length_replicate).2 1 2 (by decide +kernel) (by decide +kernel)) ∧
    Met (h.2.2.1 (List.replicate 16 5) List.length_replicate) := ⟨trivial, trivial, trivial⟩

theorem witness_TiledBlocks_2 (h : Obligations.TiledBlocks) :
    Met (h.2.2.2 .e4m3 (List.replicate 1024 255) List.length_replicate (by decide +kernel)) := trivial
/-- A matrix or vector descriptor of one block, its operands in core memory. -/
def work0 (d : Nat) : Issued :=
  issued0 d [some (ref0 0 1 3), some (ref0 0x1000 1 3), some (ref0 0x2000 1 3), some (ref0 0x3000 1 3), some (ref0 0x4000 1 3), some (ref0 0x5000 1 3), some (ref0 0x6000 1 3)]

/-- MM, MM_ACC and PBP of one block of K. -/
def mmD (op : Nat) : Issued := work0 (op + at8 36 1)

/-- VRUN or VREDUCE of one block on the program in slot 0. -/
def vxD (op : Nat) : Issued := work0 (op + at8 38 1 + at8 40 1)

/-- The core with a program of three words in slot 0. -/
def vxAt (op : Nat) : State :=
  { up (dataAt (vxD op)) [(slotLenLoc c0 0, 3)] with ework := [([0, 0, progAddr 0 0], 0x400 + 1), ([0, 0, progAddr 0 1], 0), ([0, 0, progAddr 0 2], 0)] }

theorem witness_EnginesBegin_1 (h : Obligations.EnginesBegin) :
    Met (h.1 (.mm, 0x40) (by simp) (dataAt (mmD 0x40)) _ _ c0 (mmD 0x40) _ (by decide +kernel) (by decide +kernel) (of_decide_eq_true (by decide +kernel)) (by decide +kernel) (by decide +kernel) (of_decide_eq_true (by decide +kernel)) (by decide +kernel) (ok_pair _ (by decide +kernel)) (did _ (by decide +kernel))) ∧
    Met (h.1 (.mmAcc, 0x41) (by simp) (dataAt (mmD 0x41)) _ _ c0 (mmD 0x41) _ (by decide +kernel) (by decide +kernel) (of_decide_eq_true (by decide +kernel)) (by decide +kernel) (by decide +kernel) (of_decide_eq_true (by decide +kernel)) (by decide +kernel) (ok_pair _ (by decide +kernel)) (did _ (by decide +kernel))) ∧
    Met (h.1 (.pbp, 0x42) (by simp) (dataAt (mmD 0x42)) _ _ c0 (mmD 0x42) _ (by decide +kernel) (by decide +kernel) (of_decide_eq_true (by decide +kernel)) (by decide +kernel) (by decide +kernel) (of_decide_eq_true (by decide +kernel)) (by decide +kernel) (ok_pair _ (by decide +kernel)) (did _ (by decide +kernel))) := ⟨trivial, trivial, trivial⟩

theorem witness_EnginesBegin_2 (h : Obligations.EnginesBegin) :
    Met (h.2 (.vrun, 0x30) (by simp) (vxAt 0x30) _ _ c0 (vxD 0x30) _ (by decide +kernel) (by decide +kernel) (of_decide_eq_true (by decide +kernel)) (by decide +kernel) (by decide +kernel) (of_decide_eq_true (by decide +kernel)) (did _ (by decide +kernel)) (by decide +kernel) (ok_pair _ (by decide +kernel))) ∧
    Met (h.2 (.vreduce, 0x31) (by simp) (vxAt 0x31) _ _ c0 (vxD 0x31) _ (by decide +kernel) (by decide +kernel) (of_decide_eq_true (by decide +kernel)) (by decide +kernel) (by decide +kernel) (of_decide_eq_true (by decide +kernel)) (did _ (by decide +kernel)) (by decide +kernel) (ok_pair _ (by decide +kernel))) := ⟨trivial, trivial⟩
/-- A sum of zeros is +0 in whatever order it is made, held wide or in binary32 (R72, R73, R99). -/
theorem sum_of_zeros (n : Nat) (l : List Machine.Num) (h : (l.all (fun t => match t with | .fin false 0 _ => true | _ => false)) = true) :
    sumOpen n l = 0 ∧ sumBin32 n l = 0 := by
  have zero (b : Bool) : toB32 (openSum b n l.length l) = 0 := by
    obtain ⟨e, he⟩ := openSum_zeros b n l.length l (fun x hx => by
      have := List.all_eq_true.mp h x hx
      split at this
      · exact ⟨_, rfl⟩
      · cases this)
    rw [he]
    simp only [toB32, encodeNum, bnat, if_true]
    rfl
  exact ⟨zero false, zero true⟩

/-- An element of a list of one value. -/
theorem getD_replicate {α : Type} (k n : Nat) (z : α) : (List.replicate k z).getD n z = z := by
  by_cases hn : n < k <;> simp [List.getD, hn]

/-- An element of blocks of one value. -/
theorem getD_blocks {α : Type} (p q r i j k : Nat) (z : α) :
    (((List.replicate p (List.replicate q (List.replicate r z))).getD i []).getD j []).getD k z = z := by
  by_cases hi : i < p <;> by_cases hj : j < q <;> by_cases hl : k < r <;> simp [List.getD, hi, hj, hl]

/-- A tile-segment whose operands lie beyond the grid drains zeros (R72, R77, R85). -/
theorem drain_of_zeros (s : State) (c : CoreId) (m : Mx) (g : Seg) (n : Nat) (flips : List (Nat × Nat)) (hk : g.kind = 0) (h1 : g.kn = 1)
    (ha : ∀ ib kb, aSource m g ib kb = none) (hb : ∀ kb jb, bSource m g kb jb = none) (hf : flipped flips 0 (List.replicate 4096 0) = List.replicate 4096 0) :
    s.drain c m g n flips = { cells := List.replicate 4096 0, p := flipped flips 4096 (List.replicate 64 0), q := flipped flips 4160 (List.replicate 64 0), sums := List.replicate 64 0 } := by
  have s1 (x : Nat) : sumBin32 x (List.replicate 64 zeroNum) = 0 := (sum_of_zeros _ _ (by decide +kernel)).2
  have s2 (x : Nat) : sumOpen x (zeroNum :: List.replicate 32 zeroNum) = 0 := (sum_of_zeros _ _ (by decide +kernel)).1
  have s3 : stepSum (List.replicate 32 (rounded (mulNum zeroNum (ofB32 0)))) = 0 := by decide +kernel
  have s4 (x : Nat) : sumBin32 x (List.replicate 64 (ofB32 0)) = 0 := (sum_of_zeros _ _ (by decide +kernel)).2
  have m0 : mulNum zeroNum zeroNum = zeroNum := by decide +kernel
  have a0 : absNum zeroNum = zeroNum := by decide +kernel
  have b0 (k n : Nat) : rounded (mulNum zeroNum ((List.replicate k (ofB32 0)).getD n zeroNum)) = rounded (mulNum zeroNum (ofB32 0)) := by
    by_cases hn : n < k
    · simp [List.getD, hn]
    · simp only [List.getD, List.getElem?_replicate, hn, if_false, Option.getD_none]
      decide +kernel
  simp only [State.drain, hk, h1, ha, hb, State.presented, if_true, m0, a0, List.map_const', List.length_range, getD_blocks, Nat.mul_one, cellSum, s1, s2, b0, s3, s4, hf, getD_replicate]


/-- The matrix engine on MM of four tiles over tensors of one block. -/
def mx1 (check : Bool) (segs : List Seg) : Mx :=
  { mxReset with active := true, id := 1, desc := 0x40 + at8 36 1 + at8 38 5, ix := [0, 0, 0, 0, 0, 0, 0], trefs := (mmD 0x40).trefs, check := check, segs := segs }

/-- Its last tile-segment, beyond the grid. -/
def seg1 (rerun : Bool) : Seg := ⟨3, 0, 1, 1, 0, 1, rerun, 0, 0, [], []⟩

/-- The core at that tile-segment. -/
def segAt (check rerun : Bool) : State := (dataAt (mmD 0x40)).onCore c0 (fun k => { k with mx := mx1 check [seg1 rerun] })

/-- Its drain, with a bit of row 0's P cell flipped or none. -/
theorem seg1_drain (s : State) (check rerun : Bool) (n : Nat) (flips : List (Nat × Nat)) (hf : flipped flips 0 (List.replicate 4096 0) = List.replicate 4096 0) :
    s.drain c0 (mx1 check [seg1 rerun]) (seg1 rerun) n flips =
      { cells := List.replicate 4096 0, p := flipped flips 4096 (List.replicate 64 0), q := flipped flips 4160 (List.replicate 64 0), sums := List.replicate 64 0 } := by
  have l : liveRC (mx1 check [seg1 rerun]).desc (mx1 check [seg1 rerun]).ix (mx1 check [seg1 rerun]).trefs = (1, 1) := by
    show liveRC (mx1 true [seg1 true]).desc (mx1 true [seg1 true]).ix (mx1 true [seg1 true]).trefs = (1, 1)
    decide +kernel
  refine drain_of_zeros _ _ _ _ _ _ rfl rfl (fun ib kb => ?_) (fun kb jb => ?_) hf
  · simp only [aSource, l]
    exact if_neg (by simp only [seg1]; omega)
  · simp only [bSource, l]
    exact if_neg (by simp only [seg1]; omega)

/-- A fault of the P cells flips no partial. -/
theorem flip_elsewhere (flips : List (Nat × Nat)) (v : List Nat) (h : ∀ f ∈ flips, v.length ≤ f.1) : flipped flips 0 v = v := by
  apply List.ext_getElem (by simp [flipped])
  intro i h1 h2
  simp only [flipped, List.getElem_mapIdx]
  have : ∀ (l : List (Nat × Nat)) (x : Nat), (∀ f ∈ l, v.length ≤ f.1) → l.foldl (fun v f => if f.1 = 0 + i then v ^^^ (1 <<< (f.2 % 32)) else v) x = x := by
    intro l
    induction l with
    | nil => intros; rfl
    | cons f r ih =>
      intro x hx
      have := hx f (List.mem_cons_self ..)
      rw [List.foldl_cons, if_neg (by omega)]
      exact ih x fun e he => hx e (List.mem_cons_of_mem _ he)
  exact this flips _ h

/-- Its sums hold with no fault. -/
theorem seg1_holds (s : State) (n : Nat) (check : Bool) :
    let m := mx1 check [seg1 false]
    let d := s.drain c0 m (seg1 false) n []
    let rows := (List.range 64).map (fun i => rowCheck m.tol (d.sums.getD i 0) (d.p.getD i 0) (d.q.getD i 0))
    (List.range 64).filter (fun i => rows.getD i none == some true) = [] := by
  intro m d
  have e : d = _ := seg1_drain s check false n [] (flip_elsewhere _ _ (fun f hf => absurd hf List.not_mem_nil))
  have z : m.tol = mxReset.tol := rfl
  rw [e, z]
  decide +kernel

/-- A flipped bit of row 0's P cell fails row 0. -/
theorem seg1_fails (s : State) (n : Nat) (rerun : Bool) :
    let m := mx1 true [seg1 rerun]
    let d := s.drain c0 m (seg1 rerun) n [(4096, 30)]
    let rows := (List.range 64).map (fun i => rowCheck m.tol (d.sums.getD i 0) (d.p.getD i 0) (d.q.getD i 0))
    (List.range 64).filter (fun i => rows.getD i none == some true) = [0] := by
  intro m d
  have e : d = _ := seg1_drain s true rerun n [(4096, 30)] (flip_elsewhere _ _ (fun f hf => by
    rw [List.mem_singleton] at hf
    rw [hf]
    exact Nat.le_of_eq List.length_replicate))
  have z : m.tol = mxReset.tol := rfl
  rw [e, z]
  decide +kernel

theorem witness_TileSegments_1 (h : Obligations.TileSegments) :
    Met ((h.1 (segAt false false) (segAt false false) c0 [] (seg1 false) [] (mx1 false [seg1 false]) (by decide +kernel) rfl (by decide +kernel) (left _ _ (by decide +kernel))).1 rfl) ∧
    Met ((h.1 (segAt true false) (segAt true false) c0 [] (seg1 false) [] (mx1 true [seg1 false]) (by decide +kernel) rfl (by decide +kernel) (left _ _ (by decide +kernel))).2.1 rfl (seg1_holds _ _ _)) ∧
    Met ((h.1 (segAt true false) (segAt true false) c0 [(4096, 30)] (seg1 false) [] (mx1 true [seg1 false]) (by decide +kernel) rfl (by decide +kernel) (left _ _ (by decide +kernel))).2.2.1 0 [] rfl (seg1_fails _ _ _) rfl) := ⟨trivial, trivial, trivial⟩

theorem witness_TileSegments_2 (h : Obligations.TileSegments) :
    Met ((h.1 (segAt true true) (segAt true true) c0 [(4096, 30)] (seg1 true) [] (mx1 true [seg1 true]) (by decide +kernel) rfl (by decide +kernel) (left _ _ (by decide +kernel))).2.2.2 0 [] rfl (seg1_fails _ _ _) rfl) ∧
    Met (h.2.1 8 0 0 0x7F800000 (by decide +kernel)) ∧
    Met (h.2.2.1 8 0x7F800000 0 0 (by decide +kernel) (.inl (by decide +kernel))) := ⟨trivial, trivial, trivial⟩

theorem witness_TileSegments_3 (h : Obligations.TileSegments) :
    Met (h.2.2.2 8 0x3F800000 0x3F800000 0x3F800000 (by decide +kernel) (by decide +kernel) (of_decide_eq_true (by decide +kernel))) := trivial
/-- The core with one tile to convert, the descriptor's blocks in core memory. -/
def convAt : State := (dataAt (mmD 0x40)).onCore c0 (fun k => { k with mx := { mx1 false [] with convs := [⟨0, 0, 0, 0, 0, 1, false, 0, 0, [], []⟩] } })

/-- The core with one block column of stream 2 to write, its program over. -/
def columnAt (op : Nat) : State :=
  (dataAt (vxD op)).onCore c0 (fun k => { k with vx := { vxReset with active := true, id := 1, desc := (vxD op).desc, ix := (vxD op).ix, trefs := (vxD op).trefs, section_ := 3, wb := [(2, 0, 0)], buf := [(bufKey 2 0 0 0 0, 2 * 0x3F800000 + 1)] } })

/-- A descriptor done, with the code that failed it. -/
def doneD (bad : Nat) : Issued := { fillP with phase := .done, bad := bad }

theorem witness_WorkEnds_1 (h : Obligations.WorkEnds) :
    Met ((h convAt c0 (by decide +kernel)).1 ⟨0, 0, 0, 0, 0, 1, false, 0, 0, [], []⟩ [] (ref0 0x2000 1 3) _ (by decide +kernel) (by decide +kernel) (of_decide_eq_true (by decide +kernel)) (by decide +kernel) (by decide +kernel) (did _ (by decide +kernel))) ∧
    Met ((h (columnAt 0x30) c0 (by decide +kernel)).2.1 2 0 0 [] _ (by decide +kernel) (by decide +kernel) (did _ (by decide +kernel))) ∧
    Met ((h (columnAt 0x31) c0 (by decide +kernel)).2.1 2 0 0 [] _ (by decide +kernel) (by decide +kernel) (did _ (by decide +kernel))) := ⟨trivial, trivial, trivial⟩

theorem witness_WorkEnds_2 (h : Obligations.WorkEnds) :
    Met ((h (dataAt (doneD 0)) c0 (by decide +kernel)).2.2.1 (doneD 0) (by decide +kernel)) ∧
    Met ((h (dataAt (doneD 0x2202)) c0 (by decide +kernel)).2.2.2 (doneD 0x2202) (by decide +kernel)) := ⟨trivial, trivial⟩
theorem witness_FormatCodes_1 (h : Obligations.FormatCodes) :
    Met ((h (.e5m2, 5, 2, 15) (by simp) 3 (by decide +kernel)).1 (by decide +kernel)) ∧
    Met ((h (.e2m1, 2, 1, 1) (by simp) 15 (by decide +kernel)).2.1 (by decide +kernel) (by decide +kernel)) ∧
    Met ((h (.e4m3, 4, 3, 7) (by simp) 0x7E (by decide +kernel)).2.1 (by decide +kernel) (by decide +kernel)) := ⟨trivial, trivial, trivial⟩

theorem witness_FormatCodes_2 (h : Obligations.FormatCodes) :
    Met ((h (.e4m3, 4, 3, 7) (by simp) 0x7F (by decide +kernel)).2.2.1 rfl (by decide +kernel) (by decide +kernel)) ∧
    Met ((h (.b32, 8, 23, 127) (by simp) 0x7F800000 (by decide +kernel)).2.2.2 (by decide +kernel) (by decide +kernel) (of_decide_eq_true (by decide +kernel))) := ⟨trivial, trivial⟩
theorem witness_FormatsRoundTrip (h : Obligations.FormatsRoundTrip) :
    Met (h.1 .e4m3 0xFE true (genSeed 5) (by decide +kernel) (by decide +kernel)) ∧
    Met ((h.2 0x00000001 false false (genSeed 5) (by decide +kernel) (by decide +kernel)).2.1 (by decide +kernel)) ∧
    Met ((h.2 0x80000000 true false (genSeed 5) (by decide +kernel) (by decide +kernel)).2.2 (by decide +kernel)) := ⟨trivial, trivial, trivial⟩
theorem witness_RegisterWords (h : Obligations.RegisterWords) :
    Met ((h lit0 0 8 .sync 0x10C 0xFFFFFFFF 1088 (by decide +kernel) (by decide +kernel)).1) ∧
    Met ((h lit0 0 8 .sync 0x10C 0xFFFFFFFF 1088 (by decide +kernel) (by decide +kernel)).2.1 (F.SITE_STATE_STATE.at 0) (by decide +kernel)) := ⟨trivial, trivial⟩
theorem witness_RegisterWrites_1 (h : Obligations.RegisterWrites) :
    Met ((h State.reset 0 0x7F 0x104 1 1088 306 (by decide +kernel)).1 (.inl (by decide +kernel))) ∧
    Met ((h (up lit0 [(F.PG_STAT_FENCED.at 2 0x20, 1)]) 2 0x20 0xC 0 1088 306 (by decide +kernel)).2.1 (.inr (by decide +kernel)) (by decide +kernel)) ∧
    Met ((h lit0 2 0x20 0x100 0 1088 306 (by decide +kernel)).2.2.1 .stkCache (by decide +kernel) (by decide +kernel) (of_decide_eq_true (by decide +kernel))) := ⟨trivial, trivial, trivial⟩

theorem witness_RegisterWrites_2 (h : Obligations.RegisterWrites) :
    Met ((h lit0 2 0x20 0x100 0 1 0 (by decide +kernel)).2.2.2.1 0 0x5201 2 8 131328 (by decide +kernel) (by decide +kernel) (of_decide_eq_true (by decide +kernel)) (by decide +kernel)) ∧
    Met ((h lit0 2 0x20 0x100 0 1088 306 (by decide +kernel)).2.2.2.2 .stkCache (by decide +kernel) (by decide +kernel) (of_decide_eq_true (by decide +kernel)) (by decide +kernel) (by decide +kernel) (of_decide_eq_true (by decide +kernel)) (by decide +kernel) (by decide +kernel) (of_decide_eq_true (by decide +kernel))) := ⟨trivial, trivial⟩
/-- Core 0 in a state of its own, not bound. -/
def coreAt (st : Nat) : State := up lit0 [(F.CORE_STATE_STATE.core c0, st), (F.CORE_STOP_CODE.core c0, 3)]

theorem witness_CoreControls_1 (h : Obligations.CoreControls) :
    Met (((h bound0 c0).1 (by decide +kernel)).1 (.inl (by decide +kernel))) ∧
    Met (((h (coreAt 5) c0).1 (by decide +kernel)).2.1 (by decide +kernel)) ∧
    Met (((h (coreAt 5) c0).1 (by decide +kernel)).2.2.1 (by decide +kernel)) := ⟨trivial, trivial, trivial⟩

theorem witness_CoreControls_2 (h : Obligations.CoreControls) :
    Met (((h (coreAt 5) c0).1 (by decide +kernel)).2.2.2.1 (by decide +kernel)) ∧
    Met (((h bound0 c0).1 (by decide +kernel)).2.2.2.2 (by decide +kernel)) ∧
    Met ((h (coreAt 5) c0).2.1 0xDEADBEEF (by decide +kernel) (by decide +kernel)) := ⟨trivial, trivial, trivial⟩

theorem witness_CoreControls_3 (h : Obligations.CoreControls) :
    Met (((h (coreAt 5) c0).2.2 (by decide +kernel) (by decide +kernel)).1 (by decide +kernel) (by decide +kernel)) ∧
    Met (((h (up (coreAt 5) [(F.CB_DBG_ADDR_ADDR.core c0, 4)]) c0).2.2 (by decide +kernel) (by decide +kernel)).2.1 0x12345678 (by decide +kernel) (.inr (by decide +kernel))) ∧
    Met (((h bound0 c0).2.2 (by decide +kernel) (by decide +kernel)).2.2 7 (by decide +kernel)) := ⟨trivial, trivial, trivial⟩
/-- Die 0 in partition 2, whose context 1 is ACTIVE. -/
def busy0 : State := up lit0 [(F.CX_CFG_PART.at stw 0 1, 2), (F.PT_PLOTS0_PLOTS.at stw 0 2, 1), (F.PT_CFG_VALID.at stw 0 2, 1), (F.CX_STATE_STATE.at stw 0 1, 2)]

/-- The core with a FILL or COPY of core memory under way. -/
def fillingAt : State := up (dataAt { copyC with phase := .running }) [(F.CB_STAT_FILLING.core c0, 1)] |>.onCore c0 (fun k => { k with fillFor := 1 })

theorem witness_StoreCommands_1 (h : Obligations.StoreCommands) :
    Met (h.1 lit0 c0 0x3FFFFD 0 [1, 2, 3] (by decide +kernel) (by decide +kernel) (of_decide_eq_true (by decide +kernel))) ∧
    Met (h.2.1 { lit0 with cmem := [(0x10, 7)] } c0 0x10 4 0 (by decide +kernel) (by decide +kernel) (of_decide_eq_true (by decide +kernel)) (by decide +kernel)) ∧
    Met (h.2.2.1 lit0 c0 0x2FFFFFD 0 [1, 2, 3] (by decide +kernel) (by decide +kernel) (of_decide_eq_true (by decide +kernel))) := ⟨trivial, trivial, trivial⟩

theorem witness_StoreCommands_2 (h : Obligations.StoreCommands) :
    Met (h.2.2.2.1 lit0 c0 0x10 4 0 (by decide +kernel) (by decide +kernel) (of_decide_eq_true (by decide +kernel)) (by decide +kernel)) ∧
    Met (h.2.2.2.2.1 { lit0 with dmReread := [⟨0, 0, 0x10, 5, 0xC, 8⟩] } c0 ⟨0, 0, 0x10, 5, 0xC, 8⟩ (by decide +kernel) (by decide +kernel) (of_decide_eq_true (by decide +kernel))) ∧
    Met ((h.2.2.2.2.2.1 busy0 0 (5 + 1 <<< 16) (by decide +kernel) (by decide +kernel) (of_decide_eq_true (by decide +kernel)) (by decide +kernel)).1 (by decide +kernel) (by decide +kernel) (of_decide_eq_true (by decide +kernel))) := ⟨trivial, trivial, trivial⟩

theorem witness_StoreCommands_3 (h : Obligations.StoreCommands) :
    Met ((h.2.2.2.2.2.1 lit0 0 (5 + 1 <<< 16) (by decide +kernel) (by decide +kernel) (of_decide_eq_true (by decide +kernel)) (by decide +kernel)).2.1 (by decide +kernel) (.inl (by decide +kernel))) ∧
    Met ((h.2.2.2.2.2.1 lit0 0 (5 + 1 <<< 16) (by decide +kernel) (by decide +kernel) (of_decide_eq_true (by decide +kernel)) (by decide +kernel)).2.2) ∧
    Met (h.2.2.2.2.2.2.1 { up lit0 [(F.DIEMEM_REGION_SCRUB.at 0 0 2, 1)] with regionPend := [([0, 2], regionPack 5 1 0)], dmem := [(dieAddr 0 0x200000, 9)] } 0 2 (by decide +kernel) (by decide +kernel)) := ⟨trivial, trivial, trivial⟩

theorem witness_StoreCommands_4 (h : Obligations.StoreCommands) :
    Met (h.2.2.2.2.2.2.2.1 (up lit0 [(F.CB_STAT_ZEROING.core c0, 1)]) c0 (by decide +kernel)) ∧
    Met (h.2.2.2.2.2.2.2.2 fillingAt _ c0 { copyC with phase := .running } _ _ (by decide +kernel) (by decide +kernel) (of_decide_eq_true (by decide +kernel)) rfl rfl (by decide +kernel) (did _ (by decide +kernel))) := ⟨trivial, trivial⟩
/-- A request of core 0 to stack 0. -/
def req0 (type vc addr len : Nat) (data : List Byte) : Pkt :=
  sealPkt { type := type, vc := vc, dest := 2, src := 0, sunit := 0, master := 1, addr := addr, len := len, data := data }

/-- Stack 0 with a line in its cache. -/
def lineAt : State := { lit0.allocLine 0 16 15 0 false with mem := [(stkAddr 0 0x1003, 7)] }

/-- Stack 0 with a READ waiting for its line. -/
def missAt (rereads : List (Nat × Nat)) : State := lit0.setStk 0 { lit0.stk 0 with waitFill := [req0 1 0 0x1000 1 []], rereads := rereads }

/-- A partial write. -/
def part0 : Pkt := sealPkt { type := 3, dest := 2, src := 0, sunit := 0, master := 1, addr := 0x1000, len := 1, bmask := 0x8001, data := List.replicate 64 5 }

/-- A contribution of sixteen numbers. -/
def acc0 : Pkt := sealPkt { type := 6, vc := 3, dest := 2, src := 0, sunit := 0, master := 1, addr := 0x1000, len := 1, fmt := 0, inl := [0], data := (List.replicate 16 [(0 : Byte), 0, 0x80, 0x3F]).flatten }

/-- A stream program. -/
def prog0 : Pkt := sealPkt { type := 5, dest := 2, src := 0, sunit := 0, master := 1, inl := natLe 4 4 ++ natLe 2 2 ++ natLe 2 4 ++ natLe 3 2 ++ natLe 1 2 }

/-- A contribution queued. -/
def accAt (k : Pkt) : State := lineAt.setStk 0 { lineAt.stk 0 with accq := [k] }

/-- A queue with no room for another. -/
def fullAt : State := lit0.setStk 0 { lit0.stk 0 with accq := List.replicate 64 { acc0 with data := List.replicate 4096 0 } }

theorem witness_StackRequests_1 (h : Obligations.StackRequests) :
    Met (((h.1 lineAt 0 (req0 1 0 0x1000 1 []) (by decide +kernel) (by decide +kernel) rfl (by decide +kernel) (by decide +kernel) (of_decide_eq_true (by decide +kernel))).1 (.read, 1) (by simp) (by decide +kernel) (by decide +kernel) (of_decide_eq_true (by decide +kernel))).1 (by decide +kernel)) ∧
    Met (((h.1 lineAt 0 (req0 4 0 0x1000 1 []) (by decide +kernel) (by decide +kernel) rfl (by decide +kernel) (by decide +kernel) (of_decide_eq_true (by decide +kernel))).1 (.fetch, 4) (by simp) (by decide +kernel) (by decide +kernel) (of_decide_eq_true (by decide +kernel))).1 (by decide +kernel)) ∧
    Met (((h.1 lit0 0 (req0 1 0 0x1000 1 []) (by decide +kernel) (by decide +kernel) rfl (by decide +kernel) (by decide +kernel) (of_decide_eq_true (by decide +kernel))).1 (.read, 1) (by simp) (by decide +kernel) (by decide +kernel) (of_decide_eq_true (by decide +kernel))).2 (by decide +kernel)) := ⟨trivial, trivial, trivial⟩

theorem witness_StackRequests_2 (h : Obligations.StackRequests) :
    Met (((h.1 lit0 0 (req0 4 0 0x1000 1 []) (by decide +kernel) (by decide +kernel) rfl (by decide +kernel) (by decide +kernel) (of_decide_eq_true (by decide +kernel))).1 (.fetch, 4) (by simp) (by decide +kernel) (by decide +kernel) (of_decide_eq_true (by decide +kernel))).2 (by decide +kernel)) ∧
    Met ((h.1 lit0 0 (req0 2 0 0x1000 1 (List.replicate 64 9)) (by decide +kernel) (by decide +kernel) rfl (by decide +kernel) (by decide +kernel) (of_decide_eq_true (by decide +kernel))).2.1 (by decide +kernel) (by decide +kernel) (of_decide_eq_true (by decide +kernel)) (by decide +kernel) (by decide +kernel) (of_decide_eq_true (by decide +kernel)) (by decide +kernel) (by decide +kernel) (of_decide_eq_true (by decide +kernel))) ∧
    Met ((h.1 lineAt 0 part0 (by decide +kernel) (by decide +kernel) rfl (by decide +kernel) (by decide +kernel) (of_decide_eq_true (by decide +kernel))).2.2.1 (by decide +kernel) (by decide +kernel) (of_decide_eq_true (by decide +kernel)) (by decide +kernel) (by decide +kernel) (of_decide_eq_true (by decide +kernel)) (by decide +kernel) (by decide +kernel) (of_decide_eq_true (by decide +kernel))) := ⟨trivial, trivial, trivial⟩

theorem witness_StackRequests_3 (h : Obligations.StackRequests) :
    Met ((h.1 fullAt 0 acc0 (by decide +kernel) (by decide +kernel) rfl (by decide +kernel) (by decide +kernel) (of_decide_eq_true (by decide +kernel))).2.2.2.1 (by decide +kernel) (by decide +kernel) (of_decide_eq_true (by decide +kernel))) ∧
    Met ((h.1 lit0 0 acc0 (by decide +kernel) (by decide +kernel) rfl (by decide +kernel) (by decide +kernel) (of_decide_eq_true (by decide +kernel))).2.2.2.2.1 (by decide +kernel) (by decide +kernel) (of_decide_eq_true (by decide +kernel))) ∧
    Met ((h.1 (up lit0 [(F.SC_CTL_PF_EN.at 2, 1)]) 0 prog0 (by decide +kernel) (by decide +kernel) rfl (by decide +kernel) (by decide +kernel) (of_decide_eq_true (by decide +kernel))).2.2.2.2.2 0 (by decide +kernel) (by decide +kernel) (of_decide_eq_true (by decide +kernel)) (by decide +kernel) (by decide +kernel) (of_decide_eq_true (by decide +kernel)) (by decide +kernel) (by decide +kernel) (of_decide_eq_true (by decide +kernel))) := ⟨trivial, trivial, trivial⟩

theorem witness_StackRequests_4 (h : Obligations.StackRequests) :
    Met ((h.2 (missAt []) 0 (by decide +kernel)).1 16 3 (by decide +kernel) (by decide +kernel) (of_decide_eq_true (by decide +kernel))) ∧
    Met (((h.2 (missAt [(64, 0)]) 0 (by decide +kernel)).2.1 64 0 [] (by decide +kernel) (by decide +kernel) (of_decide_eq_true (by decide +kernel))).1) ∧
    Met (((h.2 (missAt [(64, 0)]) 0 (by decide +kernel)).2.1 64 0 [] (by decide +kernel) (by decide +kernel) (of_decide_eq_true (by decide +kernel))).2.1 rfl) := ⟨trivial, trivial, trivial⟩

theorem witness_StackRequests_5 (h : Obligations.StackRequests) :
    Met (((h.2 (missAt [(64, 1)]) 0 (by decide +kernel)).2.1 64 1 [] (by decide +kernel) (by decide +kernel) (of_decide_eq_true (by decide +kernel))).2.2 rfl) ∧
    Met ((h.2 (lit0.setPfe 0 3 { used := true, start := 16, run := 1, stride := 1, count := 1, master := 1, next := 1, reached := 0, last := 0, inflight := [16] }) 0 (by decide +kernel)).2.2.1 16 0 3 (by decide +kernel) (by decide +kernel)) ∧
    Met (((h.2 (accAt { acc0 with fmt := 9 }) 0 (by decide +kernel)).2.2.2 { acc0 with fmt := 9 } [] 0x1000 (by decide +kernel) (by decide +kernel) (of_decide_eq_true (by decide +kernel)) (by decide +kernel) (by decide +kernel) (of_decide_eq_true (by decide +kernel))).1 (.inl (by decide +kernel))) := ⟨trivial, trivial, trivial⟩

theorem witness_StackRequests_6 (h : Obligations.StackRequests) :
    Met (((h.2 (accAt acc0) 0 (by decide +kernel)).2.2.2 acc0 [] 0x1000 (by decide +kernel) (by decide +kernel) (of_decide_eq_true (by decide +kernel)) (by decide +kernel) (by decide +kernel) (of_decide_eq_true (by decide +kernel))).2 .b32 .b32 (by decide +kernel) (by decide +kernel) (of_decide_eq_true (by decide +kernel)) (by decide +kernel) (by decide +kernel) (of_decide_eq_true (by decide +kernel)) (by decide +kernel) (by decide +kernel) (of_decide_eq_true (by decide +kernel)) (by decide +kernel)) := trivial
/-- Stack 0 with its engine's digest or migration fields set; its destination, stack 1, awaits it. -/
def engAt (l : List (Loc × Nat)) : State := up lit0 ([(F.MG_CTL_DEST.at 2, 1), (F.SITE_STATE_STATE.at 6, 4), (F.DG_BASE.at 2, 1), (F.DG_LEN.at 2, 1)] ++ l)

/-- Stack 0 with an invalidation in progress. -/
def flushAt : State := (up lineAt [(F.SC_STAT_FLUSHING.at 2, 1)]).setStk 0 { lineAt.stk 0 with flushOp := 2 }

theorem witness_StackModes_1 (h : Obligations.StackModes) :
    Met ((((h lineAt 0 (by decide +kernel)).1 (by decide +kernel)).1 (by decide +kernel)).1) ∧
    Met ((((h lineAt 0 (by decide +kernel)).1 (by decide +kernel)).1 (by decide +kernel)).2) ∧
    Met ((((h flushAt 0 (by decide +kernel)).1 (by decide +kernel)).2 (by decide +kernel)).1) := ⟨trivial, trivial, trivial⟩

theorem witness_StackModes_2 (h : Obligations.StackModes) :
    Met ((h flushAt 0 (by decide +kernel)).2.1 (by decide +kernel) (by decide +kernel)) ∧
    Met (((h lit0 0 (by decide +kernel)).2.2.1 (by decide +kernel)).1 (by decide +kernel)) ∧
    Met (((h (up lit0 [(F.SC_STAT_PSTATE.at 2, 2)]) 0 (by decide +kernel)).2.2.1 (by decide +kernel)).2 (by decide +kernel)) := ⟨trivial, trivial, trivial⟩

theorem witness_StackModes_3 (h : Obligations.StackModes) :
    Met ((h (up lineAt [(F.SC_STAT_PSTATE.at 2, 1), (F.SC_STAT_FLUSHING.at 2, 1)]) 0 (by decide +kernel)).2.2.2.1 (by decide +kernel) (by decide +kernel)) ∧
    Met ((h ((up lit0 [(F.SC_STAT_PSTATE.at 2, 3)]).setStk 0 { lit0.stk 0 with waitWake := [req0 1 0 0x1000 1 []] }) 0 (by decide +kernel)).2.2.2.2.1 (by decide +kernel)) ∧
    Met ((h lit0 0 (by decide +kernel)).2.2.2.2.2.1 31 (by decide +kernel) (by decide +kernel)) := ⟨trivial, trivial, trivial⟩

theorem witness_StackModes_4 (h : Obligations.StackModes) :
    Met ((h ((up lit0 [(F.PF_CFG_IDLE.at 2, 5)]).setPfe 0 3 { used := true, start := 16, run := 1, stride := 1, count := 1, master := 1, next := 1, reached := 0, last := 0, inflight := [] }) 0 (by decide +kernel)).2.2.2.2.2.2.1 3 (by decide +kernel) (by decide +kernel)) ∧
    Met ((h lit0 0 (by decide +kernel)).2.2.2.2.2.2.2.1 0x80000001 (by decide +kernel)) ∧
    Met (((h lit0 0 (by decide +kernel)).2.2.2.2.2.2.2.2 31 (by decide +kernel) (by decide +kernel)).1) := ⟨trivial, trivial, trivial⟩

theorem witness_StackModes_5 (h : Obligations.StackModes) :
    Met (((h lit0 0 (by decide +kernel)).2.2.2.2.2.2.2.2 31 (by decide +kernel) (by decide +kernel)).2 (by decide +kernel)) := trivial
theorem witness_StackEngine_1 (h : Obligations.StackEngine) :
    Met (((h (engAt []) 0 (by decide +kernel)).1 (by decide +kernel) (by decide +kernel) (of_decide_eq_true (by decide +kernel))).1 (by decide +kernel) (by decide +kernel) (of_decide_eq_true (by decide +kernel))) ∧
    Met (((h (engAt [(F.DG_LEN.at 2, 0)]) 0 (by decide +kernel)).1 (by decide +kernel) (by decide +kernel) (of_decide_eq_true (by decide +kernel))).2 (.inl (by decide +kernel))) ∧
    Met (((h (engAt [(F.DG_BASE.at 2, stackBytes / 64)]) 0 (by decide +kernel)).1 (by decide +kernel) (by decide +kernel) (of_decide_eq_true (by decide +kernel))).2 (.inr (by decide +kernel))) := ⟨trivial, trivial, trivial⟩

theorem witness_StackEngine_2 (h : Obligations.StackEngine) :
    Met ((h ((engAt [(F.NM_STAT_DG_BUSY.at 2, 1)]).setStk 0 { lit0.stk 0 with dg := (64, 64, 0) }) 0 (by decide +kernel)).2.1 (by decide +kernel)) ∧
    Met (((h (engAt []) 0 (by decide +kernel)).2.2.1 (by decide +kernel)).1 (by decide +kernel) (by decide +kernel) (of_decide_eq_true (by decide +kernel)) (by decide +kernel) (by decide +kernel)) ∧
    Met (((h (engAt [(F.NM_STAT_MG_ACTIVE.at 2, 1)]) 0 (by decide +kernel)).2.2.1 (by decide +kernel)).2.1 (by decide +kernel)) := ⟨trivial, trivial, trivial⟩

theorem witness_StackEngine_3 (h : Obligations.StackEngine) :
    Met (((h (engAt [(F.NM_STAT_MG_DONE.at 2, 1)]) 0 (by decide +kernel)).2.2.1 (by decide +kernel)).2.2.1 (by decide +kernel)) ∧
    Met (((h (engAt []) 0 (by decide +kernel)).2.2.1 (by decide +kernel)).2.2.2 (by decide +kernel)) ∧
    Met ((h ({ engAt [(F.NM_STAT_MG_ACTIVE.at 2, 1)] with mem := [(stkAddr 0 5, 9)] }.setStk 0 { lit0.stk 0 with mgTo := 1 }) 0 (by decide +kernel)).2.2.2 (by decide +kernel) (by decide +kernel) (of_decide_eq_true (by decide +kernel)) (by decide +kernel) (by decide +kernel) (of_decide_eq_true (by decide +kernel)) (by decide +kernel) (by decide +kernel)) := ⟨trivial, trivial, trivial⟩
/-- A request outstanding at core 0 and its answer. -/
def outReq (why type vc ref tries : Nat) : Req :=
  { site := 0, unit := 0, pkt := { type := type, vc := vc, dest := 2, src := 0, sunit := 0, master := 1, addr := 0x1000, len := 1, tag := 9, xfer := 4, data := List.replicate 64 0 }, tries := tries, why := why, ref := ref }

/-- A response to core 0. -/
def rsp0 (type tag status : Nat) : Pkt := sealPkt { type := type, vc := 1, dest := 0, dunit := 0, src := 2, tag := tag, xfer := 4, status := status, len := 1, data := List.replicate 64 3 }

/-- Core 0 with that request outstanding. -/
def waitingFor (r : Req) : State := { bound0 with outst := [r], tagNext := [([0, 0], 10)] }

theorem witness_NetworkResponses_1 (h : Obligations.NetworkResponses) :
    Met ((h.1 (.readRsp, 8) (by simp) (waitingFor (outReq 1 4 0 0 0)) { rsp0 8 9 0 with crc := 1 } (by decide +kernel)).1 (by decide +kernel)) ∧
    Met ((h.1 (.readRsp, 8) (by simp) (waitingFor (outReq 1 4 0 0 0)) (rsp0 8 8 0) (by decide +kernel)).2.1 (by decide +kernel) (by decide +kernel)) ∧
    Met ((h.1 (.writeAck, 9) (by simp) (waitingFor (outReq 1 4 0 0 0)) (rsp0 9 8 0) (by decide +kernel)).2.1 (by decide +kernel) (by decide +kernel)) := ⟨trivial, trivial, trivial⟩

theorem witness_NetworkResponses_2 (h : Obligations.NetworkResponses) :
    Met (((h.1 (.readRsp, 8) (by simp) (waitingFor (outReq 1 4 0 0 0)) (rsp0 8 9 0) (by decide +kernel)).2.2 (outReq 1 4 0 0 0) (by decide +kernel) (by decide +kernel) (of_decide_eq_true (by decide +kernel)) (by decide +kernel) (by decide +kernel)).1 (by decide +kernel) (by decide +kernel) (of_decide_eq_true (by decide +kernel)) (by decide +kernel)) ∧
    Met (((h.1 (.accumAck, 0xA) (by simp) (waitingFor (outReq 2 6 3 1 0)) (rsp0 0xA 9 0) (by decide +kernel)).2.2 (outReq 2 6 3 1 0) (by decide +kernel) (by decide +kernel) (of_decide_eq_true (by decide +kernel)) (by decide +kernel) (by decide +kernel)).2.1 (by decide +kernel) (by decide +kernel)) ∧
    Met (((h.1 (.readRsp, 8) (by simp) (waitingFor (outReq 5 1 0 1 0)) (rsp0 8 9 0) (by decide +kernel)).2.2 (outReq 5 1 0 1 0) (by decide +kernel) (by decide +kernel) (of_decide_eq_true (by decide +kernel)) (by decide +kernel) (by decide +kernel)).2.2 (.inr (.inl (by decide +kernel)))) := ⟨trivial, trivial, trivial⟩

theorem witness_NetworkResponses_3 (h : Obligations.NetworkResponses) :
    Met (((h.1 (.writeAck, 9) (by simp) (waitingFor (outReq 4 3 0 1 0)) (rsp0 9 9 0) (by decide +kernel)).2.2 (outReq 4 3 0 1 0) (by decide +kernel) (by decide +kernel) (of_decide_eq_true (by decide +kernel)) (by decide +kernel) (by decide +kernel)).2.2 (.inl (by decide +kernel))) ∧
    Met ((h.2.1 (up (waitingFor (outReq 1 4 0 0 0)) [(F.BK_CFG_READ_RETRIES.at 0, 2)]) 0 0 9 (outReq 1 4 0 0 0) (by decide +kernel) (by decide +kernel)).1 (.inr (by decide +kernel)) (by decide +kernel)) ∧
    Met ((h.2.1 (up (waitingFor (outReq 1 4 0 0 2)) [(F.BK_CFG_READ_RETRIES.at 0, 2)]) 0 0 9 (outReq 1 4 0 0 2) (by decide +kernel) (by decide +kernel)).2 (by decide +kernel)) := ⟨trivial, trivial, trivial⟩

theorem witness_NetworkResponses_4 (h : Obligations.NetworkResponses) :
    Met ((h.2.2 (waitingFor (outReq 3 7 2 1 0)) (rsp0 0xB 9 0) (outReq 3 7 2 1 0) (by decide +kernel) (by decide +kernel)).1 (by decide +kernel)) ∧
    Met ((h.2.2 (waitingFor (outReq 3 7 2 1 0)) (rsp0 0xC 9 0) (outReq 3 7 2 1 0) (by decide +kernel) (by decide +kernel)).2.1 (by decide +kernel)) ∧
    Met ((h.2.2 { waitingFor (outReq 3 7 2 1 0) with mcFrom := [([0, 0, 4], [2])] } (rsp0 0xB 9 0) (outReq 3 7 2 1 0) (by decide +kernel) (by decide +kernel)).2.2 0 (by decide +kernel)) := ⟨trivial, trivial, trivial⟩
/-- A multicast packet at die 0 for group 3. -/
def copy0 : Pkt := sealPkt { type := 7, vc := 2, dest := 0, src := 4, sunit := 0, master := 1, addr := 0x200, len := 1, space := 1, group := 3, xfer := 4, count := 1, data := List.replicate 64 6 }

/-- Group 3 is core 0's. -/
def groupAt : State := up bound0 [(F.BK_MC_CORES_CORES.at 0 0 3, 1), (F.BK_MC_ENTRY_OWNER.at 0 0 3, 1)]

/-- The copy held at die 0, in a slot or in the input buffer. -/
def hold0 (slot : Bool) : Hold := { site := 0, pkt := copy0, since := 0, slot := slot }

/-- Die 0 with that copy held. -/
def holdAt (l : List (Loc × Nat)) : State := { up groupAt ((F.BK_HOLD_USED.at 0, 1) :: l) with holds := [hold0 true] }

theorem witness_MulticastCopies_1 (h : Obligations.MulticastCopies) :
    Met (((h groupAt 0 copy0).1 (by decide +kernel) rfl rfl (by decide +kernel)).1 (by decide +kernel) (by decide +kernel)) ∧
    Met ((((h groupAt 0 copy0).1 (by decide +kernel) rfl rfl (by decide +kernel)).2.1 false (.inl rfl)).1 (by decide +kernel)) ∧
    Met ((((h (holdAt [(F.BK_HOLD_USED.at 0, 4)]) 0 copy0).1 (by decide +kernel) rfl rfl (by decide +kernel)).2.1 true (.inr (.inl (by decide +kernel)))).2 (by decide +kernel)) := ⟨trivial, trivial, trivial⟩

theorem witness_MulticastCopies_2 (h : Obligations.MulticastCopies) :
    Met (((h groupAt 0 copy0).1 (by decide +kernel) rfl rfl (by decide +kernel)).2.2 0 (by decide +kernel) (by decide +kernel) (of_decide_eq_true (by decide +kernel)) (by decide +kernel) (by decide +kernel) rfl) ∧
    Met (((h (holdAt []) 0 copy0).2.1 (hold0 true) (by decide +kernel)).1 (by decide +kernel)) ∧
    Met (((h (holdAt [(F.CB_STAT_ZEROING.core c0, 1)]) 0 copy0).2.1 (hold0 true) (by decide +kernel)).2 (by decide +kernel)) := ⟨trivial, trivial, trivial⟩

theorem witness_MulticastCopies_3 (h : Obligations.MulticastCopies) :
    Met ((h (holdAt []) 0 copy0).2.2.1 (hold0 true) (by decide +kernel) rfl (by decide +kernel)) ∧
    Met ((h { holdAt [] with holds := [hold0 false] } 0 copy0).2.2.2 (hold0 false) (by decide +kernel) (.inl rfl)) := ⟨trivial, trivial⟩
/-- A message to or from the active steward, in flight. -/
def flying (m : CtlMsg) : State := { lit0 with msgs := [.ctl m] }

/-- RD and WR of die 0's TM_TICK low word and its PG_CTL, their answers, and a memory agent's messages. -/
def ctl0 (type dest src : Nat) (words : List Nat) : CtlMsg := { type := type, dest := dest, src := src, tag := 5, words := words }

/-- A host's register access under way. -/
def accessAt (write : Bool) (m : CtlMsg) : State :=
  { flying m with hostReqs := [{ id := 1, port := 0, path := 1, write := write, addr := 0, len := 4, pasid := 0, master := 1024, site := m.src, tags := [5], got := [], after := [] }] }

theorem witness_ControlAccesses_1 (h : Obligations.ControlAccesses) :
    Met ((h (flying (ctl0 1 0 306 [8 + 0x43 <<< 8 + 1088 <<< 18])) (ctl0 1 0 306 [8 + 0x43 <<< 8 + 1088 <<< 18]) (by decide +kernel)).1 rfl (.inl (by decide +kernel))) ∧
    Met ((h (flying (ctl0 2 0 306 [8 + 2 <<< 8 + 1088 <<< 18, 1])) (ctl0 2 0 306 [8 + 2 <<< 8 + 1088 <<< 18, 1]) (by decide +kernel)).2.1 rfl (.inl (by decide +kernel))) ∧
    Met ((h (accessAt false (ctl0 3 304 0 [7])) (ctl0 3 304 0 [7]) (by decide +kernel)).2.2.1 rfl (by decide +kernel)) := ⟨trivial, trivial, trivial⟩

theorem witness_ControlAccesses_2 (h : Obligations.ControlAccesses) :
    Met ((h (accessAt true (ctl0 4 304 0 [])) (ctl0 4 304 0 []) (by decide +kernel)).2.2.2.1 rfl (by decide +kernel)) ∧
    Met ((h (accessAt false (ctl0 3 304 0 [7])) (ctl0 3 304 0 [7]) (by decide +kernel)).2.2.2.2.1 { id := 1, port := 0, path := 1, write := false, addr := 0, len := 4, pasid := 0, master := 1024, site := 0, tags := [5], got := [], after := [] } (by decide +kernel) rfl) ∧
    Met ((h (flying (ctl0 0xB 306 304 [0])) (ctl0 0xB 306 304 [0]) (by decide +kernel)).2.2.2.2.2.1 rfl (by decide +kernel)) := ⟨trivial, trivial, trivial⟩

theorem witness_ControlAccesses_3 (h : Obligations.ControlAccesses) :
    Met (((h (flying (ctl0 9 304 306 [0x1000, 0])) (ctl0 9 304 306 [0x1000, 0]) (by decide +kernel)).2.2.2.2.2.2 (.inl rfl) (.inl rfl) (by decide +kernel) (by decide +kernel)).1 (.inl (by decide +kernel)) (.inl rfl)) ∧
    Met (((h (flying (ctl0 0xA 304 306 [0x103C, 2 <<< 16])) (ctl0 0xA 304 306 [0x103C, 2 <<< 16]) (by decide +kernel)).2.2.2.2.2.2 (.inl rfl) (.inl rfl) (by decide +kernel) (by decide +kernel)).1 (.inr (by decide +kernel)) (.inr rfl)) ∧
    Met ((((h (flying (ctl0 9 304 306 [0x1000, 2 <<< 16])) (ctl0 9 304 306 [0x1000, 2 <<< 16]) (by decide +kernel)).2.2.2.2.2.2 (.inl rfl) (.inl rfl) (by decide +kernel) (by decide +kernel)).2 0 0x1000 (by decide +kernel) (by decide +kernel) (ok_val _ _ (by decide +kernel)) (by decide +kernel)).1 rfl) := ⟨trivial, trivial, trivial⟩

theorem witness_ControlAccesses_4 (h : Obligations.ControlAccesses) :
    Met ((((h (flying (ctl0 0xA 304 306 [0x103C, 1 <<< 16, 6])) (ctl0 0xA 304 306 [0x103C, 1 <<< 16, 6]) (by decide +kernel)).2.2.2.2.2.2 (.inl rfl) (.inl rfl) (by decide +kernel) (by decide +kernel)).2 0 0x103C (by decide +kernel) (by decide +kernel) (ok_val _ _ (by decide +kernel)) (by decide +kernel)).2 rfl (by decide +kernel)) := trivial
/-- A DOORBELL of core 0 for queue 3. -/
def bell0 (op arg : Nat) : CtlMsg := { type := 5, dest := 306, src := 0, tag := 0, words := [3 + op <<< 12 + 1 <<< 14, arg] }

/-- Queue 3, of context 1, enabled, its ring of eight entries. -/
def bellAt (m : CtlMsg) (producer resv : Nat) : State :=
  { up (flying m) [(F.QU_CFG_ENABLE.at stw 0 3, 1), (F.QU_CFG_LOG2SIZE.at stw 0 3, 3), (F.QU_CFG_CTX.at stw 0 3, 1), (F.QU_CFG_PRODUCER.at stw 0 3, producer), (F.AC_WR.at 306 0 (aclIdx 1 1), 1),
      (F.QU_CFG_ENABLE.at stw 0 4, 0)] with queues := [([3], { queueInit with resv := resv })] }

theorem witness_Doorbells_1 (h : Obligations.Doorbells) :
    Met (((h (bellAt (bell0 0 2) 0 0) (bell0 0 2) rfl (by decide +kernel) (by decide +kernel) (of_decide_eq_true (by decide +kernel))).1 (by decide +kernel) (by decide +kernel) (of_decide_eq_true (by decide +kernel)) (by decide +kernel) (by decide +kernel)).1 (by decide +kernel) (by decide +kernel)) ∧
    Met (((h (bellAt (bell0 0 9) 0 0) (bell0 0 9) rfl (by decide +kernel) (by decide +kernel) (of_decide_eq_true (by decide +kernel))).1 (by decide +kernel) (by decide +kernel) (of_decide_eq_true (by decide +kernel)) (by decide +kernel) (by decide +kernel)).2 (by decide +kernel) (by decide +kernel) (of_decide_eq_true (by decide +kernel))) ∧
    Met (((h (bellAt (bell0 1 0) 1 7) (bell0 1 0) rfl (by decide +kernel) (by decide +kernel) (of_decide_eq_true (by decide +kernel))).2.1 (by decide +kernel) (by decide +kernel)).1 (by decide +kernel)) := ⟨trivial, trivial, trivial⟩

theorem witness_Doorbells_2 (h : Obligations.Doorbells) :
    Met (((h (bellAt (bell0 1 0) 1 8) (bell0 1 0) rfl (by decide +kernel) (by decide +kernel) (of_decide_eq_true (by decide +kernel))).2.1 (by decide +kernel) (by decide +kernel)).2 (by decide +kernel)) ∧
    Met ((h (bellAt (bell0 2 0) 1 1) (bell0 2 0) rfl (by decide +kernel) (by decide +kernel) (of_decide_eq_true (by decide +kernel))).2.2.1 (by decide +kernel) (by decide +kernel)) ∧
    Met ((h (bellAt (bell0 0 2) 1 0) (bell0 0 2) rfl (by decide +kernel) (by decide +kernel) (of_decide_eq_true (by decide +kernel))).2.2.2 (by decide +kernel) (by decide +kernel)) := ⟨trivial, trivial, trivial⟩
/-- A NOTICE of context 1, virtual core 0. -/
def note0 (kind dest src : Nat) (words : List Nat) : CtlMsg := noticeMsg kind 1 0 dest src 0 words

/-- A dispatch of queue 3 at work on virtual core 0. -/
def entry1 : QEnt := { ix := 0, e := 1 + at8 18 1, st := 1, left := [0], dies := [0], lsite := 0, lslot := 0 }

/-- Context 1 on core 0, the core and the context in a state. -/
def ctxAt (core ctx bound : Nat) (m : CtlMsg) (k : CtxSt) : State :=
  { up (flying m) [(F.CORE_BIND_BOUND.core c0, bound), (F.CORE_BIND_CTX.core c0, bound), (F.CORE_STATE_STATE.core c0, core), (F.CX_STATE_STATE.at stw 0 1, ctx), (F.QU_CFG_CTX.at stw 0 3, 1),
      (F.CX_CFG_NCORES.at stw 0 1, 1)] with
    ctxs := [([1], { k with cores := [c0] })], queues := [([3], { queueInit with ents := [entry1] })] }

/-- An ENQ or a STEP_END held. -/
def held0 (op stage : Nat) : Held :=
  { id := 1, op := op, addr := 0x1000, desc := op, ents := [], sigSite := 0, sigCell := 0, since := 0, slot := 0, stage := stage, expired := false, withdrawn := false, bad := 0 }

/-- A core with one held. -/
def enqAt (m : CtlMsg) (op stage : Nat) : State := (ctxAt 2 2 1 m ctxInit).onCore c0 (fun k => { k with held := some (held0 op stage) })

/-- A step's messages. -/
def step0 (release dest src : Nat) : CtlMsg := { type := 8, dest := dest, src := src, tag := 0, words := [release + 1 <<< 8, 4] }

theorem witness_Notices_1 (h : Obligations.Notices) :
    Met ((h.1 (ctxAt 1 1 0 (note0 1 0 306 [0]) { ctxInit with binding := true, wait := [0] }) (note0 1 0 306 [0]) (by decide +kernel) (by decide +kernel)).1 (by decide +kernel) (by decide +kernel) (of_decide_eq_true (by decide +kernel)) (by decide +kernel) (by decide +kernel) (of_decide_eq_true (by decide +kernel)) (by decide +kernel) (by decide +kernel) (of_decide_eq_true (by decide +kernel))) ∧
    Met ((h.1 (ctxAt 1 2 1 (note0 2 0 306 [3, 0x1000, 0, 1, 2, 3]) ctxInit) (note0 2 0 306 [3, 0x1000, 0, 1, 2, 3]) (by decide +kernel) (by decide +kernel)).2.1 (by decide +kernel) (by decide +kernel) (of_decide_eq_true (by decide +kernel)) (by decide +kernel) (by decide +kernel) (of_decide_eq_true (by decide +kernel)) (by decide +kernel) (by decide +kernel) (of_decide_eq_true (by decide +kernel))) ∧
    Met ((h.1 (ctxAt 2 3 1 (note0 3 0 306 [0]) ctxInit) (note0 3 0 306 [0]) (by decide +kernel) (by decide +kernel)).2.2.1 (by decide +kernel) (by decide +kernel) (of_decide_eq_true (by decide +kernel)) (by decide +kernel) (.inl (by decide +kernel))) := ⟨trivial, trivial, trivial⟩

theorem witness_Notices_2 (h : Obligations.Notices) :
    Met ((h.1 (ctxAt 1 3 1 (note0 3 0 306 [0]) ctxInit) (note0 3 0 306 [0]) (by decide +kernel) (by decide +kernel)).2.2.2.1 (by decide +kernel) (by decide +kernel) (of_decide_eq_true (by decide +kernel)) (by decide +kernel) (by decide +kernel)) ∧
    Met ((h.1 (ctxAt 2 6 1 (note0 10 0 306 []) ctxInit) (note0 10 0 306 []) (by decide +kernel) (by decide +kernel)).2.2.2.2.1 (by decide +kernel)) ∧
    Met ((h.1 (enqAt (note0 7 0 306 [2]) 0x18 1) (note0 7 0 306 [2]) (by decide +kernel) (by decide +kernel)).2.2.2.2.2.1 (by decide +kernel)) := ⟨trivial, trivial, trivial⟩

theorem witness_Notices_3 (h : Obligations.Notices) :
    Met ((h.1 (enqAt (note0 8 0 306 []) 0x18 1) (note0 8 0 306 []) (by decide +kernel) (by decide +kernel)).2.2.2.2.2.2.1 (held0 0x18 1) (by decide +kernel) (by decide +kernel) (of_decide_eq_true (by decide +kernel)) (by decide +kernel)) ∧
    Met ((h.1 (enqAt (note0 9 0 306 []) 0x18 4) (note0 9 0 306 []) (by decide +kernel) (by decide +kernel)).2.2.2.2.2.2.2 (held0 0x18 4) (by decide +kernel) (by decide +kernel) (of_decide_eq_true (by decide +kernel)) (by decide +kernel)) := ⟨trivial, trivial⟩
theorem witness_Notices_steward_1 (h : Obligations.Notices) :
    Met ((h.2.1 (ctxAt 6 3 1 (note0 4 306 0 []) { ctxInit with wait := [0, 1] }) (note0 4 306 0 []) (by decide +kernel)).1 (by decide +kernel) (by decide +kernel) (of_decide_eq_true (by decide +kernel))) ∧
    Met ((h.2.1 (ctxAt 6 3 1 (note0 4 306 0 []) { ctxInit with wait := [0] }) (note0 4 306 0 []) (by decide +kernel)).2.1 (by decide +kernel) (by decide +kernel) (of_decide_eq_true (by decide +kernel)) (by decide +kernel)) ∧
    Met ((h.2.1 (ctxAt 1 1 1 (note0 5 306 0 []) { ctxInit with wait := [0], binding := true }) (note0 5 306 0 []) (by decide +kernel)).2.2.1 (by decide +kernel) (by decide +kernel) (of_decide_eq_true (by decide +kernel))) := ⟨trivial, trivial, trivial⟩

theorem witness_Notices_steward_2 (h : Obligations.Notices) :
    Met ((h.2.1 (ctxAt 5 2 1 (note0 6 306 0 []) ctxInit) (note0 6 306 0 []) (by decide +kernel)).2.2.2.1 3 entry1 (by decide +kernel) (by decide +kernel)) ∧
    Met ((h.2.1 { ctxAt 5 2 1 (note0 6 306 0 []) ctxInit with queues := [] } (note0 6 306 0 []) (by decide +kernel)).2.2.2.2.1 (by decide +kernel) (by decide +kernel)) := ⟨trivial, trivial⟩
/-- Context 1 of partition 5 on core 0 of a die with power, its only dispatch arrived at a step. -/
def arrivedAt : State :=
  { up State.reset [(F.RG_STAT_STATE.at 3 0 0, 1), (F.RG_STAT_STATE.at 3 0 1, 1), (F.CX_CFG_PART.at stw 0 1, 5), (F.CX_STATE_STATE.at stw 0 1, 2), (F.QU_CFG_CTX.at stw 0 3, 1)] with
    ctxs := [([1], { ctxInit with cores := [c0] })], queues := [([3], { queueInit with ents := [entry1] })], arrived := [([5], [(1, 0, 4)])] }

theorem witness_Notices_steps_1 (h : Obligations.Notices) :
    Met ((h.2.1 (ctxAt 2 2 1 (step0 0 306 0) ctxInit) (step0 0 306 0) (by decide +kernel)).2.2.2.2.2.1 rfl (by decide +kernel) (by decide +kernel) (of_decide_eq_true (by decide +kernel)) (by decide +kernel)) ∧
    Met ((h.2.1 (enqAt (step0 1 0 306) 0x03 0) (step0 1 0 306) (by decide +kernel)).2.2.2.2.2.2 (held0 3 0) (by decide +kernel) (by decide +kernel) (of_decide_eq_true (by decide +kernel)) (by decide +kernel) (by decide +kernel) (of_decide_eq_true (by decide +kernel)) (by decide +kernel) (by decide +kernel) (of_decide_eq_true (by decide +kernel)) (by decide +kernel)) ∧
    Met (h.2.2.1 arrivedAt 5 (by decide +kernel) (by decide +kernel) (of_decide_eq_true (by decide +kernel))) := ⟨trivial, trivial, trivial⟩

theorem witness_Notices_steps_2 (h : Obligations.Notices) :
    Met ((h.2.2.2 { lit0 with intakeUntil := 64000 } { code := 0x2204, site := 2, unit := 0, sev := 0 } (by decide +kernel)).1 (by decide +kernel)) ∧
    Met ((h.2.2.2 lit0 { code := 0x2204, site := 2, unit := 0, sev := 0 } (by decide +kernel)).2 250 (by decide +kernel) Nat.zero_lt_one) := ⟨trivial, trivial⟩
/-- A sync message at cell 5 of die 0. -/
def sync0 (type value : Nat) (cons : Bool) : SyncMsg := { type := type, dest := 0, cell := 5, value := value, src := 4, slot := 2, cons := cons }

/-- Cell 5, of context 1, with a value and waiters. -/
def cellAt (m : SyncMsg) (v barn : Nat) (l : List Waiter) : State :=
  { up lit0 [(F.SY_OWNER_VALID.at 0 0 5, 1), (F.SY_OWNER_OWNER.at 0 0 5, 1), (F.SY_VALUE_VALUE.at 0 0 5, v), (F.SY_BARN_N.at 0 0 5, barn), (F.SY_SEL_CELL.at 0, 5)] with
    msgs := [.sync m], waiters := tset [] [] [0, 5] l }

/-- A waiter of core 3 of die 1. -/
def waiter0 (barrier : Bool) (thresh : Nat) (cons : Bool) : Waiter := { site := 1, slot := 3, barrier := barrier, thresh := thresh, cons := cons, pool := false }

/-- An answer to core 0 from cell 5 of die 4. -/
def wake0 (type value : Nat) : SyncMsg := { type := type, dest := 0, cell := 5, value := value, src := 4, slot := 0 }

/-- An entry on that cell. -/
def ent4 : WEntry := { ix := 0, vid := 2, thresh := 7, cons := false, site := 4, cell := 5, st := .sent }

/-- A core whose WAIT waits at that cell, or whose SIGNAL waits for its answer. -/
def waitAt (m : SyncMsg) (st : EntrySt) : State :=
  { bound0.onCore c0 (fun k => { k with sigs := [{ vid := 2, site := 4, cell := 5, inc := 1, addr := 0x1000 }], held := some { held0 0x11 0 with ents := [{ ent4 with st := st }] } }) with
    msgs := [.sync m] }

theorem witness_SyncMessages_1 (h : Obligations.SyncMessages) :
    Met ((h.1 9 [waiter0 false 4 true, waiter0 true 2 false, waiter0 false 6 false]).1 (waiter0 false 6 false) (by decide +kernel) (by decide +kernel)) ∧
    Met ((h.1 9 [waiter0 false 4 true, waiter0 true 2 false, waiter0 false 6 false]).2.2.2.2.2 (waiter0 false 4 true) (by decide +kernel)) ∧
    Met (((h.2 { lit0 with msgs := [.sync (sync0 1 2 false)] } (sync0 1 2 false)).1 (by decide +kernel) (by decide +kernel) (of_decide_eq_true (by decide +kernel)) (by decide +kernel)).1 (by decide +kernel) (.inl rfl)) := ⟨trivial, trivial, trivial⟩

theorem witness_SyncMessages_2 (h : Obligations.SyncMessages) :
    Met ((((h.2 (cellAt (sync0 1 2 false) 5 0 [waiter0 false 7 true]) (sync0 1 2 false)).1 (by decide +kernel) (by decide +kernel) (of_decide_eq_true (by decide +kernel)) (by decide +kernel)).2.1 (by decide +kernel)).1 rfl (by decide +kernel) (by decide +kernel)) ∧
    Met ((((h.2 (cellAt (sync0 1 2 false) (2 ^ 24 - 2) 0 []) (sync0 1 2 false)).1 (by decide +kernel) (by decide +kernel) (of_decide_eq_true (by decide +kernel)) (by decide +kernel)).2.1 (by decide +kernel)).2.1 rfl (by decide +kernel) (by decide +kernel) (of_decide_eq_true (by decide +kernel))) ∧
    Met ((((h.2 (cellAt (sync0 2 5 true) 5 0 []) (sync0 2 5 true)).1 (by decide +kernel) (by decide +kernel) (of_decide_eq_true (by decide +kernel)) (by decide +kernel)).2.1 (by decide +kernel)).2.2.1 rfl (by decide +kernel)) := ⟨trivial, trivial, trivial⟩

theorem witness_SyncMessages_3 (h : Obligations.SyncMessages) :
    Met ((((h.2 (cellAt (sync0 2 6 true) 5 0 []) (sync0 2 6 true)).1 (by decide +kernel) (by decide +kernel) (of_decide_eq_true (by decide +kernel)) (by decide +kernel)).2.1 (by decide +kernel)).2.2.2.1 rfl (by decide +kernel) (by decide +kernel)) ∧
    Met ((((h.2 (cellAt (sync0 2 6 true) 5 0 (List.replicate 8 (waiter0 false 9 false) ++ List.replicate 4096 { waiter0 false 9 false with pool := true })) (sync0 2 6 true)).1 (by decide +kernel) (by decide +kernel) (of_decide_eq_true (by decide +kernel)) (by decide +kernel)).2.1 (by decide +kernel)).2.2.2.2.1 rfl (by decide +kernel) (by decide +kernel)) ∧
    Met ((((h.2 (cellAt (sync0 4 3 false) 2 3 [waiter0 true 3 false, waiter0 false 9 false]) (sync0 4 3 false)).1 (by decide +kernel) (by decide +kernel) (of_decide_eq_true (by decide +kernel)) (by decide +kernel)).2.1 (by decide +kernel)).2.2.2.2.2.1 rfl (by decide +kernel) (by decide +kernel)) := ⟨trivial, trivial, trivial⟩

theorem witness_SyncMessages_4 (h : Obligations.SyncMessages) :
    Met ((((h.2 (cellAt (sync0 4 3 false) 0 0 []) (sync0 4 3 false)).1 (by decide +kernel) (by decide +kernel) (of_decide_eq_true (by decide +kernel)) (by decide +kernel)).2.1 (by decide +kernel)).2.2.2.2.2.2 rfl (by decide +kernel) (by decide +kernel) (of_decide_eq_true (by decide +kernel))) ∧
    Met (((h.2 (cellAt (sync0 3 0 false) 5 0 [{ waiter0 false 9 true with site := 4, slot := 2 }]) (sync0 3 0 false)).1 (by decide +kernel) (by decide +kernel) (of_decide_eq_true (by decide +kernel)) (by decide +kernel)).2.2 rfl) := ⟨trivial, trivial⟩
theorem witness_SyncMessages_core_1 (h : Obligations.SyncMessages) :
    Met (((h.2 (waitAt (wake0 5 3) .sent) (wake0 5 3)).2 (by decide +kernel) (by decide +kernel) (of_decide_eq_true (by decide +kernel))).1 { vid := 2, site := 4, cell := 5, inc := 1, addr := 0x1000 } (by decide +kernel) rfl rfl (by decide +kernel)) ∧
    Met ((((h.2 (waitAt (wake0 5 0) .sent) (wake0 5 0)).2 (by decide +kernel) (by decide +kernel) (of_decide_eq_true (by decide +kernel))).2.1 ent4 [ent4] 0x1000 0x11 1 false (by decide +kernel) (by decide +kernel)).1 (by decide +kernel) rfl rfl) ∧
    Met ((((h.2 (waitAt (wake0 5 1) .sent) (wake0 5 1)).2 (by decide +kernel) (by decide +kernel) (of_decide_eq_true (by decide +kernel))).2.1 ent4 [ent4] 0x1000 0x11 1 false (by decide +kernel) (by decide +kernel)).2.1 (by decide +kernel) rfl rfl) := ⟨trivial, trivial, trivial⟩

theorem witness_SyncMessages_core_2 (h : Obligations.SyncMessages) :
    Met ((((h.2 (waitAt (wake0 5 2) .sent) (wake0 5 2)).2 (by decide +kernel) (by decide +kernel) (of_decide_eq_true (by decide +kernel))).2.1 ent4 [ent4] 0x1000 0x11 1 false (by decide +kernel) (by decide +kernel)).2.2.1 (by decide +kernel) rfl rfl rfl) ∧
    Met ((((h.2 (waitAt (wake0 6 1) .sent) (wake0 6 1)).2 (by decide +kernel) (by decide +kernel) (of_decide_eq_true (by decide +kernel))).2.1 ent4 [ent4] 0x1000 0x11 1 false (by decide +kernel) (by decide +kernel)).2.2.2.1 (by decide +kernel) rfl) ∧
    Met ((((h.2 (waitAt (wake0 6 1) .sent) (wake0 6 1)).2 (by decide +kernel) (by decide +kernel) (of_decide_eq_true (by decide +kernel))).2.1 ent4 [ent4] 0x1000 0x11 1 false (by decide +kernel) (by decide +kernel)).2.2.2.2 rfl) := ⟨trivial, trivial, trivial⟩

theorem witness_SyncMessages_core_3 (h : Obligations.SyncMessages) :
    Met (((h.2 { bound0 with msgs := [.sync (wake0 6 1)] } (wake0 6 1)).2 (by decide +kernel) (by decide +kernel) (of_decide_eq_true (by decide +kernel))).2.2 (by decide +kernel) rfl (by decide +kernel)) := trivial
/-- Every cell of die 0 VALID, beside some other fields. -/
@[irreducible] def cells0 : Tab Nat := (List.range 2048).map (fun i => ([0, 8, 0x850, i], 2))

/-- A state with every cell of die 0 VALID. -/
def filled (s : State) : State := { s with fld := s.fld ++ cells0 }

/-- No entry of a state is VALID of a cell of die 0. -/
abbrev NoValid (s : State) : Prop := ∀ e ∈ s.fld, e.1.take 3 ≠ [0, 8, 0x850]

theorem lookup_cells (l : List Nat) (k : Key) :
    lookup 0 (l.map (fun i => (([0, 8, 0x850, i] : Key), 2))) k = if k ∈ l.map (fun i => ([0, 8, 0x850, i] : Key)) then 2 else 0 := by
  induction l with
  | nil => simp [lookup]
  | cons a l ih =>
    simp only [List.map_cons, lookup, ih, List.mem_cons]
    by_cases h : [0, 8, 0x850, a] = k
    · simp [h]
    · have : ¬ k = [0, 8, 0x850, a] := fun e => h e.symm
      simp [h, this]

theorem lookup_behind (a b : Tab Nat) (k : Key) (h : lookup 0 b k = 0) : lookup 0 (a ++ b) k = lookup 0 a k := by
  induction a with
  | nil => exact h
  | cons e a ih => obtain ⟨x, v⟩ := e; simp only [List.cons_append, lookup, ih]

theorem lookup_past (a b : Tab Nat) (k : Key) (h : ∀ e ∈ a, e.1 ≠ k) : lookup 0 (a ++ b) k = lookup 0 b k := by
  induction a with
  | nil => rfl
  | cons e a ih =>
    obtain ⟨x, v⟩ := e
    simp only [List.cons_append, lookup, h (x, v) (List.mem_cons_self ..), if_false]
    exact ih (fun e m => h e (List.mem_cons_of_mem _ m))

theorem filled_rd (s : State) (l : Loc) (h : l.key.take 3 ≠ [0, 8, 0x850]) : (filled s).rd l = s.rd l := by
  have z : lookup 0 cells0 l.key = 0 := by
    unfold cells0
    rw [lookup_cells, if_neg]
    intro m
    obtain ⟨i, -, e⟩ := List.mem_map.1 m
    exact h (by rw [← e]; rfl)
  have q : tget 0 (filled s).fld l.key = tget 0 s.fld l.key := lookup_behind _ _ _ z
  rw [State.rd, q, State.rd]

theorem filled_valid (s : State) (n : NoValid s) (i : Nat) (h : i < 2048) : (filled s).cellValid 0 i = true := by
  have q : tget 0 (filled s).fld [0, 8, 0x850, i] = 2 := by
    refine (lookup_past s.fld cells0 _ (fun e m c => n e m (by rw [c]; rfl))).trans ?_
    unfold cells0
    rw [lookup_cells, if_pos (List.mem_map.2 ⟨i, List.mem_range.2 h, rfl⟩)]
  rw [State.cellValid, State.on, State.rd, show (F.SY_OWNER_VALID.at 0 0 i).key = [0, 8, 0x850, i] from rfl, q]
  rfl

/-- Cell 5 of die 0 owned by context 1, which is SAVED and whose virtual ID 0 names it; its partition is plot 0, whose other die is dark. -/
def ownedAt : State :=
  { up State.reset [(F.RG_STAT_STATE.at 3 0 0, 1), (F.RG_STAT_STATE.at 3 0 2, 1), (F.SITE_STATE_STATE.at 0, 1), (F.SITE_STATE_STATE.at 2, 1), (F.BR_STAT_ROM.at 306, 0), (F.BK_RT_ENTRY_VALID.at 304 0 2, 1), (F.AC_RD.at 2 0 (aclIdx 1088 1), 1), (F.AC_WR.at 2 0 (aclIdx 1088 1), 1),
      (F.SY_OWNER_OWNER.at 0 0 5, 1), (F.SY_VALUE_VALUE.at 0 0 5, 9), (F.SY_SEL_CELL.at 0, 5), (F.CX_STATE_STATE.at stw 0 1, 4), (F.CX_CFG_PART.at stw 0 1, 2),
      (F.CX_SAVE.at stw 0 1, 1), (F.CX_SXLT.at stw 0 1, 0x17FFFFFFC0), (F.PT_PLOTS0_PLOTS.at stw 0 2, 1)] with mem := [(stkAddr 0 0x17FFFFFFC1, 0x0A), (stkAddr 0 0x17FFFFFFC3, 0x80)] }


/-- The same, and context 2 of the partition was SAVED before it, with cell 6. -/
def owned2 : State :=
  { up ownedAt [(F.SY_OWNER_OWNER.at 0 0 6, 2), (F.CX_STATE_STATE.at stw 0 2, 4), (F.CX_CFG_PART.at stw 0 2, 2)] with
    ctxs := tset ctxInit [] [1] { ctxInit with savedAt := 9 } }

theorem filled_dark (s : State) (n : Nat) : (filled s).dark n = s.dark n := by
  have r (m i k : Nat) := filled_rd s (F.RG_STAT_STATE.at m i k) (by simp [Fld.at, F.RG_STAT_STATE])
  have q := filled_rd s (F.SITE_STATE_STATE.at n) (by simp [Fld.at, F.SITE_STATE_STATE])
  simp only [State.dark, State.siteState, State.powered, r, q]
  rfl

theorem filled_plots (s : State) (p : Nat) : (filled s).plotSet p = s.plotSet p := by
  have r0 := filled_rd s (F.PT_PLOTS0_PLOTS.at stw 0 p) (by simp [Fld.at, F.PT_PLOTS0_PLOTS, stw])
  have r1 := filled_rd s (F.PT_PLOTS1_PLOTS.at stw 0 p) (by simp [Fld.at, F.PT_PLOTS1_PLOTS, stw])
  have r2 := filled_rd s (F.PT_PLOTS2_PLOTS.at stw 0 p) (by simp [Fld.at, F.PT_PLOTS2_PLOTS, stw])
  have e (a b c x y z : Nat) (ha : a = x) (hb : b = y) (hc : c = z) : a + b <<< 32 + c <<< 64 = x + y <<< 32 + z <<< 64 := by rw [ha, hb, hc]
  exact e _ _ _ _ _ _ r0 r1 r2

theorem filled_dies (s : State) (p : Nat) : (filled s).ptDies p = s.ptDies p := by
  simp only [State.ptDies, State.ptPlots, filled_plots, filled_dark]

theorem filled_part (s : State) (x : Nat) : (filled s).cxPart x = s.cxPart x := filled_rd _ _ (by simp [Fld.at, F.CX_CFG_PART, stw])

theorem filled_state (s : State) (x : Nat) : (filled s).cxState x = s.cxState x := filled_rd _ _ (by simp [Fld.at, F.CX_STATE_STATE, stw])

/-- No cell of its partition is free. -/
theorem filled_full (s : State) (n : NoValid s) (p : Nat) (h : s.ptDies p = [0]) : ((filled s).freeCells p).isEmpty = true := by
  have e : (List.range 2048).filter (fun i => !((filled s).cellValid 0 i)) = [] := List.filter_eq_nil_iff.2 (fun i m => by rw [filled_valid s n i (List.mem_range.1 m)]; simp)
  rw [State.freeCells, filled_dies, h, List.flatMap_cons, e]
  rfl

theorem filled_order (s : State) (p x : Nat) : (filled s).savedOrder p x = s.savedOrder p x := by
  have e : (filled s).ctxsIn p [4] = s.ctxsIn p [4] := by simp only [State.ctxsIn, filled_part, filled_state]
  rw [State.savedOrder, e]
  rfl

theorem filled_releasable (s : State) (n : NoValid s) (i : Nat) (w : i < 2048) (st : s.cxState (s.rd (F.SY_OWNER_OWNER.at 0 0 i)) = 4) (sh : s.on (F.SY_OWNER_SHARED.at 0 0 i) = false)
    (ws : (s.cellWaiters 0 i).isEmpty = true) (b : s.rd (F.SY_BARN_N.at 0 0 i) = 0) : (filled s).releasable 0 i = true := by
  rw [State.releasable, filled_valid s n i w, filled_state, State.on, filled_rd _ (F.SY_OWNER_OWNER.at 0 0 i) (by simp [Fld.at, F.SY_OWNER_OWNER]),
    filled_rd _ (F.SY_OWNER_SHARED.at 0 0 i) (by simp [Fld.at, F.SY_OWNER_SHARED]), filled_rd _ (F.SY_BARN_N.at 0 0 i) (by simp [Fld.at, F.SY_BARN_N]), st, b]
  have sh' : decide (s.rd (F.SY_OWNER_SHARED.at 0 0 i) = 1) = false := sh
  have ws' : ((filled s).cellWaiters 0 i).isEmpty = true := ws
  rw [sh', ws']
  rfl

/-- Where the context SAVED longest owns a cell of die 0 that may be released, its cells are released first. -/
theorem filled_from (s : State) (n : NoValid s) (p x i : Nat) (l : List Nat) (h : s.savedOrder p 1024 = x :: l) (d : s.ptDies (s.cxPart x) = [0]) (o : s.rd (F.SY_OWNER_OWNER.at 0 0 i) = x)
    (w : i < 2048) (st : s.cxState x = 4) (sh : s.on (F.SY_OWNER_SHARED.at 0 0 i) = false) (ws : (s.cellWaiters 0 i).isEmpty = true) (b : s.rd (F.SY_BARN_N.at 0 0 i) = 0) :
    (filled s).releaseFrom p = some x := by
  have o' : (filled s).rd (F.SY_OWNER_OWNER.at 0 0 i) = x := (filled_rd _ _ (by simp [Fld.at, F.SY_OWNER_OWNER])).trans o
  have r : (filled s).releasable 0 i = true := filled_releasable s n i w (by rw [o]; exact st) sh ws b
  rw [State.releaseFrom, filled_order, h, List.find?_cons]
  have a : ((filled s).ownCells x).any (fun e => (filled s).releasable e.1 e.2) = true := by
    refine List.any_eq_true.2 ⟨(0, i), ?_, r⟩
    rw [State.ownCells, filled_part, filled_dies, d]
    refine List.mem_flatMap.2 ⟨0, List.mem_singleton_self _, List.mem_map.2 ⟨i, List.mem_filter.2 ⟨List.mem_filter.2 ⟨List.mem_range.2 w, filled_valid s n i w⟩, ?_⟩, rfl⟩⟩
    exact decide_eq_true o'
  rw [a]

theorem first_released : (filled ownedAt).releaseFrom ((filled ownedAt).cxPart ((filled ownedAt).rd (F.SY_OWNER_OWNER.at 0 0 ((filled ownedAt).rd (F.SY_SEL_CELL.at 0))))) = some ((filled ownedAt).rd (F.SY_OWNER_OWNER.at 0 0 ((filled ownedAt).rd (F.SY_SEL_CELL.at 0)))) := by
  have e : ((filled ownedAt).rd (F.SY_OWNER_OWNER.at 0 0 ((filled ownedAt).rd (F.SY_SEL_CELL.at 0)))) = 1 := (by decide +kernel)
  have p : ownedAt.cxPart 1 = 2 := (by decide +kernel)
  have f : (filled ownedAt).releaseFrom 2 = some 1 := filled_from ownedAt (by decide +kernel) 2 1 5 [] (by decide +kernel) (by decide +kernel) (of_decide_eq_true (by decide +kernel)) (by decide +kernel) (by decide +kernel) (of_decide_eq_true (by decide +kernel)) (by decide +kernel) (by decide +kernel)
  rw [e, filled_part, p, f]

theorem other_released : (filled owned2).releaseFrom ((filled owned2).cxPart ((filled owned2).rd (F.SY_OWNER_OWNER.at 0 0 ((filled owned2).rd (F.SY_SEL_CELL.at 0))))) ≠ some ((filled owned2).rd (F.SY_OWNER_OWNER.at 0 0 ((filled owned2).rd (F.SY_SEL_CELL.at 0)))) := by
  have e : ((filled owned2).rd (F.SY_OWNER_OWNER.at 0 0 ((filled owned2).rd (F.SY_SEL_CELL.at 0)))) = 1 := (by decide +kernel)
  have p : owned2.cxPart 1 = 2 := (by decide +kernel)
  have f : (filled owned2).releaseFrom 2 = some 2 := filled_from owned2 (by decide +kernel) 2 2 6 [1] (by decide +kernel) (by decide +kernel) (of_decide_eq_true (by decide +kernel)) (by decide +kernel) (by decide +kernel) (of_decide_eq_true (by decide +kernel)) (by decide +kernel) (by decide +kernel)
  rw [e, filled_part, p, f]
  decide

/-- A result with a state, where the result is true. -/
theorem went {β : Type} (x : Bool × β) (h : x.1 = true) : x = (true, x.2) := Prod.ext h rfl

theorem witness_SyncCommands_1 (h : Obligations.SyncCommands) :
    Met ((h (cellAt (sync0 1 2 false) 5 0 [waiter0 false 7 true]) 0 (by decide +kernel) (by decide +kernel)).1 9 (by decide +kernel)) ∧
    Met (((h (cellAt (sync0 1 2 false) 5 0 []) 0 (by decide +kernel) (by decide +kernel)).2.1 0x30002 (by decide +kernel)).1 (by decide +kernel) (by decide +kernel)) ∧
    Met (((h busy0 0 (by decide +kernel) (by decide +kernel)).2.1 0x30002 (by decide +kernel)).2.1 (by decide +kernel) (by decide +kernel)) := ⟨trivial, trivial, trivial⟩

theorem witness_SyncCommands_2 (h : Obligations.SyncCommands) :
    Met (((h (up lit0 [(F.SY_SEL_CELL.at 0, 5)]) 0 (by decide +kernel) (by decide +kernel)).2.1 0x30002 (by decide +kernel)).2.2.1 ⟨(by decide +kernel), (by decide +kernel)⟩ (by decide +kernel)) ∧
    Met (((h (cellAt (sync0 1 2 false) 5 0 [waiter0 false 7 true]) 0 (by decide +kernel) (by decide +kernel)).2.1 0x20001 (by decide +kernel)).2.2.2.1 ⟨(by decide +kernel), (by decide +kernel)⟩ (by decide +kernel) (by decide +kernel) (of_decide_eq_true (by decide +kernel)) (by decide +kernel) (by decide +kernel)) ∧
    Met (((h (filled ownedAt) 0 (by decide +kernel) (by decide +kernel)).2.1 0x20001 (by decide +kernel)).2.2.2.2 (by decide +kernel) (by decide +kernel) (of_decide_eq_true (by decide +kernel)) (filled_full _ (by decide +kernel) _ (by decide +kernel)) |>.2 _ first_released (went _ (by decide +kernel))) := ⟨trivial, trivial, trivial⟩

theorem witness_SyncCommands_3 (h : Obligations.SyncCommands) :
    Met (((h (filled owned2) 0 (by decide +kernel) (by decide +kernel)).2.1 0x20001 (by decide +kernel)).2.2.2.2 (by decide +kernel) (by decide +kernel) (of_decide_eq_true (by decide +kernel)) (filled_full _ (by decide +kernel) _ (by decide +kernel)) |>.1 other_released) ∧
    Met ((h (up (cellAt (sync0 1 2 false) 5 0 []) [(F.SY_STAT_CMD_BUSY.at 0, 1)]) 0 (by decide +kernel) (by decide +kernel)).2.2.1 (by decide +kernel) (by decide +kernel) .syCmdPurge (by simp)) := ⟨trivial, trivial⟩
theorem witness_SyncCommands_done_1 (h : Obligations.SyncCommands) :
    Met (((h (up (cellAt (sync0 1 2 false) 5 0 []) [(F.SY_CMD_ARG_ARG.at 0, 7)]) 0 (by decide +kernel) (by decide +kernel)).2.2.2.1 (by decide +kernel) (by decide +kernel)).1 306 (by decide +kernel) (by decide +kernel) (of_decide_eq_true (by decide +kernel)) (by decide +kernel) (by decide +kernel)) ∧
    Met (((h (up (cellAt (sync0 1 2 false) 5 0 [waiter0 false 7 true]) [(F.SY_CMD_ARG_ARG.at 0, 1 + 3 <<< 9)]) 0 (by decide +kernel) (by decide +kernel)).2.2.2.1 (by decide +kernel) (by decide +kernel)).2) ∧
    Met ((h (up (cellAt (sync0 1 2 false) 5 0 []) [(F.SY_STAT_CMD_BUSY.at 0, 1)]) 0 (by decide +kernel) (by decide +kernel)).2.2.2.2.1) := ⟨trivial, trivial, trivial⟩

theorem witness_SyncCommands_done_2 (h : Obligations.SyncCommands) :
    Met ((h lit0 0 (by decide +kernel) (by decide +kernel)).2.2.2.2.2 (by decide +kernel)) := trivial
/-- The steward with context 1 and partition 2 selected, the partition on plot 1, table entries to set. -/
def cmdAt (l : List (Loc × Nat)) (k : CtxSt) : State :=
  { up lit0 ([(F.CX_SEL_CTX.at stw, 1), (F.PT_SEL_PART.at stw, 2), (F.CX_CFG_PART.at stw 0 1, 2), (F.PT_PLOTS0_PLOTS.at stw 0 2, 2), (F.AP_MASTER_MASTER.at stw, 1024), (F.AP_TGT_SITE.at stw, 2),
      (F.PP_PART_DIE_W.at stw 0 2, 100), (F.PP_PART_STK_W.at stw 0 2, 50), (F.PP_EFF_WATTS.at stw, 14000), (F.TP_FLOWCAP_WATTS.at stw, 14000)] ++ l) with ctxs := tset ctxInit [] [1] k }

/-- Context 1 ACTIVE on core 0. -/
def active0 : CtxSt := { ctxInit with cores := [c0] }

/-- Partition 2 VALID. -/
def valid2 : List (Loc × Nat) := [(F.PT_CFG_VALID.at stw 0 2, 1)]

/-- Partition 2 armed with one fence entry, at panel address 0. -/
def fenceAt : State := cmdAt (valid2 ++ [(F.PT_CFG_ARMED.at stw 0 2, 1), (F.PT_FCOUNT_COUNT.at stw 0 2, 1)]) ctxInit

/-- The read of that entry. -/
def fenceRead : Except Nat (List Byte) × State :=
  (fenceAt.wr (F.PT_CFG_ARMED.at stw 0 fenceAt.ptSel) 1).stwRead (fenceAt.rd (F.PT_FLIST.at stw 0 fenceAt.ptSel)) (4 * fenceAt.rd (F.PT_FCOUNT_COUNT.at stw 0 fenceAt.ptSel))

theorem witness_ContextCommands_1 (h : Obligations.ContextCommands) :
    Met ((h (cmdAt valid2 ctxInit) (by decide +kernel)).1 (by decide +kernel) (by decide +kernel)) ∧
    Met ((h (cmdAt [] ctxInit) (by decide +kernel)).2.1 (.inr (by decide +kernel))) ∧
    Met ((h (cmdAt (valid2 ++ [(F.CX_STATE_STATE.at stw 0 1, 2)]) active0) (by decide +kernel)).2.2.1 (by decide +kernel) (by decide +kernel)) := ⟨trivial, trivial, trivial⟩

theorem witness_ContextCommands_2 (h : Obligations.ContextCommands) :
    Met ((h (cmdAt (valid2 ++ [(F.CX_STATE_STATE.at stw 0 1, 2), (F.RP_STAT_STATE.at stw 0 2, 1)]) active0) (by decide +kernel)).2.2.2.1 (by decide +kernel) (by decide +kernel)) ∧
    Met ((h (cmdAt valid2 ctxInit) (by decide +kernel)).2.2.2.2.1 (by decide +kernel)) ∧
    Met ((h (cmdAt (valid2 ++ [(F.CX_STATE_STATE.at stw 0 1, 2)]) active0) (by decide +kernel)).2.2.2.2.2.1 (by decide +kernel) (by decide +kernel) (of_decide_eq_true (by decide +kernel))) := ⟨trivial, trivial, trivial⟩

theorem witness_ContextCommands_3 (h : Obligations.ContextCommands) :
    Met ((h (cmdAt (valid2 ++ [(F.CX_STATE_STATE.at stw 0 1, 4)]) active0) (by decide +kernel)).2.2.2.2.2.2.1 (by decide +kernel) (by decide +kernel)) ∧
    Met ((h (cmdAt valid2 ctxInit) (by decide +kernel)).2.2.2.2.2.2.2.1 (.inl (by decide +kernel))) ∧
    Met ((h (cmdAt (valid2 ++ [(F.CX_STATE_STATE.at stw 0 1, 2)]) active0) (by decide +kernel)).2.2.2.2.2.2.2.2.1 (.inr (.inl (by decide +kernel)))) := ⟨trivial, trivial, trivial⟩

theorem witness_ContextCommands_4 (h : Obligations.ContextCommands) :
    Met ((h (cmdAt (valid2 ++ [(F.CX_STATE_STATE.at stw 0 1, 3)]) active0) (by decide +kernel)).2.2.2.2.2.2.2.2.2.1 (.inl (by decide +kernel))) ∧
    Met ((h (cmdAt valid2 ctxInit) (by decide +kernel)).2.2.2.2.2.2.2.2.2.2.1 (by decide +kernel)) ∧
    Met ((h (cmdAt [] ctxInit) (by decide +kernel)).2.2.2.2.2.2.2.2.2.2.2.1 (by decide +kernel) (by decide +kernel) (of_decide_eq_true (by decide +kernel)) (by decide +kernel)) := ⟨trivial, trivial, trivial⟩
/-- The steward's pages in use and nothing else but some fields. -/
def bare (l : List (Loc × Nat)) : State :=
  up State.reset ([(F.BR_STAT_ROM.at 306, 0), (F.PG_STAT_READY.at stw 0x21, 1), (F.PG_STAT_READY.at stw 0x22, 1)] ++ l)

theorem witness_ContextCommands_tables_1 (h : Obligations.ContextCommands) :
    Met ((h (bare [(F.PT_SEL_PART.at stw, 2), (F.PT_CFG_VALID.at stw 0 2, 1), (F.PT_PLOTS0_PLOTS.at stw 0 2, 2)]) (by decide +kernel)).2.2.2.2.2.2.2.2.2.2.2.2.1 (by decide +kernel) (by decide +kernel)) ∧
    Met ((h (bare [(F.PT_SEL_PART.at stw, 2), (F.PT_PLOTS0_PLOTS.at stw 0 2, 2)]) (by decide +kernel)).2.2.2.2.2.2.2.2.2.2.2.2.2.1 (by decide +kernel) (by decide +kernel)) ∧
    Met ((h (bare [(F.PT_SEL_PART.at stw, 2), (F.CX_STATE_STATE.at stw 0 1, 2), (F.CX_CFG_PART.at stw 0 1, 2), (F.PT_PLOTS0_PLOTS.at stw 0 2, 2)]) (by decide +kernel)).2.2.2.2.2.2.2.2.2.2.2.2.2.2.1 (by decide +kernel)) := ⟨trivial, trivial, trivial⟩

theorem witness_ContextCommands_tables_2 (h : Obligations.ContextCommands) :
    Met ((h fenceAt (by decide +kernel)).2.2.2.2.2.2.2.2.2.2.2.2.2.2.2.1 [0, 0, 0, 0] fenceRead.2 (by decide +kernel) (by decide +kernel) (of_decide_eq_true (by decide +kernel)) (by decide +kernel) (gave fenceRead _ (by decide +kernel))) ∧
    Met ((h { cmdAt valid2 ctxInit with flists := [([2], [(0, 0, 3)])] } (by decide +kernel)).2.2.2.2.2.2.2.2.2.2.2.2.2.2.2.2.1 (by decide +kernel)) ∧
    Met ((h (cmdAt [] ctxInit) (by decide +kernel)).2.2.2.2.2.2.2.2.2.2.2.2.2.2.2.2.2.1 (by decide +kernel)) := ⟨trivial, trivial, trivial⟩

theorem witness_ContextCommands_tables_3 (h : Obligations.ContextCommands) :
    Met ((h (cmdAt valid2 ctxInit) (by decide +kernel)).2.2.2.2.2.2.2.2.2.2.2.2.2.2.2.2.2.2.1 (by decide +kernel) (by decide +kernel) (of_decide_eq_true (by decide +kernel)) (by decide +kernel) (.inl ⟨(by decide +kernel), (by decide +kernel)⟩)) ∧
    Met ((h (bare [(F.CX_CFG_PART.at stw 0 1, 2), (F.AP_MASTER_MASTER.at stw, 1), (F.AP_TGT_SITE.at stw, 2), (F.AP_RD.at stw, 1)]) (by decide +kernel)).2.2.2.2.2.2.2.2.2.2.2.2.2.2.2.2.2.2.2.1 (by decide +kernel) (by decide +kernel) (of_decide_eq_true (by decide +kernel)) (by decide +kernel) (by decide +kernel) (.inl (by decide +kernel))) ∧
    Met ((h (cmdAt valid2 ctxInit) (by decide +kernel)).2.2.2.2.2.2.2.2.2.2.2.2.2.2.2.2.2.2.2.2.1 (by decide +kernel) (by decide +kernel) (of_decide_eq_true (by decide +kernel))) := ⟨trivial, trivial, trivial⟩

theorem witness_ContextCommands_tables_4 (h : Obligations.ContextCommands) :
    Met ((h (cmdAt [(F.AP_TGT_SITE.at stw, 0)] ctxInit) (by decide +kernel)).2.2.2.2.2.2.2.2.2.2.2.2.2.2.2.2.2.2.2.2.2 (.inl (by decide +kernel))) := trivial
/-- An entry of queue 3 not started: kind, first virtual core, count. -/
def entry0 (kind first count : Nat) : QEnt := { ix := 0, e := kind + at8 16 first + at8 18 count, st := 0, left := [], dies := [], lsite := 0, lslot := 0 }

/-- Context 1 of partition 2 (plot 0), in a state, on one core, an entry in its queue. -/
def workAt (ctx bound core : Nat) (e : QEnt) (k : CtxSt) (l : List (Loc × Nat)) : State :=
  { up lit0 ([(F.CX_CFG_PART.at stw 0 1, 2), (F.PT_PLOTS0_PLOTS.at stw 0 2, 1), (F.PT_CFG_VALID.at stw 0 2, 1), (F.CX_STATE_STATE.at stw 0 1, ctx), (F.CX_CFG_NCORES.at stw 0 1, 1),
      (F.QU_CFG_ENABLE.at stw 0 3, 1), (F.QU_CFG_CTX.at stw 0 3, 1), (F.CORE_BIND_BOUND.core c0, bound), (F.CORE_BIND_CTX.core c0, bound), (F.CORE_STATE_STATE.core c0, core), (F.SITE_CORES_SERVICE.at 0, 1)] ++ l) with
    ctxs := tset ctxInit [] [1] k, queues := [([3], { queueInit with ents := [e] })], mem := [(stkAddr 0 3, 0x80)] }

/-- A core being saved or restored. -/
def savingAt (save saving : Nat) : State :=
  (workAt 3 1 6 entry1 active0 [(F.CX_SAVE.at stw 0 1, save)]).onCore c0 (fun k => { k with saving := saving })

/-- The read of context 1's core map. -/
def map0 : Except (Nat × Nat) (List CoreId) × State := (workAt 1 0 1 (entry0 1 0 1) ctxInit []).readMap ((workAt 1 0 1 (entry0 1 0 1) ctxInit []).quCtx 3)

/-- A save, whose slot is in panel memory or beyond it. -/
def save0 (n : Nat) : Except Nat Unit × State :=
  (savingAt n 1).writePieces ((savingAt n 1).saveAsker c0 2) ((savingAt n 1).slotBase ((savingAt n 1).ctxOf c0) ((savingAt n 1).rd (F.CORE_BIND_VCORE.core c0))) ((savingAt n 1).savePieces c0)

/-- The header of a restore. -/
def head0 : Except Nat (List Byte) × State :=
  (savingAt 0 2).panelRead ((savingAt 0 2).saveAsker c0 1) ((savingAt 0 2).slotBase ((savingAt 0 2).ctxOf c0) ((savingAt 0 2).rd (F.CORE_BIND_VCORE.core c0))) 608

theorem witness_ContextsAtWork_1 (h : Obligations.ContextsAtWork) :
    Met ((h (workAt 1 0 1 (entry0 1 0 1) ctxInit [])).1 3 [c0] map0.2 (by decide +kernel) (by decide +kernel) (of_decide_eq_true (by decide +kernel)) (by decide +kernel) (by decide +kernel) (of_decide_eq_true (by decide +kernel)) (gave map0 _ (by decide +kernel)) (by decide +kernel) (by decide +kernel)) ∧
    Met ((h (workAt 3 1 6 entry1 active0 [(F.CX_PRE_TMO_PRE_TMO.at stw 0 1, 5)])).2.1 1 (by decide +kernel) (by decide +kernel)) ∧
    Met (((h (savingAt 0 1)).2.2.1 c0 (save0 0).2 (by decide +kernel) (by decide +kernel) (of_decide_eq_true (by decide +kernel))).1 (did (save0 0) (by decide +kernel))) := ⟨trivial, trivial, trivial⟩

theorem witness_ContextsAtWork_2 (h : Obligations.ContextsAtWork) :
    Met (((h (savingAt 0xFFFFFFFE 1)).2.2.1 c0 (save0 0xFFFFFFFE).2 (by decide +kernel) (by decide +kernel) (of_decide_eq_true (by decide +kernel))).2 0x2202 (failed (save0 0xFFFFFFFE) _ (by decide +kernel))) ∧
    Met ((h (savingAt 0 2)).2.2.2.1 c0 (List.replicate 608 0) head0.2 _ (by decide +kernel) (by decide +kernel) (of_decide_eq_true (by decide +kernel)) (gave head0 _ (by decide +kernel)) (did _ (by decide +kernel))) ∧
    Met (((h (workAt 2 1 1 (entry0 2 0 0) active0 [])).2.2.2.2.1 3 (entry0 2 0 0) (by decide +kernel) (by decide +kernel)).1 (by decide +kernel)) := ⟨trivial, trivial, trivial⟩

theorem witness_ContextsAtWork_3 (h : Obligations.ContextsAtWork) :
    Met (((h (workAt 2 1 1 (entry0 1 1 1) active0 [])).2.2.2.2.1 3 (entry0 1 1 1) (by decide +kernel) (by decide +kernel)).2.1 (by decide +kernel) (by decide +kernel) (of_decide_eq_true (by decide +kernel))) ∧
    Met (((h (workAt 2 1 1 (entry0 1 0 1) active0 [])).2.2.2.2.1 3 (entry0 1 0 1) (by decide +kernel) (by decide +kernel)).2.2 (by decide +kernel) (by decide +kernel) (of_decide_eq_true (by decide +kernel)) ⟨{ entry0 1 0 1 with dies := [0] }, (by decide +kernel), (by decide +kernel)⟩ (by decide +kernel) (by decide +kernel)) ∧
    Met (((h (workAt 2 1 1 (entry0 1 0 1) active0 [])).2.2.2.2.2.1 3 (by decide +kernel)).1) := ⟨trivial, trivial, trivial⟩

theorem witness_ContextsAtWork_4 (h : Obligations.ContextsAtWork) :
    Met (((h lit0).2.2.2.2.2.1 4 (by decide +kernel)).2.2 (by decide +kernel) (by decide +kernel)) ∧
    Met (((h (up lit0 [(F.QU_CFG_LOC.at stw 0 4, 1), (F.CP_LINK_UP.at 304, 1)])).2.2.2.2.2.1 4 (by decide +kernel)).2.1 (by decide +kernel) (by decide +kernel)) ∧
    Met (((h (workAt 2 1 1 (entry0 1 0 1) active0 [(F.QU_STAT_STOPPED.at stw 0 3, 1), (F.QU_STAT_CODE.at stw 0 3, 0x5301)])).2.2.2.2.2.2.1 3 (by decide +kernel)).1 (by decide +kernel)) := ⟨trivial, trivial, trivial⟩

theorem witness_ContextsAtWork_5 (h : Obligations.ContextsAtWork) :
    Met (((h (workAt 2 1 1 (entry0 1 0 1) active0 [])).2.2.2.2.2.2.1 3 (by decide +kernel)).2) ∧
    Met ((h (up lit0 [(F.AC_SEL_MASTER.at 2, 1024)])).2.2.2.2.2.2.2.1 (.acRdHiWrite, 0x108, 0, F.AC_RD) (by simp) 2 5 1024 0 (by decide +kernel) (by decide +kernel) |>.2 (by decide +kernel)) ∧
    Met ((h (up lit0 [(F.AC_SEL_MASTER.at 2, 1), (F.CX_CFG_PART.at stw 0 1, 2), (F.CX_STATE_STATE.at stw 0 1, 2)])).2.2.2.2.2.2.2.1 (.acRdHiWrite, 0x108, 0, F.AC_RD) (by simp) 2 5 1 0 (by decide +kernel) (by decide +kernel) |>.1 (by decide +kernel)) := ⟨trivial, trivial, trivial⟩

theorem witness_ContextsAtWork_6 (h : Obligations.ContextsAtWork) :
    Met ((h (up lit0 [(F.AC_SEL_MASTER.at 2, 1024)])).2.2.2.2.2.2.2.1 (.acWrHiWrite, 0x110, 1, F.AC_WR) (by simp) 2 5 1024 0 (by decide +kernel) (by decide +kernel) |>.2 (by decide +kernel)) ∧
    Met ((h lit0).2.2.2.2.2.2.2.2.1 2 5 (by decide +kernel) (by decide +kernel) (of_decide_eq_true (by decide +kernel)) (by decide +kernel)) ∧
    Met ((h lit0).2.2.2.2.2.2.2.2.2 2 5 (by decide +kernel) (by decide +kernel) (of_decide_eq_true (by decide +kernel)) (by decide +kernel)) := ⟨trivial, trivial, trivial⟩
/-- Host port 0 up with CXL, the host-memory range on stack 0, a decoder and an interleave set of 1 GiB. -/
def hostAt (l : List (Loc × Nat)) : State :=
  { up lit0 ([(F.CP_LINK_UP.at 304, 1), (F.CP_LINK_CXL.at 304, 1), (F.AM_SET_VALID.at 304 0 0, 1), (F.AM_SET_N.at 304 0 0, 1), (F.AM_SIZE_SIZE.at 304 0 0, 1), (F.EQ_CFG_IMOD.at 304 0 1, 3),
      (F.QU_CFG_CTX.at stw 0 3, 1), (F.AC_RD.at 306 0 (aclIdx 1024 1), 1)] ++ l) with hdm := [([0, 0, 0], 2 ^ 28), ([0, 0, 1], 2 ^ 28), ([0, 0, 3], 1)], crds := [(0, 3)] }

/-- A host request in progress. -/
def hreq (path : Nat) (write : Bool) : HostReq := { id := 7, port := 0, path := path, write := write, addr := 0, len := 4, pasid := 0, master := 1024, site := 0, tags := [5], got := [], after := [] }

theorem witness_HostTraffic_1 (h : Obligations.HostTraffic) :
    Met ((h.1 (hostAt []) 0 (by decide +kernel) (by decide +kernel)).1 (some 9) 0x104 4 none none (by decide +kernel) (by decide +kernel) _ (List.mem_cons_self ..)) ∧
    Met (((h.1 (hostAt []) 0 (by decide +kernel) (by decide +kernel)).2.1 none (0xFF <<< 12) none 1024 (by decide +kernel) (by decide +kernel)).1 (by decide +kernel) (by decide +kernel)) ∧
    Met (((h.1 (hostAt []) 0 (by decide +kernel) (by decide +kernel)).2.1 none (8 <<< 12 + 0x104) (some 3) 1024 (by decide +kernel) (by decide +kernel)).2.1 (by decide +kernel) (by decide +kernel)) := ⟨trivial, trivial, trivial⟩

theorem witness_HostTraffic_2 (h : Obligations.HostTraffic) :
    Met (((h.1 (hostAt []) 0 (by decide +kernel) (by decide +kernel)).2.1 none (8 <<< 12 + 0x105) none 1024 (by decide +kernel) (by decide +kernel)).2.2.1 (by decide +kernel) (by decide +kernel)) ∧
    Met (((h.1 (hostAt []) 0 (by decide +kernel) (by decide +kernel)).2.1 none (3 * 4096) none 1024 (by decide +kernel) (by decide +kernel)).2.2.2.1 6 (by decide +kernel) rfl (by decide +kernel)) ∧
    Met (((h.1 { hostAt [] with hostReqs := [hreq 1 true] } 0 (by decide +kernel) (by decide +kernel)).2.1 none (3 * 4096) none 1024 (by decide +kernel) (by decide +kernel)).2.2.2.2.1 (hreq 1 true) 6 (by decide +kernel) rfl rfl rfl rfl rfl) := ⟨trivial, trivial, trivial⟩

theorem witness_HostTraffic_3 (h : Obligations.HostTraffic) :
    Met (((h.1 (hostAt []) 0 (by decide +kernel) (by decide +kernel)).2.1 none (3 * 4096 + 4) none 1024 (by decide +kernel) (by decide +kernel)).2.2.2.2.2.1 (by decide +kernel) (by decide +kernel)) ∧
    Met ((((h.1 (hostAt []) 0 (by decide +kernel) (by decide +kernel)).2.1 none 0x40 none 1024 (by decide +kernel) (by decide +kernel)).2.2.2.2.2.2 64 (by decide +kernel) (by decide +kernel) (of_decide_eq_true (by decide +kernel)) (by decide +kernel)).1 0 0x40 (ok_val _ _ (by decide +kernel)) (by decide +kernel)) ∧
    Met (((((h.1 (hostAt []) 0 (by decide +kernel) (by decide +kernel)).2.1 none 0x40 none 1024 (by decide +kernel) (by decide +kernel)).2.2.2.2.2.2 64 (by decide +kernel) (by decide +kernel) (of_decide_eq_true (by decide +kernel)) (by decide +kernel)).1 0 0x40 (ok_val _ _ (by decide +kernel)) (by decide +kernel)).2 (List.replicate 64 1) List.length_replicate (by decide +kernel) (by decide +kernel) rfl) := ⟨trivial, trivial, trivial⟩

theorem witness_HostTraffic_4 (h : Obligations.HostTraffic) :
    Met ((((h.1 (hostAt [(F.CP_AP.at 304, 2 ^ 15)]) 0 (by decide +kernel) (by decide +kernel)).2.1 none 0x40 none 1024 (by decide +kernel) (by decide +kernel)).2.2.2.2.2.2 64 (by decide +kernel) (by decide +kernel) (of_decide_eq_true (by decide +kernel)) (by decide +kernel)).2 2 (err_code _ _ (by decide +kernel))) ∧
    Met ((((h.1 (hostAt []) 0 (by decide +kernel) (by decide +kernel)).2.2.1 (by decide +kernel)).1 (2 ^ 28) 0 0 0 (by decide +kernel) (by decide +kernel) (of_decide_eq_true (by decide +kernel))).1 (ok_val _ _ (by decide +kernel)) (by decide +kernel)) ∧
    Met ((((h.1 (hostAt []) 0 (by decide +kernel) (by decide +kernel)).2.2.1 (by decide +kernel)).1 (2 ^ 28 + 4) 0 0 4 (by decide +kernel) (by decide +kernel) (of_decide_eq_true (by decide +kernel))).2.1 [1, 2] (by decide +kernel) (by decide +kernel) (ok_val _ _ (by decide +kernel))) := ⟨trivial, trivial, trivial⟩

theorem witness_HostTraffic_5 (h : Obligations.HostTraffic) :
    Met ((((h.1 (hostAt []) 0 (by decide +kernel) (by decide +kernel)).2.2.1 (by decide +kernel)).1 (2 ^ 28 + 4) 0 0 0 (by decide +kernel) (by decide +kernel) (of_decide_eq_true (by decide +kernel))).2.2 (List.replicate 72 1) List.length_replicate (ok_val _ _ (by decide +kernel))) ∧
    Met (((h.1 (hostAt []) 0 (by decide +kernel) (by decide +kernel)).2.2.1 (by decide +kernel)).2) ∧
    Met ((h.1 (hostAt []) 0 (by decide +kernel) (by decide +kernel)).2.2.2.1 3 (by decide +kernel)) := ⟨trivial, trivial, trivial⟩

theorem witness_HostTraffic_6 (h : Obligations.HostTraffic) :
    Met ((h.1 { hostAt [] with hostReqs := [hreq 4 false] } 0 (by decide +kernel) (by decide +kernel)).2.2.2.2 7 (hreq 4 false) (by decide +kernel)) ∧
    Met ((h.2 lit0 0 (by decide +kernel)).1 6 8 true false true (by decide +kernel) (by decide +kernel) (of_decide_eq_true (by decide +kernel)) (by decide +kernel) (.inr rfl) (.inr ⟨rfl, (by decide +kernel)⟩)) ∧
    Met (((h.2 { hostAt [] with hostReqs := [hreq 1 true] } 0 (by decide +kernel)).2.1 (by decide +kernel)).1 true) := ⟨trivial, trivial, trivial⟩

theorem witness_HostTraffic_7 (h : Obligations.HostTraffic) :
    Met (((h.2 (hostAt []) 0 (by decide +kernel)).2.1 (by decide +kernel)).2.1) ∧
    Met (((h.2 (hostAt []) 0 (by decide +kernel)).2.1 (by decide +kernel)).2.2.1) ∧
    Met (((h.2 (hostAt []) 0 (by decide +kernel)).2.1 (by decide +kernel)).2.2.2 0 (2 ^ 28) (2 ^ 28) 0 1 (by decide +kernel) (by decide +kernel) (of_decide_eq_true (by decide +kernel))) := ⟨trivial, trivial, trivial⟩

theorem witness_HostTraffic_8 (h : Obligations.HostTraffic) :
    Met ((h.2 ((hostAt []).setEq 0 1 { eqReset with uncovered := true }) 0 (by decide +kernel)).2.2.1 1 (by decide +kernel)) ∧
    Met ((h.2 (hostAt [(F.EQ_TAIL_TAIL.at 304 0 0, 3)]) 0 (by decide +kernel)).2.2.2.1 2 (by decide +kernel) (by decide +kernel)) ∧
    Met ((h.2 (hostAt [(F.EQ_CFG_ENABLE.at 304 0 0, 1)]) 0 (by decide +kernel)).2.2.2.2 (by decide +kernel) |>.1) := ⟨trivial, trivial, trivial⟩

theorem witness_HostTraffic_9 (h : Obligations.HostTraffic) :
    Met (((h.2 (hostAt []) 0 (by decide +kernel)).2.2.2.2 (by decide +kernel)).2 (by decide +kernel)) := trivial
/-- Host port 0 up, the security die running with its identity, a challenge drawn. -/
def secAt : State :=
  { up lit0 [(F.CP_LINK_UP.at 304, 1), (F.SEC_STAT_IDENT_OK.at 308, 1), (F.SEC_STAT_CERT_OK.at 308, 1)] with sec := { lit0.sec with running := true, challenge := List.replicate 32 7, port := 0 } }

/-- The same with no challenge outstanding. -/
def secIdle : State := { secAt with sec := { secAt.sec with challenge := [] } }

/-- The same with its counters at 1 and 2, whatever they were at assembly. -/
def secSvn : State := { secAt with fld := tset 0 (tset 0 secAt.fld (F.SEC_FW_SVN_COUNT.at 308).key 2) (F.SEC_KEY_SVN_COUNT.at 308).key 3 }

theorem witness_Attestation_1 (h : Obligations.Attestation) :
    Met ((h.1 secAt 0 (by decide +kernel) (by decide +kernel)).1 (0, [1, 0, 1]) (List.mem_cons_self ..)) ∧
    Met ((h.1 secAt 0 (by decide +kernel) (by decide +kernel)).2.1) ∧
    Met ((h.1 secAt 0 (by decide +kernel) (by decide +kernel)).2.2.1) := ⟨trivial, trivial, trivial⟩

theorem witness_Attestation_2 (h : Obligations.Attestation) :
    Met (((h.1 secAt 0 (by decide +kernel) (by decide +kernel)).2.2.2.1 (.getInfo, 0) (List.mem_cons_self ..) 2 []).2.1 (by decide +kernel) (by decide +kernel)) ∧
    Met (((h.1 secAt 0 (by decide +kernel) (by decide +kernel)).2.2.2.1 (.getInfo, 0) (List.mem_cons_self ..) 1 (List.replicate 65525 0)).1 (Nat.lt_of_lt_of_eq (by decide +kernel) List.length_replicate.symm)) ∧
    Met (((h.1 secAt 0 (by decide +kernel) (by decide +kernel)).2.2.2.1 (.getInfo, 0) (List.mem_cons_self ..) 1 [5]).2.2.1 (by decide +kernel) (by decide +kernel)) := ⟨trivial, trivial, trivial⟩

theorem witness_Attestation_3 (h : Obligations.Attestation) :
    Met (((h.1 (up lit0 [(F.CP_LINK_UP.at 304, 1)]) 0 (by decide +kernel) (by decide +kernel)).2.2.2.1 (.getInfo, 0) (List.mem_cons_self ..) 1 []).2.2.2 (by decide +kernel) (fun r => absurd r.1 (by decide +kernel))) ∧
    Met (((h.1 secAt 0 (by decide +kernel) (by decide +kernel)).2.2.2.2 ⟨(by decide +kernel), (by decide +kernel), (by decide +kernel)⟩).1) ∧
    Met (((h.1 secAt 0 (by decide +kernel) (by decide +kernel)).2.2.2.2 ⟨(by decide +kernel), (by decide +kernel), (by decide +kernel)⟩).2.1) := ⟨trivial, trivial, trivial⟩

theorem witness_Attestation_4 (h : Obligations.Attestation) :
    Met (((h.1 secAt 0 (by decide +kernel) (by decide +kernel)).2.2.2.2 ⟨(by decide +kernel), (by decide +kernel), (by decide +kernel)⟩).2.2.1 [0xFF, 0, 0, 0] rfl) ∧
    Met (((h.1 secAt 0 (by decide +kernel) (by decide +kernel)).2.2.2.2 ⟨(by decide +kernel), (by decide +kernel), (by decide +kernel)⟩).2.2.2.1 (List.replicate 36 1) rfl) ∧
    Met (((h.1 secAt 0 (by decide +kernel) (by decide +kernel)).2.2.2.2 ⟨(by decide +kernel), (by decide +kernel), (by decide +kernel)⟩).2.2.2.2.1) := ⟨trivial, trivial, trivial⟩

theorem witness_Attestation_5 (h : Obligations.Attestation) :
    Met ((((h.1 secIdle 0 (by decide +kernel) (by decide +kernel)).2.2.2.2 ⟨(by decide +kernel), (by decide +kernel), (by decide +kernel)⟩).2.2.2.2.2 (List.replicate 4696 0) List.length_replicate).1
      (by simp only [State.debugHolds, ne_eq, show secIdle.sec.challenge = [] from rfl, not_true_eq_false, false_and, and_false, decide_false, Bool.false_and])) ∧
    Met ((h.2 secSvn (by decide +kernel) (by decide +kernel)).1 (by decide +kernel) (by decide +kernel)) ∧
    Met ((h.2 secAt (by decide +kernel) (by decide +kernel)).2.1 3 (.inl (by decide +kernel))) := ⟨trivial, trivial, trivial⟩

theorem witness_Attestation_6 (h : Obligations.Attestation) :
    Met ((h.2 secSvn (by decide +kernel) (by decide +kernel)).2.2.1 7 (by decide +kernel) (by decide +kernel)) ∧
    Met ((h.2 secAt (by decide +kernel) (by decide +kernel)).2.2.2) := ⟨trivial, trivial⟩
/-- An authorisation that holds, where the uninterpreted signature check of Config says so. -/
theorem witness_attestation_opens (h : Obligations.Attestation) (b : List Byte) (hb : b.length = 4696) (hv : secAt.debugHolds (b.drop 4) = true) :
    Met ((((h.1 secAt 0 (by decide +kernel) (by decide +kernel)).2.2.2.2 ⟨(by decide +kernel), (by decide +kernel), (by decide +kernel)⟩).2.2.2.2.2 b hb).2 hv) := trivial

/-- A debug authorisation of serial, current challenge and scope 0. -/
def debug0 : List Byte := List.replicate 4 0 ++ secAt.certSerial ++ List.replicate 32 7 ++ List.replicate 4640 0

/-- The certificate's serial has 16 bytes. -/
theorem serial_length (s : State) : s.certSerial.length = 16 := by
  have h : s.certificate.length = 7316 := by simp [State.certificate, State.storeBytes]
  rw [State.certSerial, List.length_take, List.length_drop, h]; rfl

/-- The fields of a record of four parts. -/
theorem four_parts (a b c d : List Byte) (ha : a.length = 4) (hb : b.length = 16) (hc : c.length = 32) :
    ((a ++ b ++ c ++ d).drop 4).take 16 = b ∧ ((a ++ b ++ c ++ d).drop 20).take 32 = c ∧ (a ++ b ++ c ++ d).drop 52 = d := by
  refine ⟨?_, ?_, ?_⟩
  · rw [List.append_assoc, List.append_assoc, ← ha, List.drop_left, ← hb, List.take_left]
  · rw [List.append_assoc, show 20 = (a ++ b).length by simp [ha, hb], List.drop_left, ← hc, List.take_left]
  · rw [show 52 = (a ++ b ++ c).length by simp [ha, hb, hc], List.drop_left]

/-- It holds where its signature verifies. -/
theorem debug0_holds (hv : ∀ k d g, Config.mldsaVerify k d g = true) : secAt.debugHolds debug0 = true := by
  have h := four_parts (List.replicate 4 0) secAt.certSerial (List.replicate 32 7) (List.replicate 4640 0) List.length_replicate (serial_length _) List.length_replicate
  rw [State.debugHolds, debug0, hv, Bool.and_true, decide_eq_true_eq, h.1, h.2.1, h.2.2]
  exact ⟨rfl, (by decide +kernel), rfl, (by decide +kernel), (by decide +kernel)⟩

/-- A request that carries it has the length of R559. -/
theorem debug0_length : (List.replicate 4 0 ++ debug0).length = 4696 := by
  rw [debug0, List.length_append, List.length_append, List.length_append, List.length_append, serial_length, List.length_replicate, List.length_replicate, List.length_replicate]

theorem witness_Attestation_debug (hv : ∀ k d g, Config.mldsaVerify k d g = true) (h : Obligations.Attestation) :
    Met ((((h.1 secAt 0 (by decide +kernel) (by decide +kernel)).2.2.2.2 ⟨(by decide +kernel), (by decide +kernel), (by decide +kernel)⟩).2.2.2.2.2 (List.replicate 4 0 ++ debug0) debug0_length).2 (by rw [List.drop_left' List.length_replicate]; exact debug0_holds hv)) := trivial

/-- The link between dies 0 and 5, in a state, its bundles in a state. -/
def linkAt (st bst : Nat) : State :=
  up lit0 ([(F.ML_STAT_STATE.at 0 1, st), (F.ML_STAT_STATE.at 5 0, st)] ++ (List.range 12).flatMap (fun b => [(F.ML_BSTAT_STATE.at 0 1 b, bst), (F.ML_BSTAT_STATE.at 5 0 b, bst)]))

/-- A flit of bundle 0. -/
def flit0 : Flit := { data := List.replicate 64 9, seq := 0 }

/-- The link UP with eight retrains behind it. -/
def oftenAt : State := (linkAt 2 2).setLinkEnd 0 1 { linkEndReset with times := List.replicate 8 0 }

theorem witness_Links_1 (h : Obligations.Links) :
    Met (h.1 (List.replicate 64 5) 3 543 List.length_replicate (by decide +kernel) (by decide +kernel)) ∧
    Met ((((h.2 (linkAt 2 2) 0 1 0 5 0 (by decide +kernel)).1 (by decide +kernel)).1 flit0 8 { linkEndReset with pool := [0] } List.length_replicate (by decide +kernel) rfl (by decide +kernel) (by decide +kernel) (of_decide_eq_true (by decide +kernel)) (by decide +kernel) (by decide +kernel) (of_decide_eq_true (by decide +kernel))).1 (by decide +kernel) (by decide +kernel)) ∧
    Met ((((h.2 (linkAt 2 2) 0 1 0 5 0 (by decide +kernel)).1 (by decide +kernel)).1 flit0 8 { linkEndReset with pool := [0] } List.length_replicate (by decide +kernel) rfl (by decide +kernel) (by decide +kernel) (of_decide_eq_true (by decide +kernel)) (by decide +kernel) (by decide +kernel) (of_decide_eq_true (by decide +kernel))).2 543 (by decide +kernel) (by decide +kernel) (of_decide_eq_true (by decide +kernel))) := ⟨trivial, trivial, trivial⟩

theorem witness_Links_2 (h : Obligations.Links) :
    Met (((h.2 (linkAt 2 2) 0 1 0 5 0 (by decide +kernel)).1 (by decide +kernel)).2.1 (linkAt 2 2) 5 (fun k i => by cases i)) ∧
    Met (((h.2 (linkAt 2 2) 0 1 0 5 0 (by decide +kernel)).1 (by decide +kernel)).2.2.1 { linkAt 2 2 with msgs := [.linkCtl 5 0 0 8 3] } 8 3 [] rfl (by decide +kernel) (by decide +kernel)) ∧
    Met (((h.2 ((linkAt 2 2).setBundle 0 1 0 { bundleReset with next := 1, replay := [(flit0, 8)] }) 0 1 0 5 0 (by decide +kernel)).1 (by decide +kernel)).2.2.2.1 0) := ⟨trivial, trivial, trivial⟩

theorem witness_Links_3 (h : Obligations.Links) :
    Met (((h.2 ((linkAt 2 2).setBundle 0 1 0 { bundleReset with next := 1, replay := [(flit0, 8)] }) 0 1 0 5 0 (by decide +kernel)).1 (by decide +kernel)).2.2.2.2.1 0) ∧
    Met (((h.2 ((linkAt 2 2).setLinkEnd 0 1 { linkEndReset with resv := [2, 0, 0, 0, 0, 0, 0, 0] }) 0 1 0 5 0 (by decide +kernel)).1 (by decide +kernel)).2.2.2.2.2.1 0 1 (by decide +kernel)) ∧
    Met (((h.2 ((linkAt 2 2).setLinkEnd 0 1 { linkEndReset with pool := [0, 3] }) 0 1 0 5 0 (by decide +kernel)).1 (by decide +kernel)).2.2.2.2.2.2.1 1) := ⟨trivial, trivial, trivial⟩

theorem witness_Links_4 (h : Obligations.Links) :
    Met (((h.2 ((linkAt 2 2).setBundle 0 1 0 { bundleReset with nak := true, naks := 1 }) 0 1 0 5 0 (by decide +kernel)).1 (by decide +kernel)).2.2.2.2.2.2.2 (by decide +kernel) (by decide +kernel)) ∧
    Met (((h.2 (linkAt 2 2) 0 1 0 5 0 (by decide +kernel)).2.1 (by decide +kernel) (by decide +kernel) 0 _ (List.mem_cons_self ..) (by decide +kernel)).1) ∧
    Met (((h.2 (linkAt 2 2) 0 1 0 5 0 (by decide +kernel)).2.1 (by decide +kernel) (by decide +kernel) 0 _ (List.mem_cons_of_mem _ (List.mem_cons_self ..)) (by decide +kernel)).1) := ⟨trivial, trivial, trivial⟩

theorem witness_Links_5 (h : Obligations.Links) :
    Met (((h.2 (linkAt 2 2) 0 1 0 5 0 (by decide +kernel)).2.1 (by decide +kernel) (by decide +kernel) 0 _ (List.mem_cons_self ..) (by decide +kernel)).2.1 (by decide +kernel) (0, 1) (List.mem_cons_self ..)) ∧
    Met (((h.2 oftenAt 0 1 0 5 0 (by decide +kernel)).2.1 (by decide +kernel) (by decide +kernel) 0 _ (List.mem_cons_self ..) (by decide +kernel)).2.2 (by decide +kernel) (0, 1) (List.mem_cons_self ..)) ∧
    Met (((h.2 (linkAt 1 1) 0 1 0 5 0 (by decide +kernel)).2.2 (by decide +kernel) [] 12).1) := ⟨trivial, trivial, trivial⟩

theorem witness_Links_6 (h : Obligations.Links) :
    Met (((h.2 (linkAt 1 1) 0 1 0 5 0 (by decide +kernel)).2.2 (by decide +kernel) [] 12).2.1 rfl (by decide +kernel) (by decide +kernel) (of_decide_eq_true (by decide +kernel)) (0, 1) (List.mem_cons_self ..)) ∧
    Met (((h.2 (linkAt 1 1) 0 1 0 5 0 (by decide +kernel)).2.2 (by decide +kernel) [] 12).2.2 (by decide +kernel) (by decide +kernel)) := ⟨trivial, trivial⟩
/-- A guest port that was fitted is one. -/
theorem guest_fitted (hf : Config.guestFitted 0 = true) : partOf 320 = .guest := by simp [partOf, hf]

theorem guest_is (hf : Config.guestFitted 0 = true) : isGuest 320 = true := by simp [isGuest, guest_fitted hf]

/-- Guest port 0 in a state. -/
def guestAt (st : Nat) : State :=
  up lit0 [(F.SITE_STATE_STATE.at 320, 1), (F.GU_STAT_STATE.at 320, st), (F.BK_RT_ENTRY_VALID.at 320 0 2, 1), (F.BK_RT_ENTRY_VALID.at 320 0 6, 1)]

/-- Its page takes writes. -/
theorem guest_takes (hf : Config.guestFitted 0 = true) (st : Nat) (h : st = 0 ∨ st = 6) : (guestAt st).takes 320 0x20 0x100 = true := by
  have d : (guestAt st).dark 320 = false := by
    have a : ((guestAt st).siteState 320 == 3 || !((guestAt st).powered 320)) = false := by rcases h with rfl | rfl <;> decide +kernel
    simp only [Bool.or_eq_false_iff, Bool.not_eq_false', beq_eq_false_iff_ne] at a
    simp [State.dark, guest_fitted hf, a.1, a.2]
  have r : ((guestAt st).inReset || (guestAt st).on (F.PG_STAT_FENCED.at 320 0x20)) = false := by rcases h with rfl | rfl <;> decide +kernel
  simp only [Bool.or_eq_false_iff] at r
  simp [State.takes, State.answerer, blockOf, guest_fitted hf, d, r.1, r.2, homeOf]

/-- A guest's request. -/
def guestPkt (type vc addr : Nat) : Pkt := sealPkt { type := type, vc := vc, dest := 320, src := 320, addr := addr, len := 1, tag := 6, data := List.replicate 64 2 }

theorem witness_GuestPorts_1 (hf : Config.guestFitted 0 = true) (h : Obligations.GuestPorts) :
    Met ((h (guestAt 0) 320 (guest_is hf)).1 (guest_takes hf 0 (.inl rfl)) |>.1 (.inl (by decide +kernel))) ∧
    Met ((h (guestAt 6) 320 (guest_is hf)).1 (guest_takes hf 6 (.inr rfl)) |>.2.1) ∧
    Met ((h (guestAt 6) 320 (guest_is hf)).1 (guest_takes hf 6 (.inr rfl)) |>.2.2.2 (by decide +kernel)) := ⟨trivial, trivial, trivial⟩

theorem witness_GuestPorts_2 (hf : Config.guestFitted 0 = true) (h : Obligations.GuestPorts) :
    Met ((h (guestAt 6) 320 (guest_is hf)).1 (guest_takes hf 6 (.inr rfl)) |>.2.2.1 (by decide +kernel) (by decide +kernel)) ∧
    Met (((h (guestAt 4) 320 (guest_is hf)).2.1 (by decide +kernel) (by decide +kernel)).1 2 0) ∧
    Met (((h (guestAt 1) 320 (guest_is hf)).2.1 (by decide +kernel) (by decide +kernel)).2 2 0) := ⟨trivial, trivial, trivial⟩

theorem witness_GuestPorts_3 (hf : Config.guestFitted 0 = true) (h : Obligations.GuestPorts) :
    Met (((h (guestAt 5) 320 (guest_is hf)).2.2.1 (by decide +kernel)).1 1024 77 (by decide +kernel) (by decide +kernel)) ∧
    Met (((h (guestAt 5) 320 (guest_is hf)).2.2.1 (by decide +kernel)).2.1 2 64 77 (.inl (by decide +kernel))) ∧
    Met (((h (guestAt 5) 320 (guest_is hf)).2.2.1 (by decide +kernel)).2.1 1 1025 77 (.inr (.inr (by decide +kernel)))) := ⟨trivial, trivial, trivial⟩

theorem witness_GuestPorts_4 (hf : Config.guestFitted 0 = true) (h : Obligations.GuestPorts) :
    Met (((h (guestAt 5) 320 (guest_is hf)).2.2.1 (by decide +kernel)).2.2) ∧
    Met ((h { guestAt 6 with accOut := [([320, 0], 32769)] } 320 (guest_is hf)).2.2.2.1 (by decide +kernel) (guestPkt 6 2 0x1000) 0 (by decide +kernel)) ∧
    Met (((h (guestAt 6) 320 (guest_is hf)).2.2.2.2.1 (by decide +kernel) { guestPkt 1 0 0x1000 with crc := 1 } 0 (by decide +kernel)).1 (by decide +kernel)) := ⟨trivial, trivial, trivial⟩

theorem witness_GuestPorts_5 (hf : Config.guestFitted 0 = true) (h : Obligations.GuestPorts) :
    Met (((h (guestAt 6) 320 (guest_is hf)).2.2.2.2.1 (by decide +kernel) (guestPkt 1 3 0x1000) 0 (by decide +kernel)).2.1 (by decide +kernel) (by decide +kernel)) ∧
    Met (((h (guestAt 6) 320 (guest_is hf)).2.2.2.2.1 (by decide +kernel) (guestPkt 1 0 0x1000) 0 (by decide +kernel)).2.2.1 0 0x1000 (by decide +kernel) (by decide +kernel) (ok_val _ _ (by decide +kernel)) (by decide +kernel)) ∧
    Met (((h (guestAt 5 |>.wr (F.GU_STAT_STATE.at 320) 6 |>.wr (F.BK_RT_ENTRY_VALID.at 320 0 2) 0) 320 (guest_is hf)).2.2.2.2.1 (by decide +kernel) (guestPkt 1 0 0x1000) 0 (by decide +kernel)).2.2.2.1 0 0x1000 (by decide +kernel) (by decide +kernel) (ok_val _ _ (by decide +kernel)) (by decide +kernel)) := ⟨trivial, trivial, trivial⟩

theorem witness_GuestPorts_6 (hf : Config.guestFitted 0 = true) (h : Obligations.GuestPorts) :
    Met (((h (guestAt 6) 320 (guest_is hf)).2.2.2.2.1 (by decide +kernel) (guestPkt 1 0 (2 ^ 46)) 0 (by decide +kernel)).2.2.2.2 1 (by decide +kernel) (by decide +kernel) (err_code _ _ (by decide +kernel))) ∧
    Met (((h (guestAt 7) 320 (guest_is hf)).2.2.2.2.2 (.inr (by decide +kernel))).1) ∧
    Met (((h (guestAt 6) 320 (guest_is hf)).2.2.2.2.2 (.inl (by decide +kernel))).2) := ⟨trivial, trivial, trivial⟩
/-- A packet of member 5, die 1, to die 288. -/
def gp (type psn arg : Nat) (data : List Byte) : GPkt :=
  let p : GPkt := { type := type, member := 5, die := 1, toMember := 0, toDie := 0, psn := psn, arg := arg, data := data }
  { p with crc := grCrc p }

/-- The I/O die 288 with port 0 UP, members 5 and 6 in the table, and a connection of member 5, die 1. -/
def groveAt (k : ConnSt) (l : List (Loc × Nat)) : State :=
  { up lit0 ([(F.ET_STAT_STATE.at 288 0, 2), (F.AC_RD.at 2 0 (aclIdx 1091 1), 1), (F.AC_WR.at 2 0 (aclIdx 1091 1), 1), (F.ET_CTL_PTP.at 288 0, 1), (F.GR_CC1_RETRIES.at 288, 2)] ++ l) with
    mem := [(stkAddr 0 2818, 1), (stkAddr 0 3330, 1)], conns := tset connReset [] [288, 81] { k with hw := true } }

/-- One packet that waits for its acknowledgement. -/
def sent0 (sends : Nat) : GSent := { out := { p := gp 1 3 0 [], chan := 0, ix := 4 }, sends := sends }

/-- An entry of a transfer. -/
def xent (op : Nat) (started : Bool) (flags len : Nat) : XEnt :=
  { ix := 4, op := op, flags := flags, member := 5, die := 1, rchan := 2, fmt := 0, coef := 0, laddr := 0x1000, raddr := 0x2000, len := len, started := started, left := 0, sig := 0 }

/-- Channel 0 with one entry. -/
def chanAt (e : XEnt) (l : List (Loc × Nat)) : State := (groveAt connReset l).setXchan 288 0 { xchanReset with ents := [e] }

theorem witness_GroveTransfers_1 (h : Obligations.GroveTransfers) :
    Met (h.1.1 connReset 0 (by decide +kernel) (by decide +kernel) (of_decide_eq_true (by decide +kernel))) ∧
    Met (((h.1.2 (groveAt { connReset with got := 2 } []) 288 (by decide +kernel)).1 0 true (gp 1 1 0 []) (by decide +kernel) (by decide +kernel) (of_decide_eq_true (by decide +kernel)) (by decide +kernel) (by decide +kernel) (of_decide_eq_true (by decide +kernel))).1 (.inl rfl) (.inr (by decide +kernel)) (by decide +kernel)) ∧
    Met (((h.1.2 (groveAt connReset []) 288 (by decide +kernel)).1 0 false (gp 2 0xFFFFFFFF 0 []) (by decide +kernel) (by decide +kernel) (of_decide_eq_true (by decide +kernel)) (by decide +kernel) (by decide +kernel) (of_decide_eq_true (by decide +kernel))).1 (.inr rfl) (.inl (by decide +kernel)) (by decide +kernel)) := ⟨trivial, trivial, trivial⟩

theorem witness_GroveTransfers_2 (h : Obligations.GroveTransfers) :
    Met (((h.1.2 (groveAt connReset []) 288 (by decide +kernel)).1 0 false (gp 1 0 0x1000 (List.replicate 64 4)) (by decide +kernel) (by decide +kernel) (of_decide_eq_true (by decide +kernel)) (by decide +kernel) (by decide +kernel) (of_decide_eq_true (by decide +kernel))).2.1 rfl (by decide +kernel) (by decide +kernel)) ∧
    Met (((h.1.2 (groveAt connReset []) 288 (by decide +kernel)).1 0 false (gp 1 0 0x1000 (List.replicate 64 4)) (by decide +kernel) (by decide +kernel) (of_decide_eq_true (by decide +kernel)) (by decide +kernel) (by decide +kernel) (of_decide_eq_true (by decide +kernel))).2.2.1 rfl rfl (by decide +kernel) (by decide +kernel) (of_decide_eq_true (by decide +kernel)) (by decide +kernel) (by decide +kernel) _ (did _ (by decide +kernel))) ∧
    Met (((h.1.2 (groveAt connReset []) 288 (by decide +kernel)).1 0 false (gp 2 0 3 []) (by decide +kernel) (by decide +kernel) (of_decide_eq_true (by decide +kernel)) (by decide +kernel) (by decide +kernel) (of_decide_eq_true (by decide +kernel))).2.2.2.1 rfl (by decide +kernel) (by decide +kernel) (of_decide_eq_true (by decide +kernel)) (by decide +kernel)) := ⟨trivial, trivial, trivial⟩

theorem witness_GroveTransfers_3 (h : Obligations.GroveTransfers) :
    Met ((((h.1.2 (groveAt { connReset with unack := [sent0 0] } []) 288 (by decide +kernel)).1 0 false (gp 3 0 0 []) (by decide +kernel) (by decide +kernel) (of_decide_eq_true (by decide +kernel)) (by decide +kernel) (by decide +kernel) (of_decide_eq_true (by decide +kernel))).2.2.2.2.1 rfl).1) ∧
    Met ((((h.1.2 (groveAt { connReset with unack := [sent0 0] } []) 288 (by decide +kernel)).1 0 false (gp 3 0 0 []) (by decide +kernel) (by decide +kernel) (of_decide_eq_true (by decide +kernel)) (by decide +kernel) (by decide +kernel) (of_decide_eq_true (by decide +kernel))).2.2.2.2.1 rfl).2 (by decide +kernel) (by decide +kernel)) ∧
    Met (((h.1.2 ((groveAt { connReset with unack := [sent0 0] } []).setXchan 288 0 { xchanReset with ents := [xent 1 true 0 64] }) 288 (by decide +kernel)).1 0 false (gp 4 3 0x2202 []) (by decide +kernel) (by decide +kernel) (of_decide_eq_true (by decide +kernel)) (by decide +kernel) (by decide +kernel) (of_decide_eq_true (by decide +kernel))).2.2.2.2.2 (sent0 0) (xent 1 true 0 64) rfl (by decide +kernel) (by decide +kernel) rfl (by decide +kernel) (by decide +kernel) rfl) := ⟨trivial, trivial, trivial⟩

theorem witness_GroveTransfers_4 (h : Obligations.GroveTransfers) :
    Met ((h.1.2 (groveAt connReset []) 288 (by decide +kernel)).2.1 0 false { gp 1 0 0 [] with crc := 0 } 1 (by decide +kernel) (.inl (by decide +kernel)) rfl _ (List.mem_cons_self ..) rfl) ∧
    Met ((h.1.2 (groveAt connReset []) 288 (by decide +kernel)).2.2.1 0 [1, 2, 3] (by decide +kernel)) ∧
    Met (((h.1.2 (groveAt { connReset with npkt := 2, got := 2 } []) 288 (by decide +kernel)).2.2.2.1 81).1 (by decide +kernel)) := ⟨trivial, trivial, trivial⟩

theorem witness_GroveTransfers_5 (h : Obligations.GroveTransfers) :
    Met (((h.1.2 (groveAt { connReset with unack := [sent0 1] } []) 288 (by decide +kernel)).2.2.2.1 81).2.1 (sent0 1) [] (by decide +kernel) (by decide +kernel)) ∧
    Met (((h.1.2 (groveAt { connReset with unack := [sent0 3] } []) 288 (by decide +kernel)).2.2.2.1 81).2.2.1 (sent0 3) [] (by decide +kernel) (by decide +kernel)) ∧
    Met (((h.1.2 (groveAt { connReset with rate := some (7, 2) } []) 288 (by decide +kernel)).2.2.2.1 81).2.2.2.1 (7, 2) 0 (by decide +kernel) (by decide +kernel)) := ⟨trivial, trivial, trivial⟩

theorem witness_GroveTransfers_6 (h : Obligations.GroveTransfers) :
    Met (((h.1.2 (groveAt { connReset with fetching := true } []) 288 (by decide +kernel)).2.2.2.1 81).2.2.2.2 (by decide +kernel) (by decide +kernel)) ∧
    Met ((((h.1.2 (groveAt connReset []) 288 (by decide +kernel)).2.2.2.2 1 (by decide +kernel)).1 (by decide +kernel) (by decide +kernel)).1 (by decide +kernel) (.inl (by decide +kernel))) ∧
    Met ((((h.1.2 (groveAt connReset [(F.ET_CTL_ENABLE.at 288 1, 1)]) 288 (by decide +kernel)).2.2.2.2 1 (by decide +kernel)).1 (by decide +kernel) (by decide +kernel)).2 (by decide +kernel)) := ⟨trivial, trivial, trivial⟩

theorem witness_GroveTransfers_7 (h : Obligations.GroveTransfers) :
    Met (((h.1.2 (groveAt connReset [(F.ET_STAT_STATE.at 288 1, 1)]) 288 (by decide +kernel)).2.2.2.2 1 (by decide +kernel)).2.1 (by decide +kernel)) ∧
    Met (((h.1.2 (groveAt connReset []) 288 (by decide +kernel)).2.2.2.2 0 (by decide +kernel)).2.2 (by decide +kernel) true) ∧
    Met ((h.2.1 0xFC0 0x40 8192 (by decide +kernel) (by decide +kernel) (of_decide_eq_true (by decide +kernel))).2.1 (0, 64) (by decide +kernel)) := ⟨trivial, trivial, trivial⟩

theorem witness_GroveTransfers_8 (h : Obligations.GroveTransfers) :
    Met ((h.2.1 0xFC0 0x40 8192 (by decide +kernel) (by decide +kernel) (of_decide_eq_true (by decide +kernel))).2.2 5 (by decide +kernel)) := trivial
theorem witness_GroveTransfers_channels_1 (h : Obligations.GroveTransfers) :
    Met (((h.2.2 (chanAt (xent 4 false 0 0) []) 288 0).1 _ (List.mem_cons_of_mem _ (List.mem_cons_of_mem _ (List.mem_cons_of_mem _ (List.mem_cons_self ..)))) (xent 4 false 0 0) (by decide +kernel) rfl (by decide +kernel) (by decide +kernel)).1 rfl (by decide +kernel)) ∧
    Met (((h.2.2 (chanAt (xent 1 false 0 64) [(F.XC_CFG_CTX.at 288 0 0, 1)]) 288 0).1 _ (List.mem_cons_self ..) (xent 1 false 0 64) (by decide +kernel) rfl (by decide +kernel) (by decide +kernel)).2.1 (List.replicate 64 0) _ (by decide +kernel) (by decide +kernel) (of_decide_eq_true (by decide +kernel)) (by decide +kernel) (gave _ _ (by decide +kernel))) ∧
    Met (((h.2.2 (chanAt (xent 1 false 0 64) [(F.GR_STATE_STATE.at 288, 2)]) 288 0).1 _ (List.mem_cons_self ..) (xent 1 false 0 64) (by decide +kernel) rfl (by decide +kernel) (by decide +kernel)).2.2 (by decide +kernel)) := ⟨trivial, trivial, trivial⟩

theorem witness_GroveTransfers_channels_2 (h : Obligations.GroveTransfers) :
    Met (((h.2.2 (chanAt (xent 1 true 2 64) []) 288 0).2.1 (xent 1 true 2 64) [] (by decide +kernel) (by decide +kernel) rfl rfl).1 (by decide +kernel) rfl) ∧
    Met (((h.2.2 (chanAt (xent 1 true 1 64) []) 288 0).2.1 (xent 1 true 1 64) [] (by decide +kernel) (by decide +kernel) rfl rfl).2 (by decide +kernel)) ∧
    Met (((h.2.2 (groveAt connReset []) 288 0).2.2 (by decide +kernel)).1 (by decide +kernel)) := ⟨trivial, trivial, trivial⟩

theorem witness_GroveTransfers_channels_3 (h : Obligations.GroveTransfers) :
    Met (((h.2.2 ((groveAt connReset [(F.XC_CFG_ENABLE.at 288 0 0, 1)]).setXchan 288 0 { xchanReset with waiting := true }) 288 0).2.2 (by decide +kernel)).2 (by decide +kernel) (by decide +kernel)) := trivial
/-- A control packet of member 5. -/
def gctl (kind : Nat) : GPkt := gp 5 0 0 (natLe kind 1 ++ List.replicate 19 0)

/-- The grove's manager or a member of manager 5, long after the last heartbeat. -/
def roleAt (role : Nat) : State := { groveAt connReset [(F.GR_ROLE_ROLE.at 288, role), (F.GR_ROLE_MGR.at 288, 5)] with time := 10 ^ 12 }

theorem witness_GroveSteps_1 (h : Obligations.GroveSteps) :
    Met ((h.1 (roleAt 1) 0).1 (by decide +kernel)) ∧
    Met ((h.1 (roleAt 1) 7).2 (by decide +kernel) (by decide +kernel)) ∧
    Met ((h.2.1 (roleAt 2) 288 0 false (gctl 1) 0 (by decide +kernel) (by decide +kernel) (of_decide_eq_true (by decide +kernel)) (by decide +kernel) (by decide +kernel) (of_decide_eq_true (by decide +kernel)) (by decide +kernel) (by decide +kernel) (of_decide_eq_true (by decide +kernel)) (by decide +kernel)).1 (by decide +kernel) (by decide +kernel)) := ⟨trivial, trivial, trivial⟩

theorem witness_GroveSteps_2 (h : Obligations.GroveSteps) :
    Met (((h.2.1 (roleAt 1) 288 0 false (gctl 2) 0 (by decide +kernel) (by decide +kernel) (of_decide_eq_true (by decide +kernel)) (by decide +kernel) (by decide +kernel) (of_decide_eq_true (by decide +kernel)) (by decide +kernel) (by decide +kernel) (of_decide_eq_true (by decide +kernel)) (by decide +kernel)).2.1 (by decide +kernel) (by decide +kernel)).2 (by decide +kernel)) ∧
    Met (((h.2.1 (roleAt 1) 288 0 false (gctl 3) 0 (by decide +kernel) (by decide +kernel) (of_decide_eq_true (by decide +kernel)) (by decide +kernel) (by decide +kernel) (of_decide_eq_true (by decide +kernel)) (by decide +kernel) (by decide +kernel) (of_decide_eq_true (by decide +kernel)) (by decide +kernel)).2.2.1 (by decide +kernel) (by decide +kernel)).2 (by decide +kernel)) ∧
    Met ((h.2.1 (roleAt 1) 288 0 false (gctl 4) 0 (by decide +kernel) (by decide +kernel) (of_decide_eq_true (by decide +kernel)) (by decide +kernel) (by decide +kernel) (of_decide_eq_true (by decide +kernel)) (by decide +kernel) (by decide +kernel) (of_decide_eq_true (by decide +kernel)) (by decide +kernel)).2.2.2.1 (by decide +kernel) (by decide +kernel)) := ⟨trivial, trivial, trivial⟩

theorem witness_GroveSteps_3 (h : Obligations.GroveSteps) :
    Met ((h.2.1 (roleAt 2) 288 0 false (gctl 5) 0 (by decide +kernel) (by decide +kernel) (of_decide_eq_true (by decide +kernel)) (by decide +kernel) (by decide +kernel) (of_decide_eq_true (by decide +kernel)) (by decide +kernel) (by decide +kernel) (of_decide_eq_true (by decide +kernel)) (by decide +kernel)).2.2.2.2 (by decide +kernel) (by decide +kernel)) ∧
    Met ((h.2.2.1 (roleAt 2)).1) ∧
    Met ((h.2.2.1 (roleAt 2)).2.1 5 (by decide +kernel) (by decide +kernel) (of_decide_eq_true (by decide +kernel))) := ⟨trivial, trivial, trivial⟩

theorem witness_GroveSteps_4 (h : Obligations.GroveSteps) :
    Met ((h.2.2.1 (roleAt 1)).2.2.1 (by decide +kernel) (by decide +kernel) (of_decide_eq_true (by decide +kernel))) ∧
    Met ((h.2.2.1 (roleAt 0)).2.2.2 (2 + 3 <<< 2 + 4 <<< 11) (by decide +kernel) (by decide +kernel)) ∧
    Met ((h.2.2.2 (roleAt 1) 288 0 (by decide +kernel) (by decide +kernel)).1 9) := ⟨trivial, trivial, trivial⟩

theorem witness_GroveSteps_5 (h : Obligations.GroveSteps) :
    Met ((h.2.2.2 (roleAt 1) 288 0 (by decide +kernel) (by decide +kernel)).2.1 12345) ∧
    Met ((h.2.2.2 { roleAt 1 with ptp := { (roleAt 1).ptp with asked := true } } 288 0 (by decide +kernel) (by decide +kernel)).2.2.1 12345 (by decide +kernel)) ∧
    Met ((h.2.2.2 { up (roleAt 1) [(F.RC_CTL_SRC.at 309, 1)] with ptp := { (roleAt 1).ptp with locked := true } } 288 0 (by decide +kernel) (by decide +kernel)).2.2.2 (-3000) (by decide +kernel) (by decide +kernel)) := ⟨trivial, trivial, trivial⟩
/-- Clock and time at work: the clock die with both inputs, a site's PLL lost, a step of time waiting. -/
def clkAt (l : List (Loc × Nat)) : State := { up lit0 ([(F.RC_STAT_A_OK.at 309, 1), (F.RC_STAT_B_OK.at 309, 1), (F.RC_CTL_AUTO.at 309, 1)] ++ l) with pllLost := [1], time := 10 ^ 9 }

/-- Sixteen gates just before. -/
def gatedOften : State := (clkAt []).setLad 0 { (clkAt []).lad 0 with gates := List.replicate 16 (10 ^ 9 - 5), low := 1 }

theorem witness_ClocksAndTime_1 (h : Obligations.ClocksAndTime) :
    Met (h.1 (clkAt []) 5 0 (by decide +kernel) (by decide +kernel) (of_decide_eq_true (by decide +kernel))) ∧
    Met (((h.2 (clkAt [])).1 0 (by decide +kernel)).1 (by decide +kernel) (by decide +kernel)) ∧
    Met (((h.2 (clkAt [(F.RC_STAT_A_OK.at 309, 0), (F.RC_STAT_ACTIVE.at 309, 2)])).1 0 (by decide +kernel)).2 (by decide +kernel)) := ⟨trivial, trivial, trivial⟩

theorem witness_ClocksAndTime_2 (h : Obligations.ClocksAndTime) :
    Met ((h.2 (clkAt [])).2.1 7 (by decide +kernel)) ∧
    Met ((h.2 (clkAt [])).2.2.1 288 12 0 (by decide +kernel) (by decide +kernel) (of_decide_eq_true (by decide +kernel)) (by decide +kernel) (by decide +kernel)) ∧
    Met ((h.2 (clkAt [])).2.2.2.1 0 (by decide +kernel)) := ⟨trivial, trivial, trivial⟩

theorem witness_ClocksAndTime_3 (h : Obligations.ClocksAndTime) :
    Met ((h.2 (clkAt [(F.CK_STAT_LOCK.at 1, 0)])).2.2.2.2.1 1 (by decide +kernel)) ∧
    Met ((h.2 (clkAt [(F.CK_STAT_LOCK.at 1, 0)])).2.2.2.2.2.1 1 (by decide +kernel)) ∧
    Met ((h.2 gatedOften).2.2.2.2.2.2.1 c0 (by decide +kernel)) := ⟨trivial, trivial, trivial⟩

theorem witness_ClocksAndTime_4 (h : Obligations.ClocksAndTime) :
    Met ((h.2 (clkAt [])).2.2.2.2.2.2.2.1 c0) ∧
    Met ((h.2 gatedOften).2.2.2.2.2.2.2.2.1 0 (by decide +kernel)) ∧
    Met (((h.2 (clkAt [(F.CK_STAT_STEP.at 0, 5), (F.CK_CEIL_MON.at 0, 3)])).2.2.2.2.2.2.2.2.2.1 0 (by decide +kernel) (by decide +kernel)).2.1 (by decide +kernel) (.inl (by decide +kernel))) := ⟨trivial, trivial, trivial⟩

theorem witness_ClocksAndTime_5 (h : Obligations.ClocksAndTime) :
    Met (((h.2 (clkAt [(F.CK_STAT_STEP.at 0, 0), (F.CK_CEIL_MON.at 0, 3), (F.CK_CEIL_POWER.at 0, 3)])).2.2.2.2.2.2.2.2.2.1 0 (by decide +kernel) (by decide +kernel)).2.2 (by decide +kernel) (by decide +kernel) (.inr (by decide +kernel))) ∧
    Met ((h.2 (clkAt [(F.CK_STAT_CHANGING.at 0, 1)])).2.2.2.2.2.2.2.2.2.2.1 0 (by decide +kernel)) ∧
    Met (((h.2 (clkAt [(F.CK_STAT_STEP.at 0, 0), (F.CK_CEIL_MON.at 0, 3)])).2.2.2.2.2.2.2.2.2.2.2.1 0).2 (by decide +kernel) (by decide +kernel)) := ⟨trivial, trivial, trivial⟩

theorem witness_ClocksAndTime_6 (h : Obligations.ClocksAndTime) :
    Met ((h.2 (clkAt [])).2.2.2.2.2.2.2.2.2.2.2.2.1 99) ∧
    Met ((h.2 (clkAt [])).2.2.2.2.2.2.2.2.2.2.2.2.2.1 true 100 (by decide +kernel)) ∧
    Met (((h.2 (clkAt [(F.RC_STEP.at 309, 2 ^ 63)])).2.2.2.2.2.2.2.2.2.2.2.2.2.2.1 (by decide +kernel)).1 (.inr (by decide +kernel))) := ⟨trivial, trivial, trivial⟩

theorem witness_ClocksAndTime_7 (h : Obligations.ClocksAndTime) :
    Met (((h.2 (clkAt [(F.RC_STEP.at 309, 2 ^ 63), (F.PT_CFG_VALID.at stw 0 2, 1)])).2.2.2.2.2.2.2.2.2.2.2.2.2.2.1 (by decide +kernel)).2 2 (by decide +kernel) (by decide +kernel) (of_decide_eq_true (by decide +kernel))) ∧
    Met ((h.2 (clkAt [])).2.2.2.2.2.2.2.2.2.2.2.2.2.2.2.1 (by decide +kernel)) ∧
    Met ((h.2 (clkAt [(F.RC_CTL_SRC.at 309, 2)])).2.2.2.2.2.2.2.2.2.2.2.2.2.2.2.2 (by decide +kernel)) := ⟨trivial, trivial, trivial⟩
/-- An epoch in a given state, site 0 its only site; the steward's time is 10⁹. -/
def epAt (l : List (Loc × Nat)) : State := { clkAt l with ep := { (clkAt l).ep with sites := [0], wait := [0] }, bank := [] }

/-- Two edges that lead to each other stay. -/
theorem peel_keeps (a b : Nat) : ∀ k (l : List (Nat × Nat)), (a, b) ∈ l → (b, a) ∈ l → (a, b) ∈ peel l k
  | 0, _, h, _ => h
  | k + 1, l, h, g => by
    have i : (a, b) ∈ l.filter (fun e => (l.map (fun e => e.1)).contains e.2) := by
      simp only [List.mem_filter, List.contains_iff_mem, List.mem_map]; exact ⟨h, _, g, rfl⟩
    have j : (b, a) ∈ l.filter (fun e => (l.map (fun e => e.1)).contains e.2) := by
      simp only [List.mem_filter, List.contains_iff_mem, List.mem_map]; exact ⟨g, _, h, rfl⟩
    unfold peel; dsimp only; split
    · exact i
    · exact peel_keeps a b k _ i j

/-- Two links that wait for each other are a cycle. -/
theorem looped (a b : Nat) (l : List (Nat × Nat)) (h : (a, b) ∈ l) (g : (b, a) ∈ l) : acyclic l = false := by
  have m := peel_keeps a b 865 l.eraseDups (by simpa using h) (by simpa using g)
  unfold acyclic; cases e : peel l.eraseDups 865 with
  | nil => rw [e] at m; cases m
  | cons _ _ => rfl

/-- A pending table that sends a packet for site 5 back and forth between dies 0 and 2 on lane 1. -/
def loopAt : State := { bare [(F.PG_STAT_READY.at stw 0x24, 1), (F.EP_MASK_MASK.at stw, 10), (F.BK_RT_ENTRY_VALID.at 0 0 517, 1), (F.BK_RT_ENTRY_PORT.at 0 0 517, 0), (F.BK_RT_ENTRY_DETOUR.at 0 0 517, 1),
   (F.BK_RT_ENTRY_VALID.at 2 0 517, 1), (F.BK_RT_ENTRY_PORT.at 2 0 517, 1), (F.BK_RT_ENTRY_DETOUR.at 2 0 517, 1),
   (F.SN_RT_ENTRY_VALID.at 0 0 517, 1), (F.SN_RT_ENTRY_PORT.at 0 0 517, 0), (F.SN_RT_ENTRY_DETOUR.at 0 0 517, 1),
   (F.SN_RT_ENTRY_VALID.at 2 0 517, 1), (F.SN_RT_ENTRY_PORT.at 2 0 517, 1), (F.SN_RT_ENTRY_DETOUR.at 2 0 517, 1)] with bank := [], offSites := [] }
theorem loop_pend (f : Nat → Nat → Option (Nat × Nat)) (k : f 0 5 = some (0, 1)) (e : Nat × Nat) (h : e ∈ laneOne f 5 64 0 false none) : e ∈ laneGraph f := by
  refine List.mem_flatMap.2 ⟨5, by decide +kernel, List.mem_flatMap.2 ⟨0, by decide +kernel, ?_⟩⟩
  rw [k]; exact h

theorem loop_routes : loopAt.routesFit 10 = false := by
  have e : together loopAt.activeEntry loopAt.pendingEntry = false := looped 0 9 _ (List.mem_append_right _ (loop_pend _ (by decide +kernel) _ (by decide +kernel))) (List.mem_append_right _ (loop_pend _ (by decide +kernel) _ (by decide +kernel)))
  rw [State.routesFit, e]; rfl

theorem loop_graph : acyclic (laneGraph loopAt.pendingEntry) = false ∧ acyclic (laneGraph loopAt.pendingSync) = false :=
  ⟨looped 0 9 _ (loop_pend _ (by decide +kernel) _ (by decide +kernel)) (loop_pend _ (by decide +kernel) _ (by decide +kernel)), looped 0 9 _ (loop_pend _ (by decide +kernel) _ (by decide +kernel)) (loop_pend _ (by decide +kernel) _ (by decide +kernel))⟩

theorem loop_bad : loopAt.routesBad 10 = true := by
  rw [State.routesBad, loop_graph.1]; rfl

/-- A pending set that names stack 9, which is not in service. -/
def badSet : State := clkAt [(F.EP_MASK_MASK.at stw, 1), (F.AM_SET_VALID.at 0 0 64, 1), (F.AM_SET_N.at 0 0 64, 1), (F.AM_LIST_P.at 0 0 4096, 9)]

theorem witness_Epochs_1 (h : Obligations.Epochs) :
    Met (h.1 (epAt [(F.CK_EP_CTL_MASK.at 0, 3)]) 0 1 (fun _ _ => Nat.zero_le 1)) ∧
    Met ((h.1 (epAt [(F.CK_EP_CTL_MASK.at 0, 3)]) 0 1 (fun _ _ => Nat.zero_le 1)).2.1 4 (by decide +kernel)) ∧
    Met (((h.2 (clkAt [(F.EP_MASK_MASK.at stw, 2)])).1 (by decide +kernel)).1) := ⟨trivial, trivial, trivial⟩

theorem witness_Epochs_2 (h : Obligations.Epochs) :
    Met (((h.2 (clkAt [(F.EP_MASK_MASK.at stw, 16)])).1 (by decide +kernel)).2.2.2.2.2.1 (by decide +kernel) (by decide +kernel) (of_decide_eq_true (by decide +kernel)) 0 [1, 4, 5] (by decide +kernel) (by decide +kernel)) ∧
    Met (((h.2 badSet).1 (by decide +kernel)).2.1 38 (by decide +kernel) (by decide +kernel)) ∧
    Met (((h.2 loopAt).1 (by decide +kernel)).2.2.1 (by decide +kernel) (by decide +kernel) loop_routes loop_bad) := ⟨trivial, trivial, trivial⟩

theorem witness_Epochs_3 (h : Obligations.Epochs) :
    Met (((h.2 loopAt).1 (by decide +kernel)).2.2.2.1 (by decide +kernel) loop_graph.1) ∧
    Met (((h.2 loopAt).1 (by decide +kernel)).2.2.2.2.1 (by decide +kernel) loop_graph.2) ∧
    Met (((h.2 (epAt [(F.EP_STAT_STATE.at stw, 1), (F.EP_T.at stw, 2 * 10 ^ 9)])).1 (by decide +kernel)).2.2.2.2.2.2 (.inl (by decide +kernel)) (by decide +kernel) |>.2.1 (by decide +kernel)) := ⟨trivial, trivial, trivial⟩

theorem witness_Epochs_4 (h : Obligations.Epochs) :
    Met (((h.2 (epAt [(F.EP_STAT_STATE.at stw, 1), (F.CK_EP_T.at 0, 2 * 10 ^ 9)])).2.1 0 (by decide +kernel)).1 3 |>.1 (by decide +kernel)) ∧
    Met (((h.2 (epAt [(F.EP_STAT_STATE.at stw, 1), (F.CK_EP_T.at 0, 5)])).2.1 0 (by decide +kernel)).1 3 |>.2 (by decide +kernel)) ∧
    Met (((h.2 (epAt [(F.EP_STAT_STATE.at stw, 1), (F.CK_EP_STAT_STATE.at 0, 1)])).2.1 0 (by decide +kernel)).2.1 (by decide +kernel) (by decide +kernel)) := ⟨trivial, trivial, trivial⟩

theorem witness_Epochs_5 (h : Obligations.Epochs) :
    Met (((h.2 (epAt [(F.CK_EP_STAT_STATE.at 0, 3)])).2.1 0 (by decide +kernel)).2.2.1 (by decide +kernel)) ∧
    Met (((h.2 (epAt [(F.CK_EP_STAT_STATE.at 0, 2)])).2.1 0 (by decide +kernel)).2.2.2 (by decide +kernel)) ∧
    Met (((h.2 (epAt [(F.EP_STAT_STATE.at stw, 2), (F.CK_EP_STAT_STATE.at 0, 1)])).2.2.1 0 (by decide +kernel)).1 (by decide +kernel) |>.2 (by decide +kernel) (by decide +kernel)) := ⟨trivial, trivial, trivial⟩

theorem witness_Epochs_6 (h : Obligations.Epochs) :
    Met (((h.2 (epAt [(F.EP_STAT_STATE.at stw, 4), (F.CK_EP_STAT_STATE.at 0, 5)])).2.2.1 0 (by decide +kernel)).2 (by decide +kernel)) ∧
    Met ((h.2 (epAt [(F.CK_EP_T.at 0, 2 * 10 ^ 9)])).2.2.2.1 0 (by decide +kernel)) ∧
    Met ((h.2 (epAt [(F.EP_STAT_STATE.at stw, 2), (F.EP_T.at stw, 5)])).2.2.2.2.1 (by decide +kernel) (by decide +kernel) (of_decide_eq_true (by decide +kernel))) := ⟨trivial, trivial, trivial⟩

theorem witness_Epochs_7 (h : Obligations.Epochs) :
    Met ((h.2 (epAt [(F.EP_STAT_STATE.at stw, 4)])).2.2.2.2.2.1 (by decide +kernel) (by decide +kernel)) ∧
    Met ((h.2 (epAt [(F.EP_STAT_STATE.at stw, 2), (F.EP_T.at stw, 10 ^ 9)])).2.2.2.2.2.2 (by decide +kernel) (by decide +kernel) (of_decide_eq_true (by decide +kernel))) := ⟨trivial, trivial⟩
/-- Core 0 as changed. -/
def pwrAt (l : List (Loc × Nat)) (f : CoreSt → CoreSt) : State := (clkAt l).onCore c0 f

/-- Core 0 with a token, at a stage of its power-up. -/
def turningOn (n : Nat) : State := pwrAt [] (fun k => { k with token := true, stage := n })

/-- A ramp notice of core 0. -/
def rampOf (applied : Bool) : State := { clkAt [] with ramps := [{ site := 0, slot := 0, due := 5, down := false, applied := applied, level := 1 }] }

/-- A core that waits for a token on a die with an admission limit. -/
def admitting (n : Nat) : State := { clkAt [(F.PW_ADM_LIMIT.at 0, n)] with admq := [c0] }

theorem witness_PowerDelivery_1 (h : Obligations.PowerDelivery) :
    Met (h.1 (clkAt []) (by decide +kernel) (by decide +kernel)) ∧
    Met (((h.2 (turningOn 2)).1 c0).1 (by decide +kernel) (by decide +kernel)) ∧
    Met (((h.2 (turningOn 4)).1 c0).2.1 (by decide +kernel) (by decide +kernel) (of_decide_eq_true (by decide +kernel)) (by decide +kernel)) := ⟨trivial, trivial, trivial⟩

theorem witness_PowerDelivery_2 (h : Obligations.PowerDelivery) :
    Met (((h.2 (clkAt [(F.CORE_STATE_STATE.core c0, 1)])).1 c0).2.2.1 (by decide +kernel) (by decide +kernel) (of_decide_eq_true (by decide +kernel))) ∧
    Met (((h.2 (clkAt [(F.CORE_STATE_STATE.core c0, 1)])).1 c0).2.2.2.1 (by decide +kernel)) ∧
    Met (((h.2 (rampOf false)).1 c0).2.2.2.2.1 { site := 0, slot := 0, due := 5, down := false, applied := false, level := 1 } (by decide +kernel) (by decide +kernel) (of_decide_eq_true (by decide +kernel))) := ⟨trivial, trivial, trivial⟩

theorem witness_PowerDelivery_3 (h : Obligations.PowerDelivery) :
    Met (((h.2 (rampOf true)).1 c0).2.2.2.2.2 { site := 0, slot := 0, due := 5, down := false, applied := true, level := 1 } (by decide +kernel)) ∧
    Met (((h.2 (admitting 50)).2.1 0 0 c0 (by decide +kernel) (by decide +kernel)).1 (by decide +kernel) (by decide +kernel)) ∧
    Met (((h.2 (admitting 0)).2.1 0 1 c0 (by decide +kernel) (by decide +kernel)).2.1 (.inr (by decide +kernel))) := ⟨trivial, trivial, trivial⟩

theorem witness_PowerDelivery_4 (h : Obligations.PowerDelivery) :
    Met (((h.2 (clkAt [(F.PW_CAP_WATTS.at 0, 40)])).2.2.1 0 41 (by decide +kernel) (by decide +kernel) (of_decide_eq_true (by decide +kernel))).1 (by decide +kernel)) ∧
    Met (((h.2 (clkAt [(F.PW_CAP_WATTS.at 2, 40)])).2.2.1 2 41 (by decide +kernel) (by decide +kernel) (of_decide_eq_true (by decide +kernel))).2 (by decide +kernel) (by decide +kernel)) ∧
    Met (((h.2 (clkAt [])).2.2.2.1 [6000, 7500]).2.1 (by decide +kernel) (by decide +kernel)) := ⟨trivial, trivial, trivial⟩

theorem witness_PowerDelivery_5 (h : Obligations.PowerDelivery) :
    Met (((h.2 { clkAt [] with ppOver := 2 }).2.2.2.1 [9000, 9000]).2.2 (by decide +kernel) (by decide +kernel) (of_decide_eq_true (by decide +kernel))) ∧
    Met (((h.2 (clkAt [])).2.2.2.2.1 4000 (by decide +kernel)).1 (by decide +kernel) (by decide +kernel)) ∧
    Met (((h.2 (clkAt [])).2.2.2.2.1 3999 (by decide +kernel)).2 (by decide +kernel)) := ⟨trivial, trivial, trivial⟩

theorem witness_PowerDelivery_6 (h : Obligations.PowerDelivery) :
    Met (((h.2 (clkAt [(F.PT_CFG_VALID.at stw 0 0, 1), (F.PP_CEIL_WATTS.at stw, 0), (F.PP_EFF_WATTS.at stw, 0)])).2.2.2.2.2.1 (by decide +kernel)).1 (by decide +kernel) (by decide +kernel)) ∧
    Met (((h.2 (clkAt [(F.PT_CFG_VALID.at stw 0 0, 1)])).2.2.2.2.2.1 (by decide +kernel)).2 (by decide +kernel) (by decide +kernel)) ∧
    Met (((h.2 (clkAt [])).2.2.2.2.2.2.1 0 1 5 (by decide +kernel) (by decide +kernel) (of_decide_eq_true (by decide +kernel))).1 (by decide +kernel) (by decide +kernel)) := ⟨trivial, trivial, trivial⟩

theorem witness_PowerDelivery_7 (h : Obligations.PowerDelivery) :
    Met (((h.2 (clkAt [(F.RG_FAILED_MASK.at 3 0 1, 2)])).2.2.2.2.2.2.1 0 1 5 (by decide +kernel) (by decide +kernel) (of_decide_eq_true (by decide +kernel))).2.1 (by decide +kernel) (by decide +kernel) (of_decide_eq_true (by decide +kernel))) ∧
    Met (((h.2 (clkAt [])).2.2.2.2.2.2.1 0 4 5 (by decide +kernel) (by decide +kernel) (of_decide_eq_true (by decide +kernel))).2.2 (by decide +kernel)) ∧
    Met ((h.2 (clkAt [])).2.2.2.2.2.2.2.1 71 (by decide +kernel) (by decide +kernel)) := ⟨trivial, trivial, trivial⟩

theorem witness_PowerDelivery_8 (h : Obligations.PowerDelivery) :
    Met ((h.2 (clkAt [])).2.2.2.2.2.2.2.2.1 0 3 (by decide +kernel) (by decide +kernel)) ∧
    Met ((h.2 (clkAt [])).2.2.2.2.2.2.2.2.2 3 (by decide +kernel)) := ⟨trivial, trivial⟩
/-- The tray's sensors and the flow as changed, 4 s after time 0. -/
def trayAt (l : List (Loc × Nat)) (f : TraySt → TraySt) : State := { clkAt l with tray := f (clkAt []).tray, time := 4 * 10 ^ 9 }

theorem witness_Cooling_1 (h : Obligations.Cooling) :
    Met ((h (clkAt [])).1 0 [0, 0, 0, 0, 0, 0, 0, 0] (by decide +kernel) (by decide +kernel) (of_decide_eq_true (by decide +kernel)) (by decide +kernel) |>.2.2.1 (by decide +kernel) (by decide +kernel)) ∧
    Met ((h (clkAt [])).1 0 [100, 13440, 0xFFFF, 13440, 0, 0, 0, 0] (by decide +kernel) (by decide +kernel) (of_decide_eq_true (by decide +kernel)) (by decide +kernel) |>.2.2.1 (by decide +kernel) (by decide +kernel)) ∧
    Met ((h (clkAt [])).1 0 [16000, 0, 0, 0, 0, 0, 0, 0] (by decide +kernel) (by decide +kernel) (of_decide_eq_true (by decide +kernel)) (by decide +kernel) |>.2.1 (by decide +kernel)) := ⟨trivial, trivial, trivial⟩

theorem witness_Cooling_2 (h : Obligations.Cooling) :
    Met ((h (clkAt [])).1 306 [12800] (by decide +kernel) (by decide +kernel) (of_decide_eq_true (by decide +kernel)) (by decide +kernel) |>.2.2.2 (by decide +kernel) (by decide +kernel) (of_decide_eq_true (by decide +kernel))) ∧
    Met ((h (clkAt [])).2.1 0 40 (by decide +kernel) (by decide +kernel) (of_decide_eq_true (by decide +kernel)) |>.1 (by decide +kernel)) ∧
    Met ((h (clkAt [(F.TH_STAT_SHED.at 2, 1)])).2.1 2 40 (by decide +kernel) (by decide +kernel) (of_decide_eq_true (by decide +kernel)) |>.2 (by decide +kernel)) := ⟨trivial, trivial, trivial⟩

theorem witness_Cooling_3 (h : Obligations.Cooling) :
    Met ((h (clkAt [])).2.2.1 2 (by decide +kernel) (by decide +kernel) (of_decide_eq_true (by decide +kernel)) |>.1) ∧
    Met ((h (clkAt [(F.TH_STAT_SHED.at 0, 1)])).2.2.1 0 (by decide +kernel) (by decide +kernel) (of_decide_eq_true (by decide +kernel)) |>.2 (by decide +kernel)) ∧
    Met ((h (trayAt [] (fun k => { k with fails := [0, 0, 0] }))).2.2.2.1 2560 3000 1999 (by decide +kernel) (by decide +kernel) (of_decide_eq_true (by decide +kernel)) (by decide +kernel)) := ⟨trivial, trivial, trivial⟩

theorem witness_Cooling_4 (h : Obligations.Cooling) :
    Met ((h (trayAt [(F.TP_CFG_SRC.at stw, 0)] (fun k => { k with fails := [0, 0, 0], under := 1 }))).2.2.2.1 2560 3000 399 (by decide +kernel) (by decide +kernel) (of_decide_eq_true (by decide +kernel)) (by decide +kernel)) ∧
    Met ((h (trayAt [(F.TP_CFG_SRC.at stw, 2)] (fun k => { k with fails := [0, 0, 0] }))).2.2.2.1 2560 3000 1200 (by decide +kernel) (by decide +kernel) (of_decide_eq_true (by decide +kernel)) (by decide +kernel)) ∧
    Met ((h (trayAt [] (fun k => { k with fails := [2, 0, 0] }))).2.2.2.2.1 (by decide +kernel)) := ⟨trivial, trivial, trivial⟩

theorem witness_Cooling_5 (h : Obligations.Cooling) :
    Met ((h (trayAt [(F.TP_STAT_FLOW.at stw, 3)] (fun k => { k with lossAt := 1 }))).2.2.2.2.2.1 (by decide +kernel) (by decide +kernel)) ∧
    Met ((h (trayAt [(F.TP_STAT_FLOW.at stw, 4)] (fun k => { k with lossAt := 1 }))).2.2.2.2.2.2 (by decide +kernel) (by decide +kernel)) := ⟨trivial, trivial⟩
/-- The pins as changed. -/
def pinAt (f : PinSt → PinSt) : State := lit0.onPins f

theorem witness_Pins_1 (h : Obligations.Pins) :
    Met (h.1 288 (by decide +kernel) (by decide +kernel)) ∧
    Met (h.1 317 (by decide +kernel) (by decide +kernel)) ∧
    Met (h.2.1 304 (by decide +kernel) (by decide +kernel)) := ⟨trivial, trivial, trivial⟩

theorem witness_Pins_2 (h : Obligations.Pins) :
    Met ((h.2.2 (pinAt (fun k => { k with pwrEn := false, lock := 1 }))).1 99999 true (by decide +kernel)) ∧
    Met ((h.2.2 (pinAt (fun k => { k with pwrEn := true, pwrGood := false, lock := 0 }))).2.1 (by decide +kernel) (by decide +kernel) (of_decide_eq_true (by decide +kernel))) ∧
    Met ((h.2.2 (pinAt (fun k => { k with pwrEn := true, pwrGood := true }))).2.2.1 (by decide +kernel)) := ⟨trivial, trivial, trivial⟩

theorem witness_Pins_3 (h : Obligations.Pins) :
    Met ((h.2.2 (pinAt (fun k => { k with rstN := false, refs := 1 }))).2.2.2.1 (by decide +kernel)) ∧
    Met ((h.2.2 (pinAt (fun k => { k with rstN := true, pwrGood := true }))).2.2.2.2.1 (by decide +kernel) (by decide +kernel)) ∧
    Met ((h.2.2 (pinAt (fun k => { k with rstN := true, pwrGood := false }))).2.2.2.2.2.1 (by decide +kernel) (by decide +kernel)) := ⟨trivial, trivial, trivial⟩

theorem witness_Pins_4 (h : Obligations.Pins) :
    Met (((h.2.2 (pinAt (fun k => { k with pwrGood := true }))).2.2.2.2.2.2.1 .inputUndervoltage (by decide +kernel)).1 (by decide +kernel)) ∧
    Met (((h.2.2 (pinAt (fun k => { k with pwrGood := true }))).2.2.2.2.2.2.1 .inputOvervoltage (by decide +kernel)).1 (by decide +kernel)) ∧
    Met (((h.2.2 (pinAt (fun k => { k with pwrGood := false }))).2.2.2.2.2.2.1 .inputOvervoltage (by decide +kernel)).2 (by decide +kernel)) := ⟨trivial, trivial, trivial⟩

theorem witness_Pins_5 (h : Obligations.Pins) :
    Met ((h.2.2 lit0).2.2.2.2.2.2.2.1 true) ∧
    Met ((h.2.2 (pinAt (fun k => { k with trstN := true, pwrGood := true }))).2.2.2.2.2.2.2.2.1 304 (by decide +kernel)) ∧
    Met ((h.2.2 (pinAt (fun k => { k with trstN := false }))).2.2.2.2.2.2.2.2.2.1 304 (by decide +kernel) (.bypass 304) (by decide +kernel)) := ⟨trivial, trivial, trivial⟩

theorem witness_Pins_6 (h : Obligations.Pins) :
    Met ((h.2.2 { lit0 with uart := [[0x1F#8, 0xA0#8], [1#8]] }).2.2.2.2.2.2.2.2.2.2.1 [0x1F#8, 0xA0#8] [[1#8]] (by decide +kernel)) ∧
    Met ((h.2.2 { lit0 with uart := [] }).2.2.2.2.2.2.2.2.2.2.2 (by decide +kernel)) := ⟨trivial, trivial⟩
/-- Partition 2's replay with context 1 on core 0, its replay at a stage. -/
def rpAt (core stage : Nat) (input : Bool) (l : List (Loc × Nat)) : State :=
  { workAt 2 1 core entry1 active0 ([(F.RP_SEL_PART.at stw, 2)] ++ l) with
    drains := [{ kind := .replay 2, cores := [c0], start := 0 }], rp := [([2], { stage := stage, acts := [], need := [], input := input })] }

/-- The bytes that a resident repair reads. -/
def repairRead (s : State) : Except Nat (List Byte) × State := s.panelRead (s.saveAsker ⟨s.rd (F.LR_DST_SITE.at stw), s.rd (F.LR_DST_SLOT.at stw)⟩ 1) (s.rd (F.LR_SRC.at stw) <<< 6) (s.rd (F.LR_LEN_LEN.at stw))

/-- A resident repair of 64 bytes. -/
def repairAt (len go : Nat) : State := rpAt 5 0 false [(F.RP_STAT_STATE.at stw 0 2, 2), (F.LR_LEN_LEN.at stw, len), (F.LR_CMD_GO.at stw, go)]

/-- Each sector that is read is mapped. -/
theorem all_mapped (s : State) (site : Nat) (l : List (Nat × Nat)) (h : l.all (fun e => match s.xlate site e.1 with | .ok _ => true | .error _ => false) = true) :
    ∀ e ∈ l, ∃ a, s.xlate site e.1 = .ok a := by
  intro e he
  have t := List.all_eq_true.1 h e he
  generalize s.xlate site e.1 = x at t ⊢
  cases x with
  | ok a => exact ⟨a, rfl⟩
  | error _ => simp at t

theorem witness_Replays_1 (h : Obligations.Replays) :
    Met (((h (rpAt 3 1 false [(F.GR_GROVE_BOUND.at 288 0 0, 1), (F.GR_GROVE_PART.at 288 0 0, 2), (F.GR_ROLE_ROLE.at 288, 1)])).1 2 { kind := .replay 2, cores := [c0], start := 0 } c0 (by decide +kernel) (by decide +kernel) (of_decide_eq_true (by decide +kernel)) (by decide +kernel) (by decide +kernel) (of_decide_eq_true (by decide +kernel))).1 (by decide +kernel) (by decide +kernel) (of_decide_eq_true (by decide +kernel))) ∧
    Met (((h (rpAt 3 0 true [])).1 2 { kind := .replay 2, cores := [c0], start := 0 } c0 (by decide +kernel) (by decide +kernel) (of_decide_eq_true (by decide +kernel)) (by decide +kernel) (by decide +kernel) (of_decide_eq_true (by decide +kernel))).2 (by decide +kernel) (by decide +kernel) (of_decide_eq_true (by decide +kernel)) (by decide +kernel)) ∧
    Met (((h (rpAt 3 0 true [])).1 2 { kind := .replay 2, cores := [c0], start := 0 } c0 (by decide +kernel) (by decide +kernel) (of_decide_eq_true (by decide +kernel)) (by decide +kernel) (by decide +kernel) (of_decide_eq_true (by decide +kernel))).2 (by decide +kernel) (by decide +kernel) (of_decide_eq_true (by decide +kernel)) (by decide +kernel) |>.2.2.2.2.2 (by decide +kernel)) := ⟨trivial, trivial, trivial⟩

theorem witness_Replays_2 (h : Obligations.Replays) :
    Met (((h (rpAt 3 0 true [(F.SY_OWNER_VALID.at 0 0 7, 1)])).1 2 { kind := .replay 2, cores := [c0], start := 0 } c0 (by decide +kernel) (by decide +kernel) (of_decide_eq_true (by decide +kernel)) (by decide +kernel) (by decide +kernel) (of_decide_eq_true (by decide +kernel))).2 (by decide +kernel) (by decide +kernel) (of_decide_eq_true (by decide +kernel)) (by decide +kernel) |>.2.2.2.1 0 (by decide +kernel) 7 (by decide +kernel) (by decide +kernel)) ∧
    Met (((h (rpAt 3 0 true [(F.DIEMEM_REGION_RES_LOST.at 0 0 0, 1)])).1 2 { kind := .replay 2, cores := [c0], start := 0 } c0 (by decide +kernel) (by decide +kernel) (of_decide_eq_true (by decide +kernel)) (by decide +kernel) (by decide +kernel) (of_decide_eq_true (by decide +kernel))).2 (by decide +kernel) (by decide +kernel) (of_decide_eq_true (by decide +kernel)) (by decide +kernel) |>.2.2.2.2.1 (by decide +kernel)) ∧
    Met ((h (rpAt 5 3 false [])).2.1 2 (by decide +kernel) (by decide +kernel) (of_decide_eq_true (by decide +kernel)) (by decide +kernel) (by decide +kernel)) := ⟨trivial, trivial, trivial⟩

theorem witness_Replays_3 (h : Obligations.Replays) :
    Met (((h (rpAt 5 3 false [])).2.2.1 1 0 c0 (by decide +kernel)).2.2 (by decide +kernel) (by decide +kernel)) ∧
    Met (((h (rpAt 5 3 false [])).2.2.1 1 5 c0 (by decide +kernel)).2.1 (by decide +kernel)) ∧
    Met (((h (rpAt 5 0 false [])).2.2.2.1 (by decide +kernel)).1 (.inl (by decide +kernel))) := ⟨trivial, trivial, trivial⟩

theorem witness_Replays_4 (h : Obligations.Replays) :
    Met (((h (rpAt 5 0 false [(F.RP_STAT_STATE.at stw 0 2, 2), (F.RP_STAT_HOLD_RES.at stw 0 2, 1)])).2.2.2.1 (by decide +kernel)).2.1 (by decide +kernel) (by decide +kernel) (of_decide_eq_true (by decide +kernel))) ∧
    Met (((h (rpAt 5 0 false [])).2.2.2.1 (by decide +kernel)).2.2.1 (by decide +kernel)) ∧
    Met (((h (rpAt 5 0 false [(F.RP_STAT_STATE.at stw 0 2, 3)])).2.2.2.1 (by decide +kernel)).2.2.2 (by decide +kernel)) := ⟨trivial, trivial, trivial⟩

theorem witness_Replays_5 (h : Obligations.Replays) :
    Met (((h (repairAt 32 0)).2.2.2.2.1).1 (by decide +kernel) (by decide +kernel) |>.1 (.inr (.inr (.inl (by decide +kernel))))) ∧
    Met (((h (repairAt 64 0)).2.2.2.2.1).1 (by decide +kernel) (by decide +kernel) |>.2 2 (by decide +kernel) (by decide +kernel) (of_decide_eq_true (by decide +kernel)) (.inl (by decide +kernel)) (by decide +kernel) (by decide +kernel) (of_decide_eq_true (by decide +kernel)) (by decide +kernel) (all_mapped _ _ _ (by decide +kernel))) ∧
    Met (((h (repairAt 64 1)).2.2.2.2.1).2 (by decide +kernel) (match (repairRead (repairAt 64 1)).1 with | .ok b => b | .error _ => []) (repairRead (repairAt 64 1)).2 (gave (repairRead (repairAt 64 1)) _ (by decide +kernel))) := ⟨trivial, trivial, trivial⟩

theorem witness_Replays_6 (h : Obligations.Replays) :
    Met ((h (up lit0 [((HUnit.site 0).score, 130), ((HUnit.core c0).score, 1)])).2.2.2.2.2 (by decide +kernel)) := trivial
/-- A map in which the sites of plot 8 and the stack of plot 9 stand by and every other is in service. -/
def mapOf : Tab Nat := (List.range 288).map (fun n => ([siteEntry n], if [32, 33, 34, 35, 38].contains n then 3 else 2))

/-- A graft of plot 0 into plot 8, or none, in a state. -/
def gfAt (st : Nat) (l : List (Loc × Nat)) : State :=
  { up lit0 ([(F.GF_STAT_STATE.at stw, st), (F.GF_STAT_SRC.at stw, 0), (F.GF_STAT_DEST.at stw, 8), (F.SITE_STATE_STATE.at 32, 4), (F.SITE_STATE_STATE.at 33, 4), (F.SITE_STATE_STATE.at 34, 4), (F.SITE_STATE_STATE.at 35, 4)] ++ l) with
    omap := mapOf, gf := { lit0.gf with stage := 0, former := [(0, 1), (32, 2)] } }

/-- The same after one attempt that failed. -/
def gfTried (st : Nat) : State := { gfAt st [(F.GF_CFG_AUTO.at stw, 0)] with gf := { lit0.gf with tried := true } }

/-- The same while plot 8 soaks, core 0 of die 32 the one core of it that is not retired. -/
def gfSoak : State := { gfAt 3 [(F.GF_CFG_AUTO.at stw, 0), (F.SITE_HUSKCORES_HUSK.at 32, 0x3FFFE), (F.SITE_HUSKCORES_HUSK.at 33, 0x3FFFF)] with gf := { lit0.gf with tried := true } }

/-- A digest. -/
def dg (count : Nat) : DigestW := { count := count, sum := 0, sumsq := 0, maxabs := 0, nonfin := 0 }

theorem witness_Grafting_1 (h : Obligations.Grafting) :
    Met (((h (gfAt 1 [])).1 (by decide +kernel)).1 0 8 (.inl (by decide +kernel))) ∧
    Met (((h (gfAt 0 [])).1 (by decide +kernel)).1 72 8 (.inr (by decide +kernel))) ∧
    Met (((h (gfAt 0 [])).1 (by decide +kernel)).2.1 0 7 (by decide +kernel) (by decide +kernel) (of_decide_eq_true (by decide +kernel)) |>.1 (by decide +kernel)) := ⟨trivial, trivial, trivial⟩

theorem witness_Grafting_2 (h : Obligations.Grafting) :
    Met (((h (gfAt 0 [])).1 (by decide +kernel)).2.1 0 0x7F (by decide +kernel) (by decide +kernel) (of_decide_eq_true (by decide +kernel)) |>.2 8 (by decide +kernel) (by decide +kernel)) ∧
    Met (((h (gfAt 0 [])).1 (by decide +kernel)).2.2.1 0 10 (by decide +kernel) (by decide +kernel) (of_decide_eq_true (by decide +kernel)) |>.1 (by decide +kernel)) ∧
    Met (((h (gfAt 0 [])).1 (by decide +kernel)).2.2.1 0 0x7F (by decide +kernel) (by decide +kernel) (of_decide_eq_true (by decide +kernel)) |>.2 9 (by decide +kernel) (by decide +kernel)) := ⟨trivial, trivial, trivial⟩

theorem witness_Grafting_3 (h : Obligations.Grafting) :
    Met (((h (gfAt 3 [(F.GF_CFG_AUTO.at stw, 0)])).1 (by decide +kernel)).2.2.2.1 (by decide +kernel) (by decide +kernel) (of_decide_eq_true (by decide +kernel))) ∧
    Met (((h (gfAt 5 [])).1 (by decide +kernel)).2.2.2.2 (by decide +kernel)) ∧
    Met (((h (gfAt 0 [])).2.1 71 (by decide +kernel)).1 8 (by decide +kernel)) := ⟨trivial, trivial, trivial⟩

theorem witness_Grafting_4 (h : Obligations.Grafting) :
    Met (((h (gfAt 0 [])).2.1 0 (by decide +kernel)).2.1 (by decide +kernel)) ∧
    Met (((h { gfAt 0 [] with omap := tset 0 mapOf [siteEntry 32] 1 }).2.1 0 (by decide +kernel)).2.2 (by decide +kernel)) ∧
    Met ((h (gfAt 1 [])).2.2.1 (by decide +kernel) (by decide +kernel) (of_decide_eq_true (by decide +kernel)) (by decide +kernel)) := ⟨trivial, trivial, trivial⟩

theorem witness_Grafting_5 (h : Obligations.Grafting) :
    Met ((h (gfAt 2 [])).2.2.2.1 (by decide +kernel) (by decide +kernel)) ∧
    Met ((h (gfTried 2)).2.2.2.2.1 33 (by decide +kernel) (by decide +kernel) (of_decide_eq_true (by decide +kernel)) (by decide +kernel)) ∧
    Met ((h (gfAt 3 [])).2.2.2.2.2.1 (by decide +kernel) (dg 5) [(⟨32, 0⟩, dg 5)] |>.1 (by decide +kernel)) := ⟨trivial, trivial, trivial⟩

theorem witness_Grafting_6 (h : Obligations.Grafting) :
    Met ((h gfSoak).2.2.2.2.2.1 (by decide +kernel) (dg 5) [] |>.2.1 ⟨32, 0⟩ (by decide +kernel) (fun _ i => by cases i)) ∧
    Met ((h gfSoak).2.2.2.2.2.1 (by decide +kernel) (dg 5) [(⟨32, 0⟩, dg 6)] |>.2.2 (⟨32, 0⟩, dg 6) (by decide +kernel) (by decide +kernel) (of_decide_eq_true (by decide +kernel)) (by decide +kernel) (by decide +kernel) (of_decide_eq_true (by decide +kernel))) ∧
    Met ((h (gfAt 3 [(F.SITE_STATE_STATE.at 2, 3)])).2.2.2.2.2.2 (by decide +kernel) |>.1 (by decide +kernel)) := ⟨trivial, trivial, trivial⟩

theorem witness_Grafting_7 (h : Obligations.Grafting) :
    Met ((h (gfAt 3 [])).2.2.2.2.2.2 (by decide +kernel) |>.2 (by decide +kernel) (by decide +kernel) (of_decide_eq_true (by decide +kernel)) (by decide +kernel) (by decide +kernel) (of_decide_eq_true (by decide +kernel))) := trivial
/-- Bring-up at a step on steward A, or busy with one. -/
def brAt (step : Nat) (l : List (Loc × Nat)) (f : BrSt → BrSt) : State :=
  { up lit0 ([(F.BR_STAT_STEP.at 306, step), (F.BR_STAT_STEP.at 307, step)] ++ l) with br := f lit0.br }

/-- A drain of core 0 alone. -/
def drainOf : State := { up lit0 [(F.CORE_STATE_STATE.core c0, 2)] with drains := [{ kind := .core c0, cores := [c0], start := 0 }] }

/-- What a step reports: nothing wrong. -/
def fine0 : StepRes := { ms := 5 }

/-- Step 7 under way, the dies A of the plots husks in the map but plot 0, whose sites are in a state. -/
def linking (st : Nat) : State :=
  { up State.reset [(F.BR_STAT_STEP.at 306, 6), (F.BR_STAT_STEP.at 307, 6)] with
    br := { State.reset.br with run := 7 }, omap := (List.range 4).map (fun n => ([siteEntry n], st + 1)) ++ (List.range 71).map (fun p => ([siteEntry (4 * p + 4)], 4)) }

/-- No link of a site with power is in training. -/
theorem linking_trained (st : Nat) (h : ∀ n ∈ allSites, (linking st).powered n = false ∨ (linking st).trained n = true) :
    ∀ n ∈ (linking st).poweredSites, (linking st).trained n = true := fun n hn => by
  have hm := List.mem_filter.1 hn
  rcases h n hm.1 with e | e
  · simp [State.dark, e] at hm
  · exact e

theorem witness_BringUpAndResets_1 (h : Obligations.BringUpAndResets) :
    Met (((h (brAt 2 [] id)).1 306 (.inl rfl) (by decide +kernel) (by decide +kernel) (of_decide_eq_true (by decide +kernel))).1 4 |>.1 (.inr (.inr (.inl (by decide +kernel))))) ∧
    Met (((h (brAt 2 [] id)).1 306 (.inl rfl) (by decide +kernel) (by decide +kernel) (of_decide_eq_true (by decide +kernel))).1 3 |>.2 (by decide +kernel) (by decide +kernel) (of_decide_eq_true (by decide +kernel)) (by decide +kernel) (by decide +kernel) (of_decide_eq_true (by decide +kernel))) ∧
    Met (((h (brAt 2 [] id)).1 307 (.inr rfl) (by decide +kernel) (by decide +kernel) (of_decide_eq_true (by decide +kernel))).1 3 |>.2 (by decide +kernel) (by decide +kernel) (of_decide_eq_true (by decide +kernel)) (by decide +kernel) (by decide +kernel) (fun q => absurd q (by decide +kernel))) := ⟨trivial, trivial, trivial⟩

theorem witness_BringUpAndResets_2 (h : Obligations.BringUpAndResets) :
    Met (((h (brAt 9 [] id)).1 306 (.inl rfl) (by decide +kernel) (by decide +kernel) (of_decide_eq_true (by decide +kernel))).2.1 (by decide +kernel) (by decide +kernel) (of_decide_eq_true (by decide +kernel)) (by decide +kernel)) ∧
    Met (((h (brAt 2 [] id)).1 306 (.inl rfl) (by decide +kernel) (by decide +kernel) (of_decide_eq_true (by decide +kernel))).2.2.1 (.inl (by decide +kernel))) ∧
    Met (((h (brAt 3 [] id)).1 306 (.inl rfl) (by decide +kernel) (by decide +kernel) (of_decide_eq_true (by decide +kernel))).2.2.2.1 (by decide +kernel) (by decide +kernel) (of_decide_eq_true (by decide +kernel)) (by decide +kernel) (by decide +kernel)) := ⟨trivial, trivial, trivial⟩

theorem witness_BringUpAndResets_3 (h : Obligations.BringUpAndResets) :
    Met (((h (brAt 3 [] id)).1 306 (.inl rfl) (by decide +kernel) (by decide +kernel) (of_decide_eq_true (by decide +kernel))).2.2.2.2.1 (by decide +kernel)) ∧
    Met (((h (brAt 3 [] (fun k => { k with auto := true }))).1 306 (.inl rfl) (by decide +kernel) (by decide +kernel) (of_decide_eq_true (by decide +kernel))).2.2.2.2.2.1 (by decide +kernel)) ∧
    Met (((h (brAt 3 [] id)).1 306 (.inl rfl) (by decide +kernel) (by decide +kernel) (of_decide_eq_true (by decide +kernel))).2.2.2.2.2.2.1 (.inl (by decide +kernel))) := ⟨trivial, trivial, trivial⟩

theorem witness_BringUpAndResets_4 (h : Obligations.BringUpAndResets) :
    Met (((h (brAt 10 [(F.CX_STATE_STATE.at stw 0 1, 2)] id)).1 306 (.inl rfl) (by decide +kernel) (by decide +kernel) (of_decide_eq_true (by decide +kernel))).2.2.2.2.2.2.2 (by decide +kernel) (by decide +kernel) (of_decide_eq_true (by decide +kernel)) (by decide +kernel)) ∧
    Met ((h (brAt 2 [(F.BR_FW_ADDR_ADDR.at 307, 0x3FFFFF)] id)).2.1 307 0x12345678 (.inr rfl) (by decide +kernel) (by decide +kernel) (of_decide_eq_true (by decide +kernel))) ∧
    Met (((h (brAt 0 [] id)).2.2.1 fine0 (by decide +kernel)).1 (by decide +kernel) (by decide +kernel)) := ⟨trivial, trivial, trivial⟩

theorem witness_BringUpAndResets_5 (h : Obligations.BringUpAndResets) :
    Met (((h (brAt 2 [(F.BR_FW_LEN_LEN.at 306, 0)] (fun k => { k with run := 3 }))).2.2.1 fine0 (by decide +kernel)).2.1 (by decide +kernel) (.inl (by decide +kernel)) (by decide +kernel) |>.2 (by decide +kernel) (by decide +kernel)) ∧
    Met (((h (brAt 3 [] (fun k => { k with run := 4 }))).2.2.1 fine0 (by decide +kernel)).2.2.1 (by decide +kernel) (by decide +kernel)) ∧
    Met (((h (linking 1)).2.2.1 fine0 (by decide +kernel)).2.2.2 (by decide +kernel) (by decide +kernel) (of_decide_eq_true (by decide +kernel)) (linking_trained 1 (by decide +kernel)) |>.1 (by decide +kernel)) := ⟨trivial, trivial, trivial⟩

theorem witness_BringUpAndResets_6 (h : Obligations.BringUpAndResets) :
    Met (((h (linking 3)).2.2.1 fine0 (by decide +kernel)).2.2.2 (by decide +kernel) (by decide +kernel) (of_decide_eq_true (by decide +kernel)) (linking_trained 3 (by decide +kernel)) |>.2 (by decide +kernel)) ∧
    Met ((h (up lit0 [(F.BR_RST_SITE.at 306, 3)])).2.2.2.1 (by decide +kernel) (by decide +kernel) (of_decide_eq_true (by decide +kernel)) |>.2 (by decide +kernel) |>.1 (by decide +kernel) |>.1 (.inl (by decide +kernel))) ∧
    Met ((h { lit0 with rstRun := some (.core c0), drains := [{ kind := .core c0, cores := [c0], start := 0 }] }).2.2.2.1 (by decide +kernel) (by decide +kernel) (of_decide_eq_true (by decide +kernel)) |>.1 (by decide +kernel)) := ⟨trivial, trivial, trivial⟩

theorem witness_BringUpAndResets_7 (h : Obligations.BringUpAndResets) :
    Met ((h lit0).2.2.2.1 (by decide +kernel) (by decide +kernel) (of_decide_eq_true (by decide +kernel)) |>.2 (by decide +kernel) |>.1 (by decide +kernel) |>.2 (by decide +kernel) (by decide +kernel) (of_decide_eq_true (by decide +kernel)) (by decide +kernel) (by decide +kernel)) ∧
    Met ((h (bare [(F.BR_RST_SCOPE.at 306, 1), (F.SY_OWNER_VALID.at 0 0 5, 1), (F.SY_OWNER_OWNER.at 0 0 5, 1), (F.CX_STATE_STATE.at stw 0 1, 2)])).2.2.2.1 (by decide +kernel) (by decide +kernel) (of_decide_eq_true (by decide +kernel)) |>.2 (by decide +kernel) |>.2 (by decide +kernel) (by decide +kernel) (of_decide_eq_true (by decide +kernel)) (by decide +kernel)) ∧
    Met ((h drainOf).2.2.2.2.1 0 { kind := .core c0, cores := [c0], start := 0 } c0 (by decide +kernel) (by decide +kernel) (of_decide_eq_true (by decide +kernel)) (by decide +kernel) (by decide +kernel)) := ⟨trivial, trivial, trivial⟩

theorem witness_BringUpAndResets_8 (h : Obligations.BringUpAndResets) :
    Met ((h { lit0 with sec := { lit0.sec with running := true } }).2.2.2.2.2 (by decide +kernel) (by decide +kernel) (of_decide_eq_true (by decide +kernel))) := trivial
/-- Step 3 under way on steward A, an image of no body in its buffer, the counters 0. -/
def image0 : State :=
  { brAt 2 [(F.BR_FW_LEN_LEN.at 306, 14516)] (fun k => { k with run := 3, site := 306 }) with
    fwbuf := [(0, 0x31), (1, 0x50), (2, 0x42), (3, 0x4C), (4, 1)],
    fld := tset 0 (tset 0 (up lit0 [(F.BR_STAT_STEP.at 306, 2), (F.BR_STAT_STEP.at 307, 2), (F.BR_FW_LEN_LEN.at 306, 14516)]).fld (F.SEC_FW_SVN_COUNT.at 308).key 1) (F.SEC_KEY_SVN_COUNT.at 308).key 1 }

/-- The image is good where its signatures verify and its root key is the one the ROM expects, which no run can show of constants without a body. -/
theorem image0_good (hv : ∀ k d g, Config.mldsaVerify k d g = true) (hr : sha3 (image0.fwBytes 306 64 keyBytes) = Config.rootHash) :
    (image0.loadFirmware 306).1 = 0 := by
  have hc : image0.imageCheck 306 = (0, 0) := by
    unfold State.imageCheck
    dsimp only
    rw [if_neg (by decide +kernel), hr, if_neg (by simp), hv, hv, if_neg (by simp), if_neg (by simp), if_neg (by decide +kernel)]
  simp [State.loadFirmware, hc]

theorem witness_BringUpAndResets_image (hv : ∀ k d g, Config.mldsaVerify k d g = true) (hr : sha3 (image0.fwBytes 306 64 keyBytes) = Config.rootHash)
    (h : Obligations.BringUpAndResets) : Met (((h image0).2.2.1 fine0 (by decide +kernel)).2.1 (by decide +kernel) (.inl (by decide +kernel)) (by decide +kernel) |>.1 (image0_good hv hr)) := trivial

/-- The journal: records waiting, records being written. -/
def jAt (pend opened : List JRec) (l : List (Loc × Nat)) : State := { up lit0 l with jpend := pend, jopen := opened, jprev := [] }

/-- A journal record. -/
def jrec0 : JRec := { kind := 1, time := 7, data := List.replicate 32 5 }

/-- Reset with an image being written: every memory in its form. -/
theorem reset_image_sound (seq at_ : Nat) : ({ State.reset with jimg := some (seq, at_) } : State).Sound :=
  ⟨rfl, rfl, rfl, rfl, rfl, rfl, by show (0 : Nat) < 2 ^ 64; omega, fun _ hi => by cases hi⟩

theorem witness_OrchardMap_1 (h : Obligations.OrchardMap) :
    Met (((h (jAt [jrec0] [] [])).1 .orCommit (by decide +kernel) (fun _ => (by decide +kernel))).1 (by decide +kernel) (by decide +kernel) (of_decide_eq_true (by decide +kernel))) ∧
    Met (((h (jAt [jrec0] [] [])).1 .orchardCommitTimer (by decide +kernel) (fun q => nomatch q)).1 (by decide +kernel) (by decide +kernel) (of_decide_eq_true (by decide +kernel))) ∧
    Met (((h (jAt [jrec0] [jrec0] [])).1 .orCommit (by decide +kernel) (fun _ => (by decide +kernel))).2.1 (by decide +kernel) (.inl (by decide +kernel))) := ⟨trivial, trivial, trivial⟩

theorem witness_OrchardMap_2 (h : Obligations.OrchardMap) :
    Met (((h (jAt [jrec0] [] [(F.OR_JUSED_BYTES.at stw, ringSize)])).1 .orCommit (by decide +kernel) (fun _ => (by decide +kernel))).2.1 (by decide +kernel) (.inr (by decide +kernel))) ∧
    Met (((h (jAt [] [] [])).1 .orCommit (by decide +kernel) (fun _ => (by decide +kernel))).2.2 (by decide +kernel)) ∧
    Met ((h (jAt [] [jrec0] [])).2.1 (by decide +kernel) |>.2.2.2.1 (by decide +kernel)) := ⟨trivial, trivial, trivial⟩

theorem witness_OrchardMap_3 (h : Obligations.OrchardMap) :
    Met ((h (jAt [] [] [])).2.2.1 (by decide +kernel) (by decide +kernel) (of_decide_eq_true (by decide +kernel))) ∧
    Met ((h { State.reset with jimg := some (5, 64) }).2.2.2.1 5 64 rfl (by decide +kernel) (reset_image_sound 5 64)) ∧
    Met ((h (jAt [] [] [(F.OR_RADDR_ADDR.at stw, 0x1FFFFF), (F.OR_RADDR_INC.at stw, 1)])).2.2.2.2 (by decide +kernel)) := ⟨trivial, trivial, trivial⟩
/-- Reset with two commands waiting. -/
def two0 : State := { State.reset with pending := [.standbyPowerGood, .pwrEnFall] }

theorem witness_StepKeepsSound (h : Obligations.StepKeepsSound) :
    Met (h State.reset (State.reset.tick.settle []) ⟨rfl, rfl, rfl, rfl, rfl, rfl, by show (0 : Nat) < 2 ^ 64; omega, fun _ hi => by cases hi⟩ rfl) := trivial
theorem witness_StepTakesFront (h : Obligations.StepTakesFront) :
    Met (h two0 .standbyPowerGood [.pwrEnFall] rfl) := trivial
theorem witness_IdleStepTicks (h : Obligations.IdleStepTicks) :
    Met (h State.reset rfl) := trivial
theorem witness_QueueIsCarriedOut (h : Obligations.QueueIsCarriedOut) :
    Met (h two0 2 (by decide +kernel)) := trivial
theorem witness_ReadsBack (h : Obligations.ReadsBack) :
    Met ((h.1 [] 5 6 [1#8, 2#8]).2 rfl) ∧
    Met ((h.2 State.reset (F.CK_STAT_STEP.at 0) (F.CK_STAT_STEP.at 1) 17).2 (by decide +kernel)) := ⟨trivial, trivial⟩
theorem witness_SiteTypes (h : Obligations.SiteTypes) :
    Met (h 0 (by decide +kernel) (by decide +kernel) (of_decide_eq_true (by decide +kernel))) ∧
    Met (h 323 (by decide +kernel) (by decide +kernel) (of_decide_eq_true (by decide +kernel))) := ⟨trivial, trivial⟩
theorem witness_LaneIntegers (h : Obligations.LaneIntegers) :
    Met (h _ (.head _) _ c0 _ (witness_lane_engine 0x05 (by decide +kernel))) := trivial
theorem witness_LaneFloats (h : Obligations.LaneFloats) :
    Met (h _ (.head _) _ c0 _ (witness_lane_engine 0x1A (by decide +kernel))) := trivial
theorem witness_LaneConversions (h : Obligations.LaneConversions) :
    Met (h.1 _ (.head _) _ c0 _ (witness_lane_engine 0x25 (by decide +kernel))) := trivial
theorem witness_LaneExchanges (h : Obligations.LaneExchanges) :
    Met (h.1 _ (.head _) _ c0 _ (witness_lane_engine 0x09 (by decide +kernel))) ∧
    Met (h.2 _ (.head _) _ c0 _ (witness_lane_engine 0x18 (by decide +kernel))) := ⟨trivial, trivial⟩
theorem witness_LaneDraws (h : Obligations.LaneDraws) :
    Met (h.1 _ (.head _) _ c0 _ (witness_lane_engine 0x2B (by decide +kernel))) ∧
    Met (h.2 _ c0 _ 0 (witness_lane_engine 0x38 (by decide +kernel)) witness_lane_seed) := ⟨trivial, trivial⟩
theorem witness_LaneFlow_1 (h : Obligations.LaneFlow) :
    Met ((h (laneAt (word 0 0 0 0 0 0)) c0 _ (by decide +kernel) (by decide +kernel) (of_decide_eq_true (by decide +kernel)) rfl (by decide +kernel) (by decide +kernel)).1 (by decide +kernel)) ∧
    Met ((h (laneAt (word 1 0 0 0 0 0)) c0 _ (by decide +kernel) (by decide +kernel) (of_decide_eq_true (by decide +kernel)) rfl (by decide +kernel) (by decide +kernel)).2.1 (by decide +kernel)) ∧
    Met ((h (laneAt (word 2 0 0 0 0 5)) c0 _ (by decide +kernel) (by decide +kernel) (of_decide_eq_true (by decide +kernel)) rfl (by decide +kernel) (by decide +kernel)).2.2.1 (by decide +kernel)) := ⟨trivial, trivial, trivial⟩

theorem witness_LaneFlow_2 (h : Obligations.LaneFlow) :
    Met ((h (laneAt (word 3 1 0 0 0 5)) c0 _ (by decide +kernel) (by decide +kernel) (of_decide_eq_true (by decide +kernel)) rfl (by decide +kernel) (by decide +kernel)).2.2.2.1 (by decide +kernel)) ∧
    Met ((h (laneAt (word 4 1 0 0 0 5)) c0 _ (by decide +kernel) (by decide +kernel) (of_decide_eq_true (by decide +kernel)) rfl (by decide +kernel) (by decide +kernel)).2.2.2.2.1 (by decide +kernel)) ∧
    Met ((h (laneAt (word 2 0 0 0 0 5)) c0 _ (by decide +kernel) (by decide +kernel) (of_decide_eq_true (by decide +kernel)) rfl (by decide +kernel) (by decide +kernel)).2.2.2.2.2 5) := ⟨trivial, trivial, trivial⟩
/-- A core slot that no die has. -/
def cBad : CoreId := ⟨0, 18⟩

/-- A site without cores as a core. -/
def cOff : CoreId := ⟨2, 0⟩

/-- A packet in range. -/
def pktIn : Pkt := { type := 1, dest := 2, src := 0 }

/-- A control message in range. -/
def ctlIn : CtlMsg := { type := 1, dest := 2, src := 0 }

/-- A Grove packet in range. -/
def gIn : GPkt := { type := 1, member := 0, die := 0, toMember := 1, toDie := 0 }

theorem test_wf_good : [Instr.nop c0, .read 2 pktIn {}, .rd ctlIn, .syncSignal { type := 1, dest := 0, cell := 0, value := 1, src := 0, slot := 0 },
    .errec { code := 1, site := 0, unit := 0, sev := 0 }, .groveData 288 0 false gIn, .cxCreate, .gfPlot 0 0x7F].all Instr.wf = true := by decide

theorem test_wf_refuses_sites : [Instr.registerWrite 318 0 0 0 0 0, .registerWrite 324 0 0 0 0 0, .nop cBad, .nop cOff, .diememScrub 2 0, .scrubDone 3 0, .flushDone 0, .wakeDone 3, .capRspTimeout 319,
    .portUp 304 0, .hostSnoop 2, .brAuto 305, .brStep 308 0, .ctlAck 324 0 0 0, .mlRetrain 0 16, .pllRelock 319].any Instr.wf = false := by decide

theorem test_wf_refuses_words : [Instr.registerWrite 0 256 0 0 0 0, .registerWrite 0 0 4096 0 0 0, .registerWrite 0 0 0 (2 ^ 32) 0 0, .registerWrite 0 0 0 0 4096 0, .registerWrite 0 0 0 0 0 512,
    .sqSeedHiWrite c0 (2 ^ 32), .cbDbgDataAccess c0 (some (2 ^ 32)), .ppInSample [2 ^ 32], .sensorRead 0 [0, 2 ^ 32], .traySensorRead none none (some (2 ^ 32)), .eqHeadWrite 0 (2 ^ 32)].any Instr.wf = false := by decide

theorem test_wf_refuses_packets : [Instr.read 2 { pktIn with dest := 512 } {}, .read 2 { pktIn with src := 512 } {}, .read 2 { pktIn with len := 65 } {}, .read 2 { pktIn with inl := List.replicate 25 0 } {},
    .write 2 { pktIn with len := 2, data := List.replicate 64 0 }, .write 2 { pktIn with len := 2, addr := 0xFC0, data := List.replicate 128 0 },
    .rd { ctlIn with dest := 512 }, .rd { ctlIn with src := 512 }, .mwr { ctlIn with words := List.replicate 9 0 }, .wr { ctlIn with words := [2 ^ 32] },
    .groveData 288 8 false gIn, .groveData 288 0 false { gIn with type := 0 }, .groveData 288 0 false { gIn with type := 6 }, .groveData 288 0 false { gIn with member := 512 },
    .groveData 288 0 false { gIn with toMember := 512 }, .groveData 288 0 false { gIn with die := 16 }, .groveAck 288 0 false { gIn with toDie := 16 }, .groveArrive 288 0 false gIn (2 ^ 32),
    .mesoaxFlitReceive 0 1 32 flit0 0, .mesoaxFlitReceive 0 1 0 flit0 (2 ^ 16), .ethFrameReceive 288 0 (List.replicate 16384 0)].any Instr.wf = false := by decide +kernel

theorem test_wf_refuses_messages : [Instr.syncSignal { type := 1, dest := 512, cell := 0, value := 0, src := 0, slot := 0 }, .syncWait { type := 1, dest := 0, cell := 0, value := 0, src := 512, slot := 0 },
    .syncWait { type := 1, dest := 0, cell := 2048, value := 0, src := 0, slot := 0 }, .syncWait { type := 1, dest := 0, cell := 0, value := 2 ^ 24, src := 0, slot := 0 },
    .syncWait { type := 1, dest := 0, cell := 0, value := 0, src := 0, slot := 32 }, .errec { code := 65536, site := 0, unit := 0, sev := 0 }, .errec { code := 1, site := 512, unit := 0, sev := 0 },
    .errec { code := 1, site := 0, unit := 256, sev := 0 }, .errec { code := 1, site := 0, unit := 0, sev := 4 }, .getInfo 0 256 [], .getMeas 0 0x10 [1]].any Instr.wf = false := by decide

theorem test_wf_refuses_ranges : [Instr.diememSlotAccess c0 (2 ^ 48) 0 none false 0, .diememSlotAccess c0 0 4097 none false 0, .diememSlotAccess c0 0 0 none false (2 ^ 32), .diememScrub 0 49, .lineFillDone 2 (2 ^ 28) 0, .lineFillDone 2 0 16,
    .channelContactLost 2 32, .pfIdleExpire 2 64, .rspTimeout 0 32 0, .rspTimeout 0 0 (2 ^ 16), .stepRelease 64, .waitResend 0 32, .syCmdSignal 0 512, .preemptDecision 4096, .preTmoExpire 1024,
    .bar0Access 0 (some 1048576) 0 4 none, .bar0Access 0 none (2 ^ 48) 4 none, .cxlMemRead 0 (2 ^ 52), .cxlMemWrite 0 0 [], .hostLinkTrained 0 5 17 false false false, .hdmDecoderCommit 0 2 0 0 0 1,
    .msixImodExpire 0 512, .doeDiscovery 0 256, .ctlCredit 0 1 0 9 0, .ucieTrainingDone 320 true 1 65, .capRsp 320 256 32 0, .groveRtoExpire 288 8192, .put 288 64, .memberLostTimeout 512, .refInputLost 2, .timeSlew true 65,
    .ckEpArm 0 32, .admissionGrant 0 (2 ^ 20), .phaseFail 0 (2 ^ 12) 0, .phaseFail 0 0 64, .plotBreakerOpen 72, .crackDetect 0 (2 ^ 16), .replayRestart 64, .gfPlot 128 0, .gfStack 0 128, .brStep 306 16, .resetDrainEnd 256,
    .commitSvn 3, .extend 32, .coreMemoryAccess c0 0 0 none 3 0, .tileConvertDone c0 (some (2 ^ 32)), .bringupStepDone { badSites := [318] }, .graftTestDone [319]].any Instr.wf = false := by decide +kernel

/-- A binary32 value rounded to an element format (R66). -/
def toFmt (f : Fmt) (ovf : Bool) (v : Nat) : Nat := encodeNum f .rne ovf (ofB32 v)

/-- The worked conversions of spec/03_number_formats.md. -/
theorem test_conversions_worked : [toFmt .e4m3 false 0x3E99999A, toFmt .e4m3 false 0x3F880000, toFmt .e4m3 false 0x3F980000, toFmt .e4m3 true 0x43E60000, toFmt .e4m3 false 0x43EB0000, toFmt .e4m3 true 0x43EB0000,
      toFmt .e4m3 false 0x3BA3D70A, toFmt .e2m1 false 0x40200000, toFmt .e9m6 false 0x300, toFmt .e8m7 false 0x300, toFmt .e5m2 false 0x4788B800] =
    [0x2A, 0x38, 0x3A, 0x7E, 0x7E, 0x7F, 0x03, 0x4, 0x1CE0, 0x0000, 0x7C] := by decide +kernel

/-- Stochastic rounding of 0x3E99999A to E4M3 at the draws beside D16 = 0x9999, and of the worked example of R219 beside D16 = 0x6000. -/
theorem test_stochastic_worked : (encodeNum .e4m3 (.sr 0x9998) false (ofB32 0x3E99999A), encodeNum .e4m3 (.sr 0x9999) false (ofB32 0x3E99999A),
      encodeNum .e8m7 (.sr 0x5FFF) false (ofB32 0x3F806000), encodeNum .e8m7 (.sr 0x6000) false (ofB32 0x3F806000), toFmt .e8m7 false 0x3F806000) = (0x2A, 0x29, 0x3F81, 0x3F80, 0x3F80) := by decide +kernel

/-- Signed zeros (R54). -/
theorem test_signed_zeros : (toB32 (addNum (ofB32 0x3F800000) (ofB32 0xBF800000)), toB32 (addNum (ofB32 0x80000000) (ofB32 0x80000000))) = (0, 0x80000000) := by decide +kernel

/-- The byte of the worked example of R205: its channel, cache set and tag. -/
theorem test_channel_worked : (chanOf 0x204000456, setOf 0x2040004, tagOf 0x2040004) = (4, 0x200, 0x204) := by decide

/-- The interleave set of the worked example of R43 at site 304, with the entries of its list that the examples of R43 and R349 use. -/
def setThree : State :=
  up State.reset ([(F.AM_SET_VALID.at 304 0 3, 1), (F.AM_BASE_BASE.at 304 0 3, 1024), (F.AM_SIZE_SIZE.at 304 0 3, 4096), (F.AM_SET_N.at 304 0 3, 64), (F.AM_START_START.at 304 0 3, 8),
    (F.AM_LIST_P.at 304 0 (64 * 3 + 35), 39), (F.AM_LIST_P.at 304 0 (64 * 3 + 1), 1)])

theorem test_interleave_worked : (setThree.amMap 304 3 0x010100023456, setThree.amMap 304 3 0x010000401240) = ((39, 0x204000456), (1, 0x200010240)) := by decide +kernel

/-- The coefficients of the worked example of the erasure code, k = 4. -/
theorem test_erasure_worked : (gfMul 0x03 0xF4, gfMul 0x02 0xF4, gfMul 0xF4 0x04, gfMul 0xF4 0x08) = (0x01, 0xF5, 0xF7, 0xF3) := by decide +kernel

/-- The check value of the IEEE 802.3 CRC-32, of the nine digits (R243 names the CRC). -/
theorem test_crc32 : crc32 ("123456789".toList.map (fun c => BitVec.ofNat 8 c.toNat)) = 0xCBF43926 := by decide +kernel

/-- Site 37 in service with power. -/
def siteUp : State := hostAt ((F.SITE_STATE_STATE.at 37, 1) :: (List.range 5).map (fun g => (F.RG_STAT_STATE.at 39 0 g, 1)))

/-- The address of the worked example of R36: register 0x100 of CORE_SEQ of core slot 5 on site 37, read through BAR0, goes out as word 1 of an RD: page 0x55, offset / 4 = 0x40, master 1,024. -/
theorem test_bar0_worked : (match exec (.bar0Access 0 none 0x02555100 4 none) siteUp with
    | .next t => t.msgs.filterMap (fun m => match m with | .ctl w => some (w.dest, w.words.head?) | _ => none)
    | _ => []) = [(37, some (0x55 + 0x40 <<< 8 + 1024 <<< 18))] := by decide +kernel

/-- A write that is not aligned is discarded (R35). -/
theorem test_unaligned_write : (match exec (.registerWrite 0 8 0x31 1 1088 306) (up lit0 [(F.PG_EVT_EVT.at 0 8, 3)]) with
    | .next t => decide (t = (up lit0 [(F.PG_EVT_EVT.at 0 8, 3)]).settle [])
    | _ => false) = true := by decide +kernel

/-- A W1C field clears the bits written as 1 (R10, R40). -/
theorem test_write_one_clears : (match exec (.registerWrite 0 8 0x30 1 1088 306) (up lit0 [(F.PG_EVT_EVT.at 0 8, 3)]) with
    | .next t => t.rd (F.PG_EVT_EVT.at 0 8)
    | _ => 9) = 2 := by decide +kernel

/-- The idle step is one tick of the 100 MHz reference, 10 ns (R412, log 12). -/
theorem test_idle_tick : (match step State.reset with | .next t => t.time | _ => 0) = State.reset.time + 10 := by decide +kernel

end Sys2Proof.Tests
end

section
/-! SUPPORT. The SITE registers after reset: what a register field reads before anything has written it, and the code of the part at each site (R24, R25, R29). -/

namespace Sys2Proof.Machine

/-- Nothing is written at reset: `State.fld` lists no field, so each one stands at its reset value. -/
@[simp] theorem State.rd_reset (l : Loc) : State.reset.rd l = l.rst := rfl

theorem rd_reset_SITE_ID_SITE (n : Nat) : State.reset.rd (F.SITE_ID_SITE.at n) = n := by
  simp [Fld.at, F.SITE_ID_SITE, resetOf]

theorem rd_reset_SITE_ID_TYPE (n : Nat) : State.reset.rd (F.SITE_ID_TYPE.at n) = partCode (partOf n) := by
  simp [Fld.at, F.SITE_ID_TYPE, resetOf]

/-- A plot holds die A, die B, the stack and the regulator, in the order of its four sites (R24). -/
theorem partCode_partOf_plot {n : Nat} (h : n < 288) : partCode (partOf n) = [0x0, 0x0, 0x1, 0x2].getD (n % 4) 0 := by
  have hpos : n % 4 = 0 ∨ n % 4 = 1 ∨ n % 4 = 2 ∨ n % 4 = 3 := by omega
  obtain dieA | dieB | stack | regulator := hpos
  · simp [partOf, h, dieA, partCode]
  · simp [partOf, h, dieB, partCode]
  · simp [partOf, h, stack, partCode]
  · simp [partOf, h, regulator, partCode]

/-- The dies along the rind, by their site numbers (R25). -/
theorem partCode_partOf_rind {n : Nat} (hge : 288 ≤ n) (hlt : n < 318) :
    partCode (partOf n) =
      if n < 304 then 0x3 else if n < 306 then 0x4 else if n < 308 then 0x5 else if n = 308 then 0x6 else if n = 309 then 0x7 else 0x8 := by
  rw [partOf, if_neg (Nat.not_lt.mpr hge)]
  simp only [hlt, if_true, apply_ite partCode]
  rfl

/-- A guest site reads one of two codes, by what was fitted at assembly (R23). -/
theorem partCode_partOf_guest {n : Nat} (hge : 320 ≤ n) (hlt : n < 324) :
    partCode (partOf n) = if Config.guestFitted (n - 320) then 0x9 else 0xA := by
  have hpart : partOf n = if Config.guestFitted (n - 320) then .guest else .noGuest := by
    simp (disch := omega) only [partOf, if_neg, if_pos]
  rw [hpart, apply_ite partCode]
  rfl

/-- Settles O9: at reset TYPE is the code of the site's part, which is read off for the plots, the rind and the guest sites in turn. -/
theorem siteTypes : Obligations.SiteTypes := by
  unfold Obligations.SiteTypes
  intro n hn h318 h319
  refine ⟨rd_reset_SITE_ID_SITE n, ?_⟩
  rw [rd_reset_SITE_ID_TYPE]
  have hrange : n < 288 ∨ (288 ≤ n ∧ n < 318) ∨ 320 ≤ n := by omega
  obtain plot | ⟨hge, rind⟩ | guest := hrange
  · rw [if_pos plot, partCode_partOf_plot plot]
  · rw [if_neg (Nat.not_lt.mpr hge), partCode_partOf_rind hge rind, if_pos rind]
  · simp (disch := omega) only [partCode_partOf_guest guest hn, if_neg]

end Sys2Proof.Machine
end

section
/-! SUPPORT. The codes of the element formats: the sign, exponent and fraction fields of a code, and what `decodeNum` answers for each class of codes (R46 to R50). -/

namespace Sys2Proof.Machine

/-- The sign S of a code (R46). -/
def signField (f : Fmt) (code : Nat) : Bool := code.testBit (fmtExp f + fmtFrac f)

/-- The exponent field E of a code (R46). -/
def expField (f : Fmt) (code : Nat) : Nat := code / 2 ^ fmtFrac f % 2 ^ fmtExp f

/-- The fraction field F of a code (R46). -/
def fracField (f : Fmt) (code : Nat) : Nat := code % 2 ^ fmtFrac f

theorem fmtBits_eq_exp_add_frac (f : Fmt) : fmtBits f = fmtExp f + fmtFrac f + 1 := by
  cases f <;> rfl

theorem fmtExp_pos (f : Fmt) : 0 < fmtExp f := by
  cases f <;> decide

theorem eqNum_fin_self (neg : Bool) (mag : Nat) (ex : Int) : eqNum (.fin neg mag ex) (.fin neg mag ex) = true := by
  simp only [eqNum, leNum, ltNum, Int.lt_irrefl, decide_false, Bool.not_false, Bool.and_self]

theorem bits_eq_expField (f : Fmt) (code : Nat) : bits code (fmtFrac f + fmtExp f - 1) (fmtFrac f) = expField f code := by
  have hpos := fmtExp_pos f
  have width : fmtFrac f + fmtExp f - 1 + 1 - fmtFrac f = fmtExp f := by omega
  rw [bits, width, Nat.shiftRight_eq_div_pow, expField]

theorem testBit_top_eq_signField (f : Fmt) (code : Nat) : code.testBit (fmtBits f - 1) = signField f code := by
  rw [fmtBits_eq_exp_add_frac, Nat.add_sub_cancel, signField]

section
variable {f : Fmt} {code : Nat}

theorem decodeNum_subnormal (hcode : code < 2 ^ fmtBits f) (hexp : expField f code = 0) :
    decodeNum f code = .fin (signField f code) (fracField f code) (1 - fmtBias f - fmtFrac f) := by
  simp only [decodeNum, Nat.mod_eq_of_lt hcode, bits_eq_expField, testBit_top_eq_signField, hexp, if_true, fracField]

/-- A nonzero exponent names a normal number, unless the format gives the top exponent another meaning (R48 to R50). -/
theorem decodeNum_normal (hcode : code < 2 ^ fmtBits f) (hexp : 0 < expField f code)
    (hord : expField f code < 2 ^ fmtExp f - 1 ∨ f = .e2m1 ∨ (f = .e4m3 ∧ fracField f code ≠ 7)) :
    decodeNum f code = .fin (signField f code) (2 ^ fmtFrac f + fracField f code) (expField f code - fmtBias f - fmtFrac f) := by
  simp only [decodeNum, Nat.mod_eq_of_lt hcode, bits_eq_expField, testBit_top_eq_signField, if_neg (Nat.ne_of_gt hexp), fracField]
  obtain below | rfl | ⟨rfl, frac⟩ := hord
  · cases f with
    | e2m1 => rfl
    | e4m3 => exact if_neg fun h => Nat.ne_of_lt below h.1
    | b32 | e8m7 | e9m6 | e5m2 => exact if_neg (Nat.ne_of_lt below)
  · rfl
  · exact if_neg fun h => frac h.2

theorem decodeNum_e4m3_nan (hcode : code < 2 ^ fmtBits .e4m3) (hexp : expField .e4m3 code = 15) (hfrac : fracField .e4m3 code = 7) :
    decodeNum .e4m3 code = .nan := by
  have hne : expField .e4m3 code ≠ 0 := by omega
  simp only [decodeNum, Nat.mod_eq_of_lt hcode, bits_eq_expField, if_neg hne]
  exact if_pos ⟨hexp, hfrac⟩

/-- The top exponent of the formats that keep it for Inf and NaN as IEEE 754 does (R50, R51). -/
theorem decodeNum_top (hcode : code < 2 ^ fmtBits f) (h2 : f ≠ .e2m1) (h4 : f ≠ .e4m3) (hexp : expField f code = 2 ^ fmtExp f - 1) :
    decodeNum f code = if fracField f code = 0 then .inf (signField f code) else .nan := by
  have hne : expField f code ≠ 0 := hexp ▸ Nat.sub_ne_zero_of_lt (Nat.one_lt_two_pow (Nat.ne_of_gt (fmtExp_pos f)))
  simp only [decodeNum, Nat.mod_eq_of_lt hcode, bits_eq_expField, testBit_top_eq_signField, if_neg hne, fracField]
  cases f with
  | e2m1 => exact absurd rfl h2
  | e4m3 => exact absurd rfl h4
  | b32 | e8m7 | e9m6 | e5m2 => exact if_pos hexp
end

/-- Settles O28: each row of the table is one format with R47's widths and bias, so each clause is the lemma about that class of codes. -/
theorem formatCodes : Obligations.FormatCodes := by
  unfold Obligations.FormatCodes
  rintro ⟨f, e, fb, b⟩ hrow code hcode
  obtain ⟨rfl, rfl, rfl⟩ : e = fmtExp f ∧ fb = fmtFrac f ∧ b = fmtBias f := by
    simp only [List.mem_cons, Prod.mk.injEq, List.not_mem_nil, or_false] at hrow
    rcases hrow with ⟨rfl, rfl, rfl, rfl⟩ | ⟨rfl, rfl, rfl, rfl⟩ | ⟨rfl, rfl, rfl, rfl⟩ | ⟨rfl, rfl, rfl, rfl⟩ | ⟨rfl, rfl, rfl, rfl⟩ |
      ⟨rfl, rfl, rfl, rfl⟩ <;> exact ⟨rfl, rfl, rfl⟩
  have hbits : code < 2 ^ fmtBits f := fmtBits_eq_exp_add_frac f ▸ hcode
  refine ⟨fun subnormal => ?_, fun positive ordinary => ?_, ?_, ?_⟩
  · exact ⟨_, _, decodeNum_subnormal hbits subnormal, eqNum_fin_self _ _ _⟩
  · exact ⟨_, _, decodeNum_normal hbits positive ordinary, eqNum_fin_self _ _ _⟩
  · rintro rfl top frac
    exact decodeNum_e4m3_nan hbits top frac
  · exact decodeNum_top hbits

end Sys2Proof.Machine
end
